-- ==== Sys2Proof/Syntax.lean ====
section
/-! DEFINITION. The commands: one constructor for each row of spec/opcode_table.json, in the table's order, with the
operands that the world gives with it. t is the module time (ns) at which the command happens. -/

namespace Sys2Proof

/-- What a RoCEv2 packet of a host asks for (13 Table 13-1); every other operation is other. -/
inductive RoceOp where
  /-- a packet of a SEND: is it its first, is it its last. -/
  | send (first last : Bool)
  /-- a packet of an RDMA WRITE: is it its first, is it its last. -/
  | write (first last : Bool)
  /-- an RDMA READ request. -/
  | read
  /-- an ACK of the module's operations up to its PSN. -/
  | ack
  /-- a NAK of the module's operations: code 0 sequence, else fatal. -/
  | nak (code : Nat)
  /-- an RNR NAK of the module's operation. -/
  | rnr
  /-- an operation or transport outside Table 13-1. -/
  | other
  deriving DecidableEq, Repr

/-- A RoCEv2 packet as it arrives on a session's queue pair (13 R371). -/
structure RocePacket where
  /-- host port it arrived on. -/
  port : Fin 4
  /-- what it asks for. -/
  op : RoceOp
  /-- packet sequence number, 24 bits. -/
  psn : BitVec 24
  /-- AckReq bit. -/
  ackReq : Bool
  /-- marked CE. -/
  ce : Bool
  /-- RETH virtual address. -/
  addr : Nat
  /-- RETH remote key. -/
  rkey : Nat
  /-- RETH length. -/
  len : Nat
  /-- payload, at most 4,096 bytes. -/
  payload : Bytes
  deriving DecidableEq, Repr

/-- A PTP message of R56 on the PTP port. -/
inductive PtpMsg where
  /-- Delay_Req received (this module transmits). -/
  | delayReq (domain : Nat)
  /-- Delay_Resp with the transmitter's receipt time. -/
  | delayResp (domain : Nat) (received : Nat)
  /-- Follow_Up with the precise origin time of the preceding Sync, and the Sync's receipt. -/
  | followUp (domain : Nat) (origin received : Nat)
  /-- Announce: priority1, clock quality, priority2, identity. -/
  | announce (domain prio1 quality prio2 identity : Nat)
  deriving DecidableEq, Repr

/-- A self-test of a frame that is not just a pass in its turn (18 R502, R503). -/
structure SelfTest where
  /-- place of the tile, d × 272 + r × 17 + c. -/
  place : Nat
  /-- the unit that failed. -/
  unit : Nat
  /-- 0 a further test that passed; 1 a failure that did not repeat; 2 a repeated failure confined to one column; 3 any
  other repeated failure. -/
  outcome : Fin 4
  deriving DecidableEq, Repr

/-- What the master reads of a member's Lots by remote access (06 R172, 17 R486). -/
structure MemberLot where
  /-- device number. -/
  device : Nat
  /-- STAGED_LOT. -/
  staged : Nat
  /-- shard index of the staged image. -/
  shard : Nat
  /-- shard count of the staged image. -/
  shards : Nat
  /-- COMMITTED_LOT. -/
  committed : Nat
  /-- ACTIVE_LOT. -/
  active : Nat
  deriving DecidableEq, Repr

/-- The commands of the module. -/
inductive Instr where
  /-- TICK (R41). -/
  | tick (tests : List SelfTest)
  /-- CHANGE_LIST_CLOSE (R12). -/
  | changeListClose
  /-- DEFER_LIMIT_EXPIRY (R49). -/
  | deferLimitExpiry
  /-- GATE_2 (R117). -/
  | gate2
  /-- CONTRIBUTION (R144). -/
  | contribution (query : Nat) (tile : Fin 512) (measured : List (Nat × Nat × Nat))
  /-- RERANK (R149). -/
  | rerank (query : Nat)
  /-- COST_INTERVAL_CLOSE (R114). -/
  | costIntervalClose
  /-- QUERY (R104). -/
  | query (t : Nat) (session : Nat)
  /-- SET_DEFAULTS (R103). -/
  | setDefaults (t : Nat) (session : Nat)
  /-- ATTR_WRITE (R175). -/
  | attrWrite (t : Nat) (session : Nat)
  /-- STORE_READ (R429). -/
  | storeRead (t : Nat) (session : Nat) (bad : List Nat)
  /-- STORE_WRITE (R430). -/
  | storeWrite (t : Nat) (session : Nat)
  /-- RANGE_LOCK_RELEASE (R428). -/
  | rangeLockRelease (t : Nat) (cmd : Nat)
  /-- STORE_DATA_FETCHED (R430). -/
  | storeDataFetched (t : Nat) (cmd : Nat) (data : Bytes)
  /-- WRITE_CACHE_DRAIN (R430). -/
  | writeCacheDrain (t : Nat) (permille : Nat)
  /-- JOURNAL_LIMIT_UPDATE (R436). -/
  | journalLimitUpdate (t : Nat) (mv : Nat) (cells : List Nat)
  /-- POWER_FAIL_INDICATION (R438). -/
  | powerFailIndication (t : Nat) (flushUs : Nat) (torn : List Nat)
  /-- START (R482). -/
  | start (t : Nat) (mv : Nat) (torn : List Nat) (rimOk : Bool)
  /-- MAIN_POWER_RISE (R522). -/
  | mainPowerRise (t : Nat) (mv : Nat)
  /-- STANDBY_LOST (R522). -/
  | standbyLost (t : Nat)
  /-- RST_L (R525). -/
  | rstL (t : Nat) (low : Bool) (ns : Nat) (flushUs : Nat)
  /-- LPDDR_INIT_DONE (R355). -/
  | lpddrInitDone (t : Nat)
  /-- STARTUP_LOT_LOAD (R485). -/
  | startupLotLoad (t : Nat)
  /-- STARTUP_LOT_SWITCH (R486). -/
  | startupLotSwitch (t : Nat)
  /-- MASTER_STARTUP_CHECK (R486). -/
  | masterStartupCheck (t : Nat) (members : List MemberLot)
  /-- TABLE_RESTORE (R487). -/
  | tableRestore (t : Nat)
  /-- LOCK_FALLBACK (R55). -/
  | lockFallback (t : Nat)
  /-- MODULE_TIME_PERSIST (R55). -/
  | moduleTimePersist (t : Nat)
  /-- PTP_SYNC (R52). -/
  | ptpSync (t : Nat) (port : Fin 4) (domain : Nat) (origin : Nat)
  /-- SYNC_LOSS (R52). -/
  | syncLoss (t : Nat)
  /-- HOLDOVER_LIMIT_EXCEEDED (R53). -/
  | holdoverLimitExceeded (t : Nat)
  /-- TIME_STEP (R54). -/
  | timeStep (t : Nat)
  /-- PPS_IN (R57). -/
  | ppsIn (t : Nat) (ns : Nat)
  /-- BEACON (R59). -/
  | beacon (port : Fin 12) (t : Nat) (cell : Bytes)
  /-- BEACON_MISSING (R59). -/
  | beaconMissing (t : Nat)
  /-- EMERGENCY_STEP (R528). -/
  | emergencyStep (t : Nat) (cause : Fin 4) (mv watts : Nat)
  /-- STEP_RESTORE (R529). -/
  | stepRestore (t : Nat)
  /-- THERMAL_ALERT (R531). -/
  | thermalAlert (t : Nat) (temps : List Int)
  /-- THERMAL_TRIP (R531). -/
  | thermalTrip (t : Nat) (temps : List Int) (flushUs : Nat)
  /-- MOVE (R231). -/
  | move (tile : Fin 512) (waits : Nat)
  /-- GATHER (R232). -/
  | gather (tile : Fin 512) (waits : Nat)
  /-- SCATTER_ACC (R232). -/
  | scatterAcc (tile : Fin 512) (waits : Nat)
  /-- MMA (R197). -/
  | mma (tile : Fin 512)
  /-- EPI (R217). -/
  | epi (tile : Fin 512)
  /-- SKSCAN (R134). -/
  | skscan (tile : Fin 512)
  /-- WINS (R265). -/
  | wins (tile : Fin 512)
  /-- WDRAIN (R268). -/
  | wdrain (tile : Fin 512)
  /-- ARGMAX (R271). -/
  | argmax (tile : Fin 512) (waits : Nat)
  /-- REDUCE (R317). -/
  | reduce (tile : Fin 512) (waits : Nat)
  /-- POOL (R300). -/
  | pool (tile : Fin 512)
  /-- SIGNAL (R237). -/
  | signal (tile : Fin 512) (waits : Nat)
  /-- WAIT (R238). -/
  | wait (tile : Fin 512)
  /-- REARM (R256). -/
  | rearm (tile : Fin 512)
  /-- HALT (R238). -/
  | halt (tile : Fin 512)
  /-- STREAM_STALLED (R255). -/
  | streamStalled (tile : Fin 512) (ctx : Fin 8)
  /-- EVENT_COUNTER_CHANGE (R239). -/
  | eventCounterChange (tile : Fin 512) (evt : Fin 64) (set : Bool) (value : Nat)
  /-- VAT_ACCUMULATE_WRITE (R212). -/
  | vatAccumulateWrite (tile : Fin 512) (offset : Nat) (operand : Bytes)
  /-- WINNER_WRITE (R275). -/
  | winnerWrite (tile : Fin 512) (offset : Nat) (coll rows op fmt evt : Nat) (records : Bytes)
  /-- GFX64_ADD (R318). -/
  | gfx64Add (job : Fin 64) (addr value : Nat)
  /-- KEYED_ADD (R319). -/
  | keyedAdd (job : Fin 64) (tensor : Nat) (owner : Bool) (row lane : Nat) (values : List Nat)
  /-- LSA_COMBINE (R320). -/
  | lsaCombine (port : Fin 12) (job : Fin 64) (device addr lane value : Nat)
  /-- LOOKUP_OWNER_POOL (R290). -/
  | lookupOwnerPool (tile : Fin 512)
  /-- LOOKUP_COMBINE (R291). -/
  | lookupCombine (tile : Fin 512)
  /-- LOOKUP_INCOMPLETE (R294). -/
  | lookupIncomplete
  /-- HOT_ROW_REFRESH (R297). -/
  | hotRowRefresh
  /-- REDUCTION_DEADLINE (R314). -/
  | reductionDeadline (job : Fin 64)
  /-- TOKEN (R322). -/
  | tokenCell (port : Fin 12) (t : Nat) (cell : Bytes)
  /-- RING (R321). -/
  | ring (port : Fin 12) (t : Nat) (cell : Bytes)
  /-- LATE_VERDICT (R323). -/
  | lateVerdict (t : Nat) (job : Fin 64) (verdict : Bytes)
  /-- ABORT (R416). -/
  | abort (port : Fin 12) (t : Nat) (cell : Bytes)
  /-- BATCH_OPEN (R406). -/
  | batchOpen (port : Fin 12) (t : Nat) (cell : Bytes)
  /-- QUERY_RECORD (R407). -/
  | queryRecord (port : Fin 12) (t : Nat) (cell : Bytes)
  /-- BATCH_END (R408). -/
  | batchEnd (port : Fin 12) (t : Nat) (cell : Bytes)
  /-- BATCH_ACCEPT (R409). -/
  | batchAccept (t : Nat) (entry : Nat) (group : Nat)
  /-- TOWER_OUT (R412). -/
  | towerOut (port : Fin 12) (t : Nat) (cell : Bytes)
  /-- TOWER_OUT_LATE (R412). -/
  | towerOutLate (t : Nat)
  /-- ANSWER (R156). -/
  | answer (port : Fin 12) (t : Nat) (cell : Bytes)
  /-- CASCADE_MERGE (R160). -/
  | cascadeMerge (t : Nat)
  /-- SCHED (R417). -/
  | sched (port : Fin 12) (t : Nat) (cell : Bytes)
  /-- DONE (R415). -/
  | doneCell (port : Fin 12) (t : Nat) (cell : Bytes)
  /-- STATE (R396). -/
  | stateCell (port : Fin 12) (t : Nat) (cell : Bytes)
  /-- STATE_ORIGINATE (R396). -/
  | stateOriginate (t : Nat)
  /-- LINK (R393). -/
  | link (port : Fin 12) (t : Nat) (cell : Bytes)
  /-- DELAY (R401). -/
  | delay (port : Fin 12) (t : Nat) (cell : Bytes)
  /-- DELAY_INTERVAL (R401). -/
  | delayInterval (t : Nat)
  /-- READ_REQ (R414). -/
  | readReq (port : Fin 12) (t : Nat) (cell : Bytes)
  /-- READ_DATA (R415). -/
  | readData (port : Fin 12) (t : Nat) (cell : Bytes)
  /-- WRITE (R414). -/
  | writeCell (port : Fin 12) (t : Nat) (cell : Bytes)
  /-- ACC (R416). -/
  | acc (port : Fin 12) (t : Nat) (cell : Bytes)
  /-- REMOTE_SIGNAL (R414). -/
  | remoteSignal (port : Fin 12) (t : Nat) (cell : Bytes)
  /-- LOOKUP (R293). -/
  | lookup (port : Fin 12) (t : Nat) (cell : Bytes)
  /-- REMOTE_TIMEOUT (R415). -/
  | remoteTimeout (t : Nat)
  /-- GAP_NAK (R393). -/
  | gapNak (port : Fin 12) (t : Nat)
  /-- REPLAY_TIMEOUT (R393). -/
  | replayTimeout (port : Fin 12) (t : Nat)
  /-- RESERVED_TYPE_CELL (R394). -/
  | reservedTypeCell (port : Fin 12) (t : Nat) (cell : Bytes)
  /-- LANE_LOCK (R391). -/
  | laneLock (port : Fin 12) (t : Nat) (lane : Fin 4)
  /-- LANE_LOSS (R390). -/
  | laneLoss (port : Fin 12) (t : Nat) (lane : Fin 4)
  /-- LINK_RETRY (R391). -/
  | linkRetry (port : Fin 12) (t : Nat)
  /-- LANE_CRC_CHECK (R500). -/
  | laneCrcCheck (t : Nat)
  /-- ROCE_PACKET (R371). -/
  | rocePacket (t : Nat) (session : Nat) (pkt : RocePacket)
  /-- ACK_DELAY_EXPIRY (R372). -/
  | ackDelayExpiry (t : Nat) (session : Nat)
  /-- LOCAL_ACK_TIMEOUT (R373). -/
  | localAckTimeout (t : Nat) (session : Nat)
  /-- CNP (R375). -/
  | cnp (t : Nat) (session : Nat)
  /-- RATE_RECOVER (R375). -/
  | rateRecover (t : Nat) (session : Nat)
  /-- PFC_FRAME (R368). -/
  | pfcFrame (t : Nat) (port : Fin 4) (times : List (Nat × Nat))
  /-- HOST_RDMA_WRITE (R382). -/
  | hostRdmaWrite (t : Nat) (session addr rkey : Nat) (data : Bytes)
  /-- HOST_RDMA_READ (R383). -/
  | hostRdmaRead (t : Nat) (session addr rkey len psn : Nat)
  /-- REQ (R377). -/
  | req (t : Nat) (port : Fin 4) (ip : Nat) (qpn rnr : Nat) (request : Bytes)
  /-- RTU (R377). -/
  | rtu (t : Nat) (session : Nat)
  /-- DREQ (R379). -/
  | dreq (t : Nat) (session : Nat)
  /-- LINK_DOWN_HOLD (R370). -/
  | linkDownHold (t : Nat) (port : Fin 4)
  /-- NEIGHBOUR_RESOLUTION (R369). -/
  | neighbourResolution (t : Nat) (port : Fin 5) (kind : Fin 3) (target peer mac : Nat) (data : Bytes)
  /-- REORDER_HOLD_EXPIRY (R386). -/
  | reorderHoldExpiry (t : Nat) (injector : Nat)
  /-- INJECT_LIMIT (R516). -/
  | injectLimit
  /-- VILUR_DATAGRAM (R455). -/
  | vilurDatagram (t : Nat) (port : Fin 5) (addr udp : Nat) (payload : Bytes)
  /-- READ (R461). -/
  | read (t : Nat)
  /-- READ_PENDING (R463). -/
  | readPending (t : Nat)
  /-- WRITE_OD (R450). -/
  | writeOd (t : Nat)
  /-- STAGE (R459). -/
  | stage (t : Nat)
  /-- WRITE_STAGED (R459). -/
  | writeStaged (t : Nat)
  /-- CHALLENGE (R466). -/
  | challenge (t : Nat)
  /-- UNLOCK (R468). -/
  | unlock (t : Nat)
  /-- LOCK (R468). -/
  | lock (t : Nat)
  /-- SUBSCRIBE (R469). -/
  | subscribe (t : Nat)
  /-- UNSUBSCRIBE (R469). -/
  | unsubscribe (t : Nat)
  /-- PING (R458). -/
  | ping (t : Nat)
  /-- NOTIFY (R471). -/
  | notify (t : Nat) (client : Nat) (sub : Fin 4)
  /-- CLIENT_IDLE (R456). -/
  | clientIdle (t : Nat)
  /-- MAINTAIN_EXPIRY (R468). -/
  | maintainExpiry (t : Nat)
  /-- LOCK_ALL (R468). -/
  | lockAll (t : Nat)
  /-- TICK_PERIOD_WRITE (R42). -/
  | tickPeriodWrite (t : Nat)
  /-- PROFILE_WRITE (R60). -/
  | profileWrite (t : Nat)
  /-- POWER_CAP_WRITE (R527). -/
  | powerCapWrite (t : Nat)
  /-- LOT_LOAD (R167). -/
  | lotLoad (t : Nat)
  /-- LOAD_DONE (R167). -/
  | loadDone (t : Nat) (readOk : Bool)
  /-- LOT_UNSTAGE (R169). -/
  | lotUnstage (t : Nat)
  /-- LOT_SWITCH (R170). -/
  | lotSwitch (t : Nat) (members : List MemberLot)
  /-- LOT_ROLLBACK (R173). -/
  | lotRollback (t : Nat)
  /-- LOT_IMPORT (R166). -/
  | lotImport (t : Nat)
  /-- IMPORT_DONE (R166). -/
  | importDone (t : Nat) (data : Bytes)
  /-- LOT_DELETE (R169). -/
  | lotDelete (t : Nat)
  /-- HOLD_PREVIOUS_CLEAR (R173). -/
  | holdPreviousClear (t : Nat)
  /-- LOT_REPAIRED (R363). -/
  | lotRepaired (t : Nat)
  /-- BUILD_START (R178). -/
  | buildStart (t : Nat)
  /-- BUILD_CANCEL (R185). -/
  | buildCancel (t : Nat)
  /-- BUILD_ENDED (R186). -/
  | buildEnded (t : Nat) (input deletes : Option Bytes)
  /-- STREAM_ARM (R249). -/
  | streamArm (t : Nat)
  /-- STREAM_DISARM (R258). -/
  | streamDisarm (t : Nat)
  /-- STREAM_REARM (R257). -/
  | streamRearm (t : Nat)
  /-- TABLE_STAGE (R284). -/
  | tableStage (t : Nat)
  /-- TABLE_UNSTAGE (R284). -/
  | tableUnstage (t : Nat)
  /-- TABLE_SWITCH (R285). -/
  | tableSwitch (t : Nat) (members : List (Nat × Nat))
  /-- TABLE_LOAD (R284). -/
  | tableLoad (t : Nat)
  /-- JOB_CONFIG (R311). -/
  | jobConfig (t : Nat) (members : List Nat)
  /-- JOB_START (R312). -/
  | jobStart (t : Nat)
  /-- JOB_STOP (R312). -/
  | jobStop (t : Nat)
  /-- JOBS_ENABLE (R338). -/
  | jobsEnable (t : Nat)
  /-- DIGEST_CHECK (R337). -/
  | digestCheck (t : Nat) (members : List (Nat × Bytes))
  /-- SESSION_RESET (R379). -/
  | sessionReset (t : Nat)
  /-- WINDOW (R381). -/
  | window (t : Nat)
  /-- SHARD_MAP (R403). -/
  | shardMap (t : Nat)
  /-- USER_REGION_BYTES (R357). -/
  | userRegionBytes (t : Nat)
  /-- STORE_AREA_BYTES (R421). -/
  | storeAreaBytes (t : Nat)
  /-- SLICE_RESERVE_BYTES (R250). -/
  | sliceReserveBytes (t : Nat)
  /-- OWNER_KEY_REPLACE (R493). -/
  | ownerKeyReplace (t : Nat)
  /-- OWNER_CLEAR (R493). -/
  | ownerClear (t : Nat)
  /-- ATTEST_REQUEST (R494). -/
  | attestRequest (t : Nat)
  /-- FW_UPDATE (R496). -/
  | fwUpdate (t : Nat)
  /-- FW_UPDATE_DONE (R496). -/
  | fwUpdateDone (t : Nat) (readBackOk : Bool)
  /-- FW_COMMIT (R497). -/
  | fwCommit (t : Nat)
  /-- DEBUG_ENABLE (R495). -/
  | debugEnable (t : Nat)
  /-- ORDERLY_RESET (R480). -/
  | orderlyReset (t : Nat)
  /-- IMMEDIATE_RESET (R480). -/
  | immediateReset (t : Nat) (flushUs : Nat)
  /-- FACTORY_RESET (R499). -/
  | factoryReset (t : Nat)
  /-- CUTOVER_REQUEST (R517). -/
  | cutoverRequest (t : Nat)
  /-- CLEAR_FAILED (R511). -/
  | clearFailed (t : Nat)
  /-- EVENT_QUERY (R515). -/
  | eventQuery (t : Nat)
  /-- INJECT_ARM (R516). -/
  | injectArm (t : Nat)
  /-- INJECTOR_WRITE (R516). -/
  | injectorWrite (t : Nat)
  /-- TEST_NOW (R443). -/
  | testNow (t : Nat)
  /-- CAPACITANCE_TEST (R443). -/
  | capacitanceTest (t : Nat) (before after : List Nat) (esr : Nat)
  /-- BANK_AT_TARGET (R440). -/
  | bankAtTarget (t : Nat)
  /-- TEST_INTERVAL (R443). -/
  | testInterval (t : Nat)
  /-- HANG_LIMIT (R504). -/
  | hangLimit (t : Nat) (tile : Fin 512)
  /-- UNSPARABLE (R510). -/
  | unsparable (t : Nat) (cause : Nat) (flushUs : Nat)
  /-- MEMORY_ERROR (R362). -/
  | memoryError (t : Nat) (source : Fin 4) (cls : Fin 4) (addr syndrome : Nat)
  /-- PATROL_SCRUB (R353). -/
  | patrolScrub (t : Nat) (addr : Nat)
  /-- REFRESH_POLL (R354). -/
  | refreshPoll (t : Nat) (pkg : Fin 32) (multiplier : Nat) (hot : Bool)
  /-- HEALTH_WINDOW (R500). -/
  | healthWindow (t : Nat)
  /-- CODE_CHECK (R512). -/
  | codeCheck (t : Nat) (digest : Bytes) (corrected : Nat) (flushUs : Nat)
  /-- WATCHDOG (R512). -/
  | watchdog (t : Nat) (flushUs : Nat)
  /-- STATUS (R534). -/
  | status (t : Nat)
  /-- INPUT_POWER (R534). -/
  | inputPower (t : Nat)
  /-- HOTTEST (R534). -/
  | hottest (t : Nat)
  /-- CAP_LIMIT (R534). -/
  | capLimit (t : Nat) (write : Option Nat)
  /-- OWNER_KEY_CHUNK (R534). -/
  | ownerKeyChunk (t : Nat) (block : Bytes)
  /-- OWNER_KEY_COMMIT (R534). -/
  | ownerKeyCommit (t : Nat) (block : Bytes)
  /-- SMBUS_OWNER_CLEAR (R534). -/
  | smbusOwnerClear (t : Nat) (value : Nat)
  /-- KEY_RESULT (R534). -/
  | keyResult (t : Nat)
  /-- HOST_LINK_CHANGE (R370). -/
  | hostLinkChange (t : Nat) (port : Fin 5) (up : Bool)
  /-- STANDBY_RISE (R534). -/
  | standbyRise (t : Nat) (mv : Nat)
  /-- THERMAL_ALERT_END (R531). -/
  | thermalAlertEnd (t : Nat) (temps : List Int)
  /-- BANK_TEMPERATURE_CHANGE (R441). -/
  | bankTemperatureChange (t : Nat) (temp : Int)
  /-- PPS_OUT_PULSE (R57). -/
  | ppsOutPulse (t : Nat)
  /-- PTP_MESSAGE (R56). -/
  | ptpMessage (t : Nat) (port : Fin 4) (msg : PtpMsg)
  /-- PTP_INTERVAL (R56). -/
  | ptpInterval (t : Nat)
  /-- SCHED_TIMEOUT (R417). -/
  | schedTimeout (t : Nat)
  /-- RNR_RETRY (R373). -/
  | rnrRetry (t : Nat) (session : Nat)
  /-- CELL_CRC_FAIL (R392). -/
  | cellCrcFail (port : Fin 12) (t : Nat) (lane : Fin 4)
  /-- IDLE (R393). -/
  | idle (port : Fin 12) (t : Nat) (cell : Bytes)
  /-- FCS_ERROR (R367). -/
  | fcsError (t : Nat) (port : Fin 4) (bytes : Nat) (prio : Nat) (full : Bool) (corrected bad : Nat)
  deriving DecidableEq, Repr

end Sys2Proof
end

