-- ==== Sys2Proof/Machine/Bits.lean ====
section
/-! DEFINITION. Bit fields, little-endian byte strings (00 R4 to R6) and the integer arithmetic of the formulas. -/

namespace Sys2Proof.Machine

/-- Bits [hi:lo] of a number (00 R5). -/
def fld (w hi lo : Nat) : Nat := (w >>> lo) % 2 ^ (hi + 1 - lo)

/-- Bit i of a number. -/
def bitAt (w i : Nat) : Bool := w.testBit i

/-- 1 for true. -/
def b2n (b : Bool) : Nat := if b then 1 else 0

/-- A field placed at bit lo of a wider number, cut to width n. -/
def put (v n lo : Nat) : Nat := (v % 2 ^ n) <<< lo

/-- Set or clear bit i. -/
def setBit (w i : Nat) (b : Bool) : Nat :=
  if b then w ||| (1 <<< i) else if w.testBit i then w - 2 ^ i else w

/-- Least integer at or above a / b; 0 for b = 0. -/
def ceilDiv (a b : Nat) : Nat := (a + b - 1) / b

/-- a rounded up to a multiple of b. -/
def roundUp (a b : Nat) : Nat := ceilDiv a b * b

/-- Addition that stops at the top of a width of w bits. -/
def satAdd (w a b : Nat) : Nat := min (a + b) (2 ^ w - 1)

/-- The number whose little-endian bytes these are (00 R4). -/
def leNat : Bytes → Nat
  | [] => 0
  | b :: r => b.toNat + 256 * leNat r

/-- The number whose big-endian bytes these are. -/
def beNat (bs : Bytes) : Nat := leNat bs.reverse

/-- n little-endian bytes of a number, cut to them. -/
def toLe : Nat → Nat → Bytes
  | 0, _ => []
  | n + 1, v => BitVec.ofNat 8 v :: toLe n (v / 256)

/-- n big-endian bytes of a number. -/
def toBe (n v : Nat) : Bytes := (toLe n v).reverse

/-- n zero bytes. -/
def zeros (n : Nat) : Bytes := List.replicate n 0

/-- n bytes from offset o; bytes past the end are 0. -/
def sub (bs : Bytes) (o n : Nat) : Bytes :=
  let r := (bs.drop o).take n
  r ++ zeros (n - r.length)

/-- The little-endian number in n bytes from offset o. -/
def leAt (bs : Bytes) (o n : Nat) : Nat := leNat ((bs.drop o).take n)

/-- bs cut or padded with zeros to n bytes. -/
def fit (bs : Bytes) (n : Nat) : Bytes := sub bs 0 n

/-- Overwrite from offset o; the string grows with zeros where it is short. -/
def splice (bs : Bytes) (o : Nat) (v : Bytes) : Bytes :=
  fit bs o ++ v ++ bs.drop (o + v.length)

/-- Every byte is zero. -/
def allZero (bs : Bytes) : Bool := bs.all (· == 0)

/-- Zeros up to a multiple of n. -/
def padTo (bs : Bytes) (n : Nat) : Bytes := bs ++ zeros (roundUp bs.length n - bs.length)

/-- The signed value of a w-bit field (00 R6). -/
def sgn (w v : Nat) : Int := if v % 2 ^ w < 2 ^ (w - 1) then (v % 2 ^ w : Nat) else (v % 2 ^ w : Nat) - (2 ^ w : Nat)

/-- The w-bit two's-complement field of an integer. -/
def unsgn (w : Nat) (i : Int) : Nat := (i % (2 ^ w : Nat)).toNat

/-- Exclusive or, bit by bit. -/
def nxor (a b : Nat) : Nat := Nat.xor a b

/-- Number of ones among the low w bits. -/
def popcount : Nat → Nat → Nat
  | 0, _ => 0
  | w + 1, v => v % 2 + popcount w (v / 2)

/-- floor of the square root, bit by bit from 2 ^ k down. -/
def isqrtFrom (n : Nat) : Nat → Nat → Nat
  | 0, r => if (r + 1) * (r + 1) ≤ n then r + 1 else r
  | k + 1, r =>
    let c := r + 2 ^ (k + 1)
    isqrtFrom n k (if c * c ≤ n then c else r)

/-- floor of the square root. -/
def isqrt (n : Nat) : Nat := isqrtFrom n (n.log2 / 2 + 1) 0

/-- The index of the first element that a test accepts. -/
def findIdx {α : Type} (p : α → Bool) (l : List α) : Option Nat :=
  let i := l.findIdx p
  if i < l.length then some i else none

/-- Replace element i. -/
def setAt {α : Type} (l : List α) (i : Nat) (v : α) : List α := l.set i v

/-- Insert before the first element that the new one is not after. -/
def insertBy {α : Type} (le : α → α → Bool) (x : α) : List α → List α
  | [] => [x]
  | y :: r => if le x y then x :: y :: r else y :: insertBy le x r

/-- Stable insertion sort. -/
def sortBy {α : Type} (le : α → α → Bool) (l : List α) : List α :=
  l.foldr (fun x acc => insertBy le x acc) []

/-- Keep the first of equal elements. -/
def dedup {α : Type} [BEq α] : List α → List α
  | [] => []
  | x :: r => x :: (dedup r).filter (fun y => !(y == x))

/-- Pieces of n bytes; the last may be shorter. -/
def chunksAux {α : Type} (n : Nat) : Nat → List α → List (List α)
  | 0, _ => []
  | k + 1, l => if l.isEmpty then [] else l.take n :: chunksAux n k (l.drop n)

/-- Pieces of n elements; the last may be shorter. -/
def chunks {α : Type} (n : Nat) (l : List α) : List (List α) := chunksAux n l.length l

/-- The least of a list, d for the empty list. -/
def listMin (d : Nat) : List Nat → Nat
  | [] => d
  | x :: r => r.foldl min x

/-- The greatest of a list, 0 for the empty list. -/
def listMax (l : List Nat) : Nat := l.foldl max 0

/-- The bytes of an ASCII string. -/
def ascii (s : String) : Bytes := s.toUTF8.data.toList.map (fun b => BitVec.ofNat 8 b.toNat)

end Sys2Proof.Machine
end

