-- ==== Sys2Proof/Machine/Crc.lean ====
section
/-! DEFINITION. The two check sums: CRC-32C of a cell (14 R392) and the CRC-64 of a stream digest (11 R336). -/

namespace Sys2Proof.Machine

/-- k bit steps of a reflected CRC. -/
def crcReflSteps (poly : Nat) : Nat → Nat → Nat
  | 0, c => c
  | k + 1, c => crcReflSteps poly k (if c % 2 = 1 then nxor (c / 2) poly else c / 2)

/-- CRC-32C over bytes: polynomial 0x1EDC_6F41, input and output reflected, initial value and final exclusive or all
ones (14 R392). -/
def crc32c (bs : Bytes) : Nat :=
  nxor (bs.foldl (fun c b => crcReflSteps 0x82F63B78 8 (nxor c b.toNat)) 0xFFFFFFFF) 0xFFFFFFFF

/-- k bit steps of a CRC-64 whose bits are not reflected. -/
def crc64Steps : Nat → Nat → Nat
  | 0, c => c
  | k + 1, c =>
    let s := (2 * c) % 2 ^ 64
    crc64Steps k (if c.testBit 63 then nxor s 0x42F0E1EBA9EA3693 else s)

/-- CRC-64 over bytes from an earlier value (11 R336). -/
def crc64 (init : Nat) (bs : Bytes) : Nat :=
  bs.foldl (fun c b => crc64Steps 8 (nxor c (b.toNat <<< 56))) init

end Sys2Proof.Machine
end

