-- ==== Sys2Proof/Config.lean ====
section
/-! DEFINITION. What the spec leaves to the implementation or to chance: constants without a body, so that no proof
can see a value of them. Every statement of this package holds whatever they are. -/

namespace Sys2Proof

/-- The free values, drawn one after another by the counter Module.fresh: random R_KEY bits (13 R381), nonces
(16 R466), contents the spec leaves unspecified (08 R259). A use takes as many low bits as it needs (log 2). -/
opaque Config.freeValue : Nat → Nat

/-- ML-DSA-65 verification of FIPS 204, which the spec names and does not define: public key, message, context,
signature (03 R89, 16 R467, 17 R489) (log 7). -/
opaque Config.mldsaVerify : Bytes → Bytes → Bytes → Bytes → Bool

/-- Byte i of the DIK's ML-DSA-65 signature of a message under a context (17 R494) (log 7). -/
opaque Config.dikSignByte : Bytes → Bytes → Nat → Byte

/-- The catalogue code of the element type I16, which 16 Table 16-1 does not list (log 8). -/
opaque Config.elemI16 : Nat

end Sys2Proof
end

