-- ==== Sys2Proof/Machine/Catalogue.lean ====
section
/-! DEFINITION. The objects of the dictionary, as the entry tables of the chapters list them (16 R447, R472):
index, subindex, name, type code, array element type, count, bytes, access, write level, effect point, default, least and
greatest value, the multiple asked for, whether it is a selector and whether a selector governs it. -/

namespace Sys2Proof.Machine

/-- One object (16 Table 16-13). A DOMAIN has its least and greatest length as its range and 0 bytes. -/
structure Obj where
  index : Nat
  sub : Nat
  name : String
  typ : Nat
  elem : Nat
  count : Nat
  bytes : Nat
  access : Nat
  level : Nat
  effect : Nat
  dflt : Nat
  min : Nat
  max : Nat
  mult : Nat
  selector : Bool
  selected : Bool
  deriving DecidableEq, Repr

/-- The objects of index 0x1000. -/
def objs1000 : List Obj := [
   ⟨0x1000, 0x01, "VENDOR", 9, 0, 16, 16, 0, 3, 0, 0, 1, 16, 1, false, false⟩,
   ⟨0x1000, 0x02, "PRODUCT", 9, 0, 16, 16, 0, 3, 0, 0, 1, 16, 1, false, false⟩,
   ⟨0x1000, 0x03, "PART_NUMBER", 9, 0, 16, 16, 0, 3, 0, 0, 1, 16, 1, false, false⟩,
   ⟨0x1000, 0x04, "VARIANT", 2, 0, 0, 1, 0, 3, 0, 0, 0, 1, 1, false, false⟩,
   ⟨0x1000, 0x05, "SERIAL", 5, 0, 0, 8, 0, 3, 0, 0, 0, 18446744073709551615, 1, false, false⟩,
   ⟨0x1000, 0x06, "BOARD_REVISION", 3, 0, 0, 2, 0, 3, 0, 0, 0, 65535, 1, false, false⟩,
   ⟨0x1000, 0x07, "FIRMWARE_VERSION", 4, 0, 0, 4, 0, 3, 0, 0, 0, 4294967295, 1, false, false⟩,
   ⟨0x1000, 0x08, "PATTERN_BOOK", 11, 0, 0, 0, 0, 3, 0, 0, 0, 16777216, 1, false, false⟩,
   ⟨0x1000, 0x09, "PATTERN_BOOK_BYTES", 4, 0, 0, 4, 0, 3, 0, 0, 0, 4294967295, 1, false, false⟩,
   ⟨0x1000, 0x0A, "PATTERN_BOOK_GENERATION", 5, 0, 0, 8, 0, 3, 0, 2, 0, 18446744073709551615, 1, false, false⟩,
   ⟨0x1000, 0x0B, "UPTIME_NS", 5, 0, 0, 8, 0, 3, 0, 0, 0, 18446744073709551615, 1, false, false⟩,
   ⟨0x1000, 0x0C, "USER_LABEL", 9, 0, 64, 64, 2, 1, 1, 0, 1, 64, 1, false, false⟩,
   ⟨0x1000, 0x0D, "OD_FORMAT_VERSION", 3, 0, 0, 2, 0, 3, 0, 1, 0, 65535, 1, false, false⟩]

/-- The objects of index 0x1010. -/
def objs1010 : List Obj := [
   ⟨0x1010, 0x01, "VILUR_PORT", 3, 0, 0, 2, 0, 3, 0, 48620, 0, 65535, 1, false, false⟩,
   ⟨0x1010, 0x02, "PROTOCOL_VERSION", 2, 0, 0, 1, 0, 3, 0, 1, 0, 255, 1, false, false⟩,
   ⟨0x1010, 0x03, "MAX_CLIENTS", 2, 0, 0, 1, 0, 3, 0, 64, 0, 255, 1, false, false⟩,
   ⟨0x1010, 0x04, "CLIENT_IDLE_S", 3, 0, 0, 2, 2, 2, 1, 60, 5, 3600, 1, false, false⟩,
   ⟨0x1010, 0x05, "MY_LEVEL", 2, 0, 0, 1, 0, 3, 0, 0, 0, 2, 1, false, false⟩,
   ⟨0x1010, 0x06, "OPERATE_ON_MGMT", 1, 0, 0, 1, 2, 2, 1, 1, 0, 1, 1, false, false⟩,
   ⟨0x1010, 0x07, "OPERATE_ALLOW", 11, 0, 0, 0, 2, 2, 1, 0, 0, 320, 1, false, false⟩,
   ⟨0x1010, 0x08, "MAINTAIN_MAX_S", 4, 0, 0, 4, 2, 2, 1, 3600, 60, 86400, 1, false, false⟩,
   ⟨0x1010, 0x09, "LOCK_ALL", 1, 0, 0, 1, 4, 2, 1, 0, 0, 1, 1, false, false⟩,
   ⟨0x1010, 0x0A, "CLIENTS", 11, 0, 0, 0, 0, 3, 0, 0, 0, 2048, 1, false, false⟩,
   ⟨0x1010, 0x0B, "REQUESTS", 5, 0, 0, 8, 0, 3, 0, 0, 0, 18446744073709551615, 1, false, false⟩,
   ⟨0x1010, 0x0C, "ERROR_REPLIES", 5, 0, 0, 8, 0, 3, 0, 0, 0, 18446744073709551615, 1, false, false⟩,
   ⟨0x1010, 0x0D, "DISCARDED_DATAGRAMS", 5, 0, 0, 8, 0, 3, 0, 0, 0, 18446744073709551615, 1, false, false⟩,
   ⟨0x1010, 0x0E, "UNLOCKS", 5, 0, 0, 8, 0, 3, 0, 0, 0, 18446744073709551615, 1, false, false⟩,
   ⟨0x1010, 0x0F, "UNLOCK_FAILURES", 5, 0, 0, 8, 0, 3, 0, 0, 0, 18446744073709551615, 1, false, false⟩,
   ⟨0x1010, 0x10, "NOTIFY_LOST", 5, 0, 0, 8, 0, 3, 0, 0, 0, 18446744073709551615, 1, false, false⟩] ++ [
   ⟨0x1010, 0x11, "BUSY_REPLIES", 5, 0, 0, 8, 0, 3, 0, 0, 0, 18446744073709551615, 1, false, false⟩]

/-- The objects of index 0x1100. -/
def objs1100 : List Obj := [
   ⟨0x1100, 0x01, "TICK_PERIOD_NS", 4, 0, 0, 4, 2, 1, 4, 250000, 31250, 1000000000, 31250, false, false⟩,
   ⟨0x1100, 0x02, "PIPELINE_DEPTH", 2, 0, 0, 1, 2, 1, 4, 3, 2, 8, 1, false, false⟩,
   ⟨0x1100, 0x03, "EPOCH_NS", 5, 0, 0, 8, 2, 1, 4, 0, 0, 18446744073709551615, 1, false, false⟩,
   ⟨0x1100, 0x04, "SFC", 5, 0, 0, 8, 0, 3, 0, 0, 0, 18446744073709551615, 1, false, false⟩,
   ⟨0x1100, 0x05, "PROFILE", 2, 0, 0, 1, 2, 1, 4, 0, 0, 3, 1, false, false⟩,
   ⟨0x1100, 0x06, "PROFILE_MODIFIED", 1, 0, 0, 1, 0, 3, 0, 0, 0, 1, 1, false, false⟩,
   ⟨0x1100, 0x07, "TIME_SOURCE", 2, 0, 0, 1, 2, 1, 2, 0, 0, 2, 1, false, false⟩,
   ⟨0x1100, 0x08, "TIME_STATE", 2, 0, 0, 1, 0, 3, 0, 0, 0, 4, 1, false, false⟩,
   ⟨0x1100, 0x09, "TIME_OFFSET_NS", 7, 0, 0, 8, 0, 3, 0, 0, 9223372036854775808, 9223372036854775807, 1, false, false⟩,
   ⟨0x1100, 0x0A, "PTP_PORT", 2, 0, 0, 1, 2, 1, 1, 0, 0, 3, 1, false, false⟩,
   ⟨0x1100, 0x0B, "PTP_ROLE", 2, 0, 0, 1, 2, 1, 1, 1, 0, 2, 1, false, false⟩,
   ⟨0x1100, 0x0C, "PTP_DOMAIN", 2, 0, 0, 1, 2, 1, 1, 0, 0, 127, 1, false, false⟩,
   ⟨0x1100, 0x0D, "PTP_TRANSPORT", 2, 0, 0, 1, 2, 1, 1, 0, 0, 2, 1, false, false⟩,
   ⟨0x1100, 0x0E, "PTP_ONE_STEP", 1, 0, 0, 1, 2, 1, 1, 1, 0, 1, 1, false, false⟩,
   ⟨0x1100, 0x0F, "PTP_LOG_SYNC_INTERVAL", 6, 0, 0, 4, 2, 1, 1, 4294967292, 4294967289, 0, 1, false, false⟩,
   ⟨0x1100, 0x10, "PTP_LOG_DELAY_REQ_INTERVAL", 6, 0, 0, 4, 2, 1, 1, 4294967292, 4294967289, 0, 1, false, false⟩] ++ [
   ⟨0x1100, 0x11, "PTP_PRIORITY1", 2, 0, 0, 1, 2, 1, 1, 128, 0, 255, 1, false, false⟩,
   ⟨0x1100, 0x12, "PTP_PRIORITY2", 2, 0, 0, 1, 2, 1, 1, 128, 0, 255, 1, false, false⟩,
   ⟨0x1100, 0x13, "PPS_OUT_ENABLE", 1, 0, 0, 1, 2, 1, 1, 1, 0, 1, 1, false, false⟩,
   ⟨0x1100, 0x14, "PPS_IN_MODE", 2, 0, 0, 1, 2, 1, 1, 0, 0, 1, 1, false, false⟩,
   ⟨0x1100, 0x15, "HOLDOVER_LIMIT_NS", 4, 0, 0, 4, 2, 1, 1, 1000, 100, 1000000, 1, false, false⟩,
   ⟨0x1100, 0x16, "STEP_THRESHOLD_NS", 4, 0, 0, 4, 2, 1, 1, 1000000, 10000, 1000000000, 1, false, false⟩,
   ⟨0x1100, 0x17, "DEFER_LIMIT_FRAMES", 3, 0, 0, 2, 2, 1, 2, 16, 1, 256, 1, false, false⟩,
   ⟨0x1100, 0x18, "FRAME_BUDGET_NS", 4, 0, 0, 4, 0, 3, 0, 247939, 0, 4294967295, 1, false, false⟩,
   ⟨0x1100, 0x19, "CLOCK_STEP", 2, 0, 0, 1, 0, 3, 0, 0, 0, 3, 1, false, false⟩,
   ⟨0x1100, 0x1A, "OVERRUN_COUNT", 5, 0, 0, 8, 0, 3, 0, 0, 0, 18446744073709551615, 1, false, false⟩,
   ⟨0x1100, 0x1B, "DEFERRED_COUNT", 5, 0, 0, 8, 0, 3, 0, 0, 0, 18446744073709551615, 1, false, false⟩,
   ⟨0x1100, 0x1C, "TICK_BASE_SFC", 5, 0, 0, 8, 0, 3, 0, 0, 0, 18446744073709551615, 1, false, false⟩,
   ⟨0x1100, 0x1D, "TICK_BASE_NS", 5, 0, 0, 8, 0, 3, 0, 0, 0, 18446744073709551615, 1, false, false⟩,
   ⟨0x1100, 0x1E, "SCHEDULE", 11, 0, 0, 0, 0, 3, 0, 0, 0, 32768, 1, false, false⟩,
   ⟨0x1100, 0x1F, "BEACON_MISMATCH_COUNT", 5, 0, 0, 8, 0, 3, 0, 0, 0, 18446744073709551615, 1, false, false⟩]

/-- The objects of index 0x1200. -/
def objs1200 : List Obj := [
   ⟨0x1200, 0x01, "SESSIONS_OPEN", 4, 0, 0, 4, 0, 3, 0, 0, 0, 262144, 1, false, false⟩,
   ⟨0x1200, 0x02, "SESSION_QUERY_LIMIT", 4, 0, 0, 4, 2, 1, 1, 65536, 1, 1048576, 1, false, false⟩,
   ⟨0x1200, 0x03, "BATCH_SLOTS", 4, 0, 0, 4, 0, 3, 0, 1048576, 0, 4294967295, 1, false, false⟩,
   ⟨0x1200, 0x04, "STREAM_ALL", 1, 0, 0, 1, 2, 1, 2, 0, 0, 1, 1, false, false⟩,
   ⟨0x1200, 0x05, "COST_INTERVAL_FRAMES", 3, 0, 0, 2, 2, 1, 2, 64, 1, 4096, 1, false, false⟩,
   ⟨0x1200, 0x06, "COST_SOURCE", 2, 0, 0, 1, 0, 3, 0, 0, 0, 3, 1, false, false⟩,
   ⟨0x1200, 0x07, "COST_EXCEED_COUNT", 5, 0, 0, 8, 0, 3, 0, 0, 0, 18446744073709551615, 1, false, false⟩,
   ⟨0x1200, 0x08, "ADMITTED_COUNT", 5, 0, 0, 8, 0, 3, 0, 0, 0, 18446744073709551615, 1, false, false⟩,
   ⟨0x1200, 0x09, "BUSY_COUNT", 5, 0, 0, 8, 0, 3, 0, 0, 0, 18446744073709551615, 1, false, false⟩,
   ⟨0x1200, 0x0A, "BAD_REQUEST_COUNT", 5, 0, 0, 8, 0, 3, 0, 0, 0, 18446744073709551615, 1, false, false⟩,
   ⟨0x1200, 0x0B, "NO_LOT_COUNT", 5, 0, 0, 8, 0, 3, 0, 0, 0, 18446744073709551615, 1, false, false⟩,
   ⟨0x1200, 0x0C, "LAST_BATCH", 4, 0, 0, 4, 0, 3, 0, 0, 0, 4294967295, 1, false, false⟩,
   ⟨0x1200, 0x0D, "LAST_ADMITTED", 4, 0, 0, 4, 0, 3, 0, 0, 0, 4294967295, 1, false, false⟩,
   ⟨0x1200, 0x0E, "LPDDR_FRAME_BYTES", 5, 0, 0, 8, 0, 3, 0, 614400000, 0, 18446744073709551615, 1, false, false⟩,
   ⟨0x1200, 0x0F, "PORT_FRAME_PACKETS", 4, 0, 0, 4, 0, 3, 0, 2000, 0, 4294967295, 1, false, false⟩,
   ⟨0x1200, 0x10, "SESSION_SELECT", 4, 0, 0, 4, 1, 0, 1, 0, 0, 262143, 1, true, false⟩] ++ [
   ⟨0x1200, 0x11, "SESSION_DEFAULTS", 11, 0, 0, 0, 0, 3, 0, 0, 32, 1056, 1, false, true⟩,
   ⟨0x1200, 0x12, "DISCARDED_MESSAGES", 5, 0, 0, 8, 0, 3, 0, 0, 0, 18446744073709551615, 1, false, false⟩]

/-- The objects of index 0x2000. -/
def objs2000 : List Obj := [
   ⟨0x2000, 0x01, "ACTIVE_LOT", 4, 0, 0, 4, 0, 3, 0, 0, 0, 4294967294, 1, false, false⟩,
   ⟨0x2000, 0x02, "ACTIVE_SINCE_SFC", 5, 0, 0, 8, 0, 3, 0, 0, 0, 18446744073709551615, 1, false, false⟩,
   ⟨0x2000, 0x03, "STAGED_LOT", 4, 0, 0, 4, 0, 3, 0, 0, 0, 4294967294, 1, false, false⟩,
   ⟨0x2000, 0x04, "RETAINED_LOTS", 10, 4, 8, 32, 0, 3, 0, 0, 0, 4294967295, 1, false, false⟩,
   ⟨0x2000, 0x05, "LOT_SHARD", 4, 0, 0, 4, 0, 3, 0, 0, 0, 4294967295, 1, false, false⟩,
   ⟨0x2000, 0x06, "LOT_METRIC", 2, 0, 0, 1, 0, 3, 0, 0, 0, 2, 1, false, false⟩,
   ⟨0x2000, 0x07, "LOT_DIM", 3, 0, 0, 2, 0, 3, 0, 0, 0, 65535, 1, false, false⟩,
   ⟨0x2000, 0x08, "LOT_CODE_FORMAT", 2, 0, 0, 1, 0, 3, 0, 0, 0, 3, 1, false, false⟩,
   ⟨0x2000, 0x09, "LOT_SKETCH_BITS", 3, 0, 0, 2, 0, 3, 0, 0, 0, 65535, 1, false, false⟩,
   ⟨0x2000, 0x0A, "LOT_LIST_COUNT", 4, 0, 0, 4, 0, 3, 0, 0, 0, 4294967295, 1, false, false⟩,
   ⟨0x2000, 0x0B, "LOT_ITEM_COUNT", 5, 0, 0, 8, 0, 3, 0, 0, 0, 18446744073709551615, 1, false, false⟩,
   ⟨0x2000, 0x0C, "LOT_SPILL_COUNT", 5, 0, 0, 8, 0, 3, 0, 0, 0, 18446744073709551615, 1, false, false⟩,
   ⟨0x2000, 0x0D, "LOT_DIGEST", 10, 2, 64, 64, 0, 3, 0, 0, 0, 255, 1, false, false⟩,
   ⟨0x2000, 0x0E, "LOT_SIGNED", 1, 0, 0, 1, 0, 3, 0, 0, 0, 1, 1, false, false⟩,
   ⟨0x2000, 0x0F, "WITHHELD_COUNT", 5, 0, 0, 8, 0, 3, 0, 0, 0, 18446744073709551615, 1, false, false⟩,
   ⟨0x2000, 0x10, "REQUIRE_SIGNATURE", 1, 0, 0, 1, 2, 1, 1, 0, 0, 1, 1, false, false⟩] ++ [
   ⟨0x2000, 0x11, "RESIDENT_REQUIRED", 1, 0, 0, 1, 2, 1, 2, 1, 0, 1, 1, false, false⟩,
   ⟨0x2000, 0x12, "SLICE_RESERVE_BYTES", 4, 0, 0, 4, 2, 1, 1, 1048576, 524288, 4194304, 65536, false, false⟩,
   ⟨0x2000, 0x13, "NONRESIDENT_LISTS", 4, 0, 0, 4, 0, 3, 0, 0, 0, 4294967295, 1, false, false⟩,
   ⟨0x2000, 0x14, "GRAPH_RESIDENT", 1, 0, 0, 1, 0, 3, 0, 0, 0, 1, 1, false, false⟩,
   ⟨0x2000, 0x15, "TILE_RESIDENCY", 11, 0, 0, 0, 0, 3, 0, 0, 8192, 8192, 1, false, false⟩,
   ⟨0x2000, 0x16, "ATTR_HISTORY_CAPACITY", 4, 0, 0, 4, 0, 3, 0, 4194304, 0, 4294967295, 1, false, false⟩,
   ⟨0x2000, 0x17, "ATTR_HISTORY_USED", 4, 0, 0, 4, 0, 3, 0, 0, 0, 4294967295, 1, false, false⟩,
   ⟨0x2000, 0x18, "VERIFY_LAST_CODE", 2, 0, 0, 1, 0, 3, 0, 0, 0, 15, 1, false, false⟩,
   ⟨0x2000, 0x19, "VERIFY_FAIL_COUNT", 5, 0, 0, 8, 0, 3, 0, 0, 0, 18446744073709551615, 1, false, false⟩,
   ⟨0x2000, 0x40, "LOT_LOAD", 4, 0, 0, 4, 4, 1, 1, 0, 1, 4294967294, 1, false, false⟩,
   ⟨0x2000, 0x41, "LOAD_STATE", 2, 0, 0, 1, 0, 3, 0, 0, 0, 3, 1, false, false⟩,
   ⟨0x2000, 0x42, "LOAD_PROGRESS", 5, 0, 0, 8, 0, 3, 0, 0, 0, 18446744073709551615, 1, false, false⟩,
   ⟨0x2000, 0x43, "LOT_UNSTAGE", 1, 0, 0, 1, 4, 1, 1, 0, 0, 1, 1, false, false⟩,
   ⟨0x2000, 0x44, "LOT_SWITCH", 11, 0, 0, 0, 4, 1, 3, 0, 16, 16, 1, false, false⟩,
   ⟨0x2000, 0x45, "COMMITTED_LOT", 4, 0, 0, 4, 0, 3, 0, 0, 0, 4294967295, 1, false, false⟩,
   ⟨0x2000, 0x46, "PREVIOUS_LOT", 4, 0, 0, 4, 0, 3, 0, 0, 0, 4294967295, 1, false, false⟩] ++ [
   ⟨0x2000, 0x47, "HOLD_PREVIOUS", 1, 0, 0, 1, 2, 1, 1, 0, 0, 1, 1, false, false⟩,
   ⟨0x2000, 0x48, "LOT_ROLLBACK", 1, 0, 0, 1, 4, 1, 1, 0, 0, 1, 1, false, false⟩,
   ⟨0x2000, 0x49, "LOT_IMPORT", 11, 0, 0, 0, 4, 1, 1, 0, 32, 32, 1, false, false⟩,
   ⟨0x2000, 0x4A, "IMPORT_STATE", 2, 0, 0, 1, 0, 3, 0, 0, 0, 3, 1, false, false⟩,
   ⟨0x2000, 0x4B, "LIBRARY", 11, 0, 0, 0, 0, 3, 0, 0, 0, 2048, 1, false, false⟩,
   ⟨0x2000, 0x4C, "LOT_DELETE", 4, 0, 0, 4, 4, 1, 1, 0, 1, 4294967294, 1, false, false⟩,
   ⟨0x2000, 0x4D, "SWITCH_FAIL_COUNT", 5, 0, 0, 8, 0, 3, 0, 0, 0, 18446744073709551615, 1, false, false⟩,
   ⟨0x2000, 0x4E, "ATTR_LOG_CAPACITY", 5, 0, 0, 8, 0, 3, 0, 1073741824, 0, 18446744073709551615, 1, false, false⟩,
   ⟨0x2000, 0x4F, "IMPORT_ERROR", 2, 0, 0, 1, 0, 3, 0, 0, 0, 255, 1, false, false⟩]

/-- The objects of index 0x2100. -/
def objs2100 : List Obj := [
   ⟨0x2100, 0x01, "DEFAULT_K", 3, 0, 0, 2, 2, 1, 2, 10, 1, 1024, 1, false, false⟩,
   ⟨0x2100, 0x02, "DEFAULT_PROBE", 3, 0, 0, 2, 2, 1, 2, 16, 1, 1024, 1, false, false⟩,
   ⟨0x2100, 0x03, "DEFAULT_RERANK", 3, 0, 0, 2, 2, 1, 2, 100, 1, 4096, 1, false, false⟩,
   ⟨0x2100, 0x04, "DEFAULT_WIDEN", 3, 0, 0, 2, 2, 1, 2, 0, 0, 1024, 1, false, false⟩,
   ⟨0x2100, 0x05, "DEFAULT_SEARCH_WIDTH", 3, 0, 0, 2, 2, 1, 2, 32, 1, 1024, 1, false, false⟩,
   ⟨0x2100, 0x06, "DEFAULT_ARITH", 2, 0, 0, 1, 2, 1, 2, 1, 1, 3, 1, false, false⟩,
   ⟨0x2100, 0x07, "DEFAULT_METRIC", 2, 0, 0, 1, 2, 1, 2, 1, 1, 4, 1, false, false⟩,
   ⟨0x2100, 0x08, "DEFAULT_TOWER", 2, 0, 0, 1, 2, 1, 2, 255, 1, 255, 1, false, false⟩,
   ⟨0x2100, 0x09, "DEFAULT_FILTER", 11, 0, 0, 0, 2, 1, 2, 0, 0, 1024, 1, false, false⟩,
   ⟨0x2100, 0x0A, "PREFETCH_DEPTH", 2, 0, 0, 1, 2, 1, 2, 2, 0, 4, 1, false, false⟩,
   ⟨0x2100, 0x10, "TOWERS", 11, 0, 0, 0, 2, 1, 2, 0, 480, 480, 1, false, false⟩]

/-- The objects of index 0x2200. -/
def objs2200 : List Obj := [
   ⟨0x2200, 0x01, "BUILD_START", 11, 0, 0, 0, 4, 1, 4, 0, 0, 128, 1, false, false⟩,
   ⟨0x2200, 0x02, "BUILD_CANCEL", 1, 0, 0, 1, 4, 1, 2, 0, 0, 1, 1, false, false⟩,
   ⟨0x2200, 0x03, "BUILD_STATE", 2, 0, 0, 1, 0, 3, 0, 0, 0, 4, 1, false, false⟩,
   ⟨0x2200, 0x04, "BUILD_ERROR", 2, 0, 0, 1, 0, 3, 0, 0, 0, 255, 1, false, false⟩,
   ⟨0x2200, 0x05, "BUILD_PHASE", 2, 0, 0, 1, 0, 3, 0, 0, 0, 5, 1, false, false⟩,
   ⟨0x2200, 0x06, "BUILD_ITEMS_DONE", 5, 0, 0, 8, 0, 3, 0, 0, 0, 18446744073709551615, 1, false, false⟩,
   ⟨0x2200, 0x07, "TILE_SHARE", 3, 0, 0, 2, 2, 1, 4, 32, 0, 224, 1, false, false⟩,
   ⟨0x2200, 0x08, "BUILD_MEMORY_BYTES", 5, 0, 0, 8, 2, 1, 1, 68719476736, 1073741824, 1099511627776, 1073741824, false, false⟩,
   ⟨0x2200, 0x09, "BUILD_START_SFC", 5, 0, 0, 8, 0, 3, 0, 0, 0, 18446744073709551615, 1, false, false⟩,
   ⟨0x2200, 0x0A, "BUILD_LAST_ALPHA", 8, 0, 0, 4, 0, 3, 0, 0, 4286578687, 2139095039, 1, false, false⟩,
   ⟨0x2200, 0x0C, "DEFAULT_DESCRIPTOR", 11, 0, 0, 0, 2, 1, 1, 0, 128, 128, 1, false, false⟩,
   ⟨0x2200, 0x0D, "AUTO_SWITCH", 1, 0, 0, 1, 2, 1, 1, 0, 0, 1, 1, false, false⟩]

/-- The objects of index 0x3000. -/
def objs3000 : List Obj := [
   ⟨0x3000, 0x01, "DEFAULT_STREAM_ARITH", 2, 0, 0, 1, 2, 1, 2, 1, 1, 3, 1, false, false⟩,
   ⟨0x3000, 0x02, "EXACT_PASSES_MAX", 2, 0, 0, 1, 0, 3, 0, 0, 0, 255, 1, false, false⟩,
   ⟨0x3000, 0x03, "EXACT_PASS_HISTOGRAM", 10, 5, 11, 88, 0, 3, 0, 0, 0, 18446744073709551615, 1, false, false⟩,
   ⟨0x3000, 0x04, "NARROW_NONFINITE_ROWS", 5, 0, 0, 8, 0, 3, 0, 0, 0, 18446744073709551615, 1, false, false⟩,
   ⟨0x3000, 0x05, "NARROW_FALLBACK_ROWS", 5, 0, 0, 8, 0, 3, 0, 0, 0, 18446744073709551615, 1, false, false⟩,
   ⟨0x3000, 0x06, "NARROW_CLAMPED_CODES", 5, 0, 0, 8, 0, 3, 0, 0, 0, 18446744073709551615, 1, false, false⟩,
   ⟨0x3000, 0x07, "ALPHA_CLAMPED", 5, 0, 0, 8, 0, 3, 0, 0, 0, 18446744073709551615, 1, false, false⟩,
   ⟨0x3000, 0x08, "VAT_BYTES", 4, 0, 0, 4, 0, 3, 0, 262144, 0, 4294967295, 1, false, false⟩,
   ⟨0x3000, 0x09, "VAT_SLOTS", 2, 0, 0, 1, 0, 3, 0, 64, 0, 255, 1, false, false⟩,
   ⟨0x3000, 0x0A, "TREE_MAX_K", 3, 0, 0, 2, 0, 3, 0, 4096, 0, 65535, 1, false, false⟩,
   ⟨0x3000, 0x0B, "WINDOW_STRIDE_BITS", 2, 0, 0, 1, 0, 3, 0, 30, 0, 255, 1, false, false⟩,
   ⟨0x3000, 0x0C, "MMA_CLOCKS", 5, 0, 0, 8, 0, 3, 0, 0, 0, 18446744073709551615, 1, false, false⟩,
   ⟨0x3000, 0x0D, "ESCAPE_TERMS", 5, 0, 0, 8, 0, 3, 0, 0, 0, 18446744073709551615, 1, false, false⟩]

/-- The objects of index 0x3080. -/
def objs3080 : List Obj := [
   ⟨0x3080, 0x01, "LONG_ROW_MODE", 2, 0, 0, 1, 2, 1, 2, 1, 0, 1, 1, false, false⟩,
   ⟨0x3080, 0x02, "MAX_ROW_LEN", 4, 0, 0, 4, 2, 1, 2, 1048576, 1, 1572864, 1, false, false⟩,
   ⟨0x3080, 0x03, "WINS_CANDIDATES", 5, 0, 0, 8, 0, 3, 0, 0, 0, 18446744073709551615, 1, false, false⟩,
   ⟨0x3080, 0x04, "USER_DUPLICATES", 5, 0, 0, 8, 0, 3, 0, 0, 0, 18446744073709551615, 1, false, false⟩,
   ⟨0x3080, 0x05, "COLL_MISMATCH", 5, 0, 0, 8, 0, 3, 0, 0, 0, 18446744073709551615, 1, false, false⟩,
   ⟨0x3080, 0x06, "WINNER_WRITES", 5, 0, 0, 8, 0, 3, 0, 0, 0, 18446744073709551615, 1, false, false⟩,
   ⟨0x3080, 0x07, "LONG_ROW_REFUSED", 5, 0, 0, 8, 0, 3, 0, 0, 0, 18446744073709551615, 1, false, false⟩,
   ⟨0x3080, 0x08, "WEIR_LISTS", 3, 0, 0, 2, 0, 3, 0, 256, 0, 65535, 1, false, false⟩,
   ⟨0x3080, 0x09, "WEIR_MAX_RUN", 3, 0, 0, 2, 0, 3, 0, 4096, 0, 65535, 1, false, false⟩]

/-- The objects of index 0x30F0. -/
def objs30F0 : List Obj := [
   ⟨0x30F0, 0x01, "MASS_FUNCTION", 2, 0, 0, 1, 2, 1, 2, 0, 0, 1, 1, false, false⟩,
   ⟨0x30F0, 0x02, "MASS_BETA", 8, 0, 0, 4, 2, 1, 2, 1065353216, 4286578687, 2139095039, 1, false, false⟩,
   ⟨0x30F0, 0x03, "SHORT_COUNT", 5, 0, 0, 8, 0, 3, 0, 0, 0, 18446744073709551615, 1, false, false⟩,
   ⟨0x30F0, 0x04, "PARTIAL_COUNT", 5, 0, 0, 8, 0, 3, 0, 0, 0, 18446744073709551615, 1, false, false⟩,
   ⟨0x30F0, 0x05, "FAULT_COUNT", 5, 0, 0, 8, 0, 3, 0, 0, 0, 18446744073709551615, 1, false, false⟩,
   ⟨0x30F0, 0x06, "FILTERED_RECORDS", 5, 0, 0, 8, 0, 3, 0, 0, 0, 18446744073709551615, 1, false, false⟩,
   ⟨0x30F0, 0x07, "DUPLICATES_DROPPED", 5, 0, 0, 8, 0, 3, 0, 0, 0, 18446744073709551615, 1, false, false⟩,
   ⟨0x30F0, 0x08, "WIDENED_COUNT", 5, 0, 0, 8, 0, 3, 0, 0, 0, 18446744073709551615, 1, false, false⟩,
   ⟨0x30F0, 0x09, "SKE_PASSES", 5, 0, 0, 8, 0, 3, 0, 0, 0, 18446744073709551615, 1, false, false⟩,
   ⟨0x30F0, 0x0A, "TAIL_STALL_CLOCKS", 5, 0, 0, 8, 0, 3, 0, 0, 0, 18446744073709551615, 1, false, false⟩,
   ⟨0x30F0, 0x0B, "MISSING_SHARDS", 5, 0, 0, 8, 0, 3, 0, 0, 0, 18446744073709551615, 1, false, false⟩]

/-- The objects of index 0x3100. -/
def objs3100 : List Obj := [
   ⟨0x3100, 0x01, "STREAM_ARM", 11, 0, 0, 0, 4, 1, 2, 0, 192, 576, 1, false, false⟩,
   ⟨0x3100, 0x02, "STREAM_DISARM", 4, 0, 0, 4, 4, 1, 2, 0, 1, 4294967295, 1, false, false⟩,
   ⟨0x3100, 0x03, "STREAM_REARM", 11, 0, 0, 0, 4, 1, 3, 0, 136, 136, 1, false, false⟩,
   ⟨0x3100, 0x04, "STREAM_SELECT", 4, 0, 0, 4, 1, 0, 1, 0, 0, 4294967295, 1, true, false⟩,
   ⟨0x3100, 0x05, "STREAM_STATUS", 11, 0, 0, 0, 0, 3, 0, 0, 32, 32, 1, false, true⟩,
   ⟨0x3100, 0x06, "STREAMS_ARMED", 2, 0, 0, 1, 0, 3, 0, 0, 0, 64, 1, false, false⟩,
   ⟨0x3100, 0x07, "ARM_LAST_REFUSAL", 2, 0, 0, 1, 0, 3, 0, 0, 0, 11, 1, false, false⟩,
   ⟨0x3100, 0x08, "RUNAHEAD_WINDOW", 2, 0, 0, 1, 2, 1, 2, 32, 0, 64, 1, false, false⟩,
   ⟨0x3100, 0x09, "STALL_LIMIT_FRAMES", 4, 0, 0, 4, 2, 1, 2, 4000, 0, 1000000, 1, false, false⟩,
   ⟨0x3100, 0x0A, "STAGGER_GROUPS", 2, 0, 0, 1, 2, 1, 2, 16, 1, 64, 1, false, false⟩,
   ⟨0x3100, 0x0B, "USER_GRANT_MAX", 3, 0, 0, 2, 2, 1, 1, 128, 0, 224, 1, false, false⟩,
   ⟨0x3100, 0x0C, "FAULT_COUNT", 5, 0, 0, 8, 0, 3, 0, 0, 0, 18446744073709551615, 1, false, false⟩,
   ⟨0x3100, 0x0D, "ARM_REFUSED_COUNT", 5, 0, 0, 8, 0, 3, 0, 0, 0, 18446744073709551615, 1, false, false⟩,
   ⟨0x3100, 0x0E, "LAST_FAULT", 11, 0, 0, 0, 0, 3, 0, 0, 32, 32, 1, false, false⟩,
   ⟨0x3100, 0x0F, "GATHER_INVALID", 5, 0, 0, 8, 0, 3, 0, 0, 0, 18446744073709551615, 1, false, false⟩,
   ⟨0x3100, 0x10, "UNCLAIMED_SIGNALS", 5, 0, 0, 8, 0, 3, 0, 0, 0, 18446744073709551615, 1, false, false⟩] ++ [
   ⟨0x3100, 0x11, "RUNAHEAD_BYTES", 5, 0, 0, 8, 0, 3, 0, 0, 0, 18446744073709551615, 1, false, false⟩]

/-- The objects of index 0x3200. -/
def objs3200 : List Obj := [
   ⟨0x3200, 0x01, "TABLE_SELECT", 2, 0, 0, 1, 1, 0, 1, 0, 0, 63, 1, true, false⟩,
   ⟨0x3200, 0x02, "TABLE_STAGE", 11, 0, 0, 0, 4, 1, 1, 0, 64, 64, 1, false, false⟩,
   ⟨0x3200, 0x03, "TABLE_UNSTAGE", 2, 0, 0, 1, 4, 1, 1, 0, 0, 63, 1, false, false⟩,
   ⟨0x3200, 0x04, "TABLE_SWITCH", 11, 0, 0, 0, 4, 1, 3, 0, 16, 16, 1, false, false⟩,
   ⟨0x3200, 0x05, "TABLE_ACTIVE", 11, 0, 0, 0, 0, 3, 0, 0, 64, 64, 1, false, true⟩,
   ⟨0x3200, 0x06, "TABLE_STAGED", 11, 0, 0, 0, 0, 3, 0, 0, 64, 64, 1, false, true⟩,
   ⟨0x3200, 0x07, "TABLE_STATS", 11, 0, 0, 0, 0, 3, 0, 0, 64, 64, 1, false, true⟩,
   ⟨0x3200, 0x08, "LOOKUP_SHARE", 3, 0, 0, 2, 2, 1, 4, 16, 0, 128, 1, false, false⟩,
   ⟨0x3200, 0x09, "HOT_BYTES_PER_TILE", 4, 0, 0, 4, 2, 1, 2, 131072, 0, 196608, 4096, false, false⟩,
   ⟨0x3200, 0x0A, "HOT_REFRESH_FRAMES", 4, 0, 0, 4, 2, 1, 2, 400, 2, 1000000, 1, false, false⟩,
   ⟨0x3200, 0x0B, "HOT_MIN_COUNT", 4, 0, 0, 4, 2, 1, 2, 2, 1, 4294967295, 1, false, false⟩,
   ⟨0x3200, 0x0C, "REPLICA_MIN_COUNT", 4, 0, 0, 4, 2, 1, 2, 65536, 1, 4294967295, 1, false, false⟩,
   ⟨0x3200, 0x0D, "REPLICA_TILES", 2, 0, 0, 1, 2, 1, 2, 4, 1, 16, 1, false, false⟩,
   ⟨0x3200, 0x0E, "TABLE_LOAD", 11, 0, 0, 0, 4, 1, 1, 0, 32, 32, 1, false, false⟩,
   ⟨0x3200, 0x0F, "LOOKUP_REFUSED", 5, 0, 0, 8, 0, 3, 0, 0, 0, 18446744073709551615, 1, false, false⟩]

/-- The objects of index 0x3300. -/
def objs3300 : List Obj := [
   ⟨0x3300, 0x01, "JOBS_ENABLE", 1, 0, 0, 1, 2, 1, 2, 0, 0, 1, 1, false, false⟩,
   ⟨0x3300, 0x02, "JOB_SELECT", 2, 0, 0, 1, 1, 0, 1, 0, 0, 63, 1, true, false⟩,
   ⟨0x3300, 0x03, "JOB_CONFIG", 11, 0, 0, 0, 4, 1, 1, 0, 196, 5248, 1, false, false⟩,
   ⟨0x3300, 0x04, "JOB_START", 11, 0, 0, 0, 4, 1, 3, 0, 16, 16, 1, false, false⟩,
   ⟨0x3300, 0x05, "JOB_STOP", 2, 0, 0, 1, 4, 1, 6, 0, 0, 63, 1, false, false⟩,
   ⟨0x3300, 0x06, "JOB_STATUS", 11, 0, 0, 0, 0, 3, 0, 0, 40, 40, 1, false, true⟩,
   ⟨0x3300, 0x07, "JOB_DIGESTS", 11, 0, 0, 0, 0, 3, 0, 0, 96, 96, 1, false, true⟩,
   ⟨0x3300, 0x08, "JOB_LAYOUT", 11, 0, 0, 0, 0, 3, 0, 0, 0, 4608, 1, false, true⟩,
   ⟨0x3300, 0x09, "DIGEST_CHECK", 2, 0, 0, 1, 4, 1, 1, 0, 0, 63, 1, false, false⟩,
   ⟨0x3300, 0x0A, "REDUCE_SHARE", 3, 0, 0, 2, 2, 1, 4, 16, 0, 128, 1, false, false⟩,
   ⟨0x3300, 0x0B, "LSA_LINES", 3, 0, 0, 2, 0, 3, 0, 4096, 0, 65535, 1, false, false⟩,
   ⟨0x3300, 0x0C, "JOBS_RUNNING", 2, 0, 0, 1, 0, 3, 0, 0, 0, 64, 1, false, false⟩,
   ⟨0x3300, 0x0D, "DIGEST_RESULT", 11, 0, 0, 0, 0, 3, 0, 0, 16, 16, 1, false, false⟩,
   ⟨0x3300, 0x0E, "STEPS_APPLIED", 5, 0, 0, 8, 0, 3, 0, 0, 0, 18446744073709551615, 1, false, false⟩,
   ⟨0x3300, 0x0F, "LATE_WRITES", 5, 0, 0, 8, 0, 3, 0, 0, 0, 18446744073709551615, 1, false, false⟩,
   ⟨0x3300, 0x10, "SATURATED_ELEMENTS", 5, 0, 0, 8, 0, 3, 0, 0, 0, 18446744073709551615, 1, false, false⟩] ++ [
   ⟨0x3300, 0x11, "NONFINITE_ELEMENTS", 5, 0, 0, 8, 0, 3, 0, 0, 0, 18446744073709551615, 1, false, false⟩,
   ⟨0x3300, 0x12, "KEYED_OVERFLOWS", 5, 0, 0, 8, 0, 3, 0, 0, 0, 18446744073709551615, 1, false, false⟩,
   ⟨0x3300, 0x13, "STEPS_FAILED", 5, 0, 0, 8, 0, 3, 0, 0, 0, 18446744073709551615, 1, false, false⟩,
   ⟨0x3300, 0x14, "STEPS_SKIPPED", 5, 0, 0, 8, 0, 3, 0, 0, 0, 18446744073709551615, 1, false, false⟩,
   ⟨0x3300, 0x15, "BACKUPS_TAKEN", 5, 0, 0, 8, 0, 3, 0, 0, 0, 18446744073709551615, 1, false, false⟩,
   ⟨0x3300, 0x16, "LATE_VERDICTS", 5, 0, 0, 8, 0, 3, 0, 0, 0, 18446744073709551615, 1, false, false⟩,
   ⟨0x3300, 0x17, "LSA_EVICTIONS", 5, 0, 0, 8, 0, 3, 0, 0, 0, 18446744073709551615, 1, false, false⟩,
   ⟨0x3300, 0x18, "MSA_ELEMENTS", 5, 0, 0, 8, 0, 3, 0, 0, 0, 18446744073709551615, 1, false, false⟩,
   ⟨0x3300, 0x19, "RING_CELLS_SENT", 5, 0, 0, 8, 0, 3, 0, 0, 0, 18446744073709551615, 1, false, false⟩,
   ⟨0x3300, 0x1A, "RING_CELLS_RECEIVED", 5, 0, 0, 8, 0, 3, 0, 0, 0, 18446744073709551615, 1, false, false⟩,
   ⟨0x3300, 0x1B, "TABLE_ROWS_UPDATED", 5, 0, 0, 8, 0, 3, 0, 0, 0, 18446744073709551615, 1, false, false⟩,
   ⟨0x3300, 0x1C, "SERVICE_CLOCKS", 5, 0, 0, 8, 0, 3, 0, 0, 0, 18446744073709551615, 1, false, false⟩]

/-- The objects of index 0x4000. -/
def objs4000 : List Obj := [
   ⟨0x4000, 0x01, "LPDDR_RAW_BYTES", 5, 0, 0, 8, 0, 3, 0, 2199023255552, 0, 18446744073709551615, 1, false, false⟩,
   ⟨0x4000, 0x02, "LPDDR_USABLE_BYTES", 5, 0, 0, 8, 0, 3, 0, 2061584302080, 0, 18446744073709551615, 1, false, false⟩,
   ⟨0x4000, 0x03, "USER_REGION_BYTES", 5, 0, 0, 8, 2, 1, 1, 137438953472, 0, 2052994367488, 1073741824, false, false⟩,
   ⟨0x4000, 0x04, "MANAGED_FREE_BYTES", 5, 0, 0, 8, 0, 3, 0, 0, 0, 18446744073709551615, 1, false, false⟩,
   ⟨0x4000, 0x05, "REGION_USAGE", 11, 0, 0, 0, 0, 3, 0, 0, 72, 72, 1, false, false⟩,
   ⟨0x4000, 0x06, "INTERLEAVE_BYTES", 4, 0, 0, 4, 0, 3, 0, 256, 0, 4294967295, 1, false, false⟩,
   ⟨0x4000, 0x07, "SCRUB_PERIOD_S", 4, 0, 0, 4, 2, 1, 2, 86400, 3600, 604800, 1, false, false⟩,
   ⟨0x4000, 0x08, "LPDDR_CORRECTED", 5, 0, 0, 8, 0, 3, 0, 0, 0, 18446744073709551615, 1, false, false⟩,
   ⟨0x4000, 0x09, "LPDDR_TRANSIENT", 5, 0, 0, 8, 0, 3, 0, 0, 0, 18446744073709551615, 1, false, false⟩,
   ⟨0x4000, 0x0A, "LPDDR_UNCORRECTABLE", 5, 0, 0, 8, 0, 3, 0, 0, 0, 18446744073709551615, 1, false, false⟩,
   ⟨0x4000, 0x0B, "LINK_CORRECTED", 5, 0, 0, 8, 0, 3, 0, 0, 0, 18446744073709551615, 1, false, false⟩,
   ⟨0x4000, 0x0C, "SRAM_CORRECTED", 5, 0, 0, 8, 0, 3, 0, 0, 0, 18446744073709551615, 1, false, false⟩,
   ⟨0x4000, 0x0D, "SRAM_UNCORRECTABLE", 5, 0, 0, 8, 0, 3, 0, 0, 0, 18446744073709551615, 1, false, false⟩,
   ⟨0x4000, 0x0E, "SPARE_PAGES_FREE", 10, 4, 32, 128, 0, 3, 0, 0, 0, 4294967295, 1, false, false⟩,
   ⟨0x4000, 0x0F, "SPARE_ROWS_FREE", 10, 2, 512, 512, 0, 3, 0, 0, 0, 255, 1, false, false⟩,
   ⟨0x4000, 0x10, "REFRESH_MULTIPLIER", 10, 2, 32, 32, 0, 3, 0, 0, 0, 255, 1, false, false⟩] ++ [
   ⟨0x4000, 0x11, "LAST_ERROR", 11, 0, 0, 0, 0, 3, 0, 0, 32, 32, 1, false, false⟩,
   ⟨0x4000, 0x12, "REMOTE_READ_BYTES", 5, 0, 0, 8, 0, 3, 0, 0, 0, 18446744073709551615, 1, false, false⟩,
   ⟨0x4000, 0x13, "REMOTE_WRITE_BYTES", 5, 0, 0, 8, 0, 3, 0, 0, 0, 18446744073709551615, 1, false, false⟩,
   ⟨0x4000, 0x14, "POISONED_READS", 5, 0, 0, 8, 0, 3, 0, 0, 0, 18446744073709551615, 1, false, false⟩,
   ⟨0x4000, 0x15, "LOT_REPAIRS", 5, 0, 0, 8, 0, 3, 0, 0, 0, 18446744073709551615, 1, false, false⟩]

/-- The objects of index 0x4100. -/
def objs4100 : List Obj := [
   ⟨0x4100, 0x01, "PORT_SELECT", 2, 0, 0, 1, 1, 0, 1, 0, 0, 3, 1, true, false⟩,
   ⟨0x4100, 0x02, "PORT_STATUS", 11, 0, 0, 0, 0, 3, 0, 0, 32, 32, 1, false, true⟩,
   ⟨0x4100, 0x03, "PHY_MODE", 2, 0, 0, 1, 2, 2, 1, 0, 0, 1, 1, false, true⟩,
   ⟨0x4100, 0x04, "PORT_ENABLE", 1, 0, 0, 1, 2, 2, 1, 1, 0, 1, 1, false, true⟩,
   ⟨0x4100, 0x05, "MAC_ADDRESS", 10, 2, 6, 6, 0, 3, 0, 0, 0, 255, 1, false, true⟩,
   ⟨0x4100, 0x06, "IPV4_ADDRESS", 4, 0, 0, 4, 2, 2, 1, 0, 0, 4294967295, 1, false, true⟩,
   ⟨0x4100, 0x07, "IPV4_PREFIX", 2, 0, 0, 1, 2, 2, 1, 24, 1, 32, 1, false, true⟩,
   ⟨0x4100, 0x08, "IPV4_GATEWAY", 4, 0, 0, 4, 2, 2, 1, 0, 0, 4294967295, 1, false, true⟩,
   ⟨0x4100, 0x09, "IPV6_ADDRESS", 10, 2, 16, 16, 2, 2, 1, 0, 0, 255, 1, false, true⟩,
   ⟨0x4100, 0x0A, "IPV6_PREFIX", 2, 0, 0, 1, 2, 2, 1, 64, 1, 128, 1, false, true⟩,
   ⟨0x4100, 0x0B, "IPV6_GATEWAY", 10, 2, 16, 16, 2, 2, 1, 0, 0, 255, 1, false, true⟩,
   ⟨0x4100, 0x0C, "VLAN_ID", 3, 0, 0, 2, 2, 2, 1, 0, 0, 4094, 1, false, true⟩,
   ⟨0x4100, 0x0D, "PCP", 2, 0, 0, 1, 2, 2, 1, 3, 0, 7, 1, false, true⟩,
   ⟨0x4100, 0x0E, "DSCP", 2, 0, 0, 1, 2, 2, 1, 26, 0, 63, 1, false, true⟩,
   ⟨0x4100, 0x0F, "PFC_ENABLE", 2, 0, 0, 1, 2, 2, 1, 0, 0, 255, 1, false, true⟩,
   ⟨0x4100, 0x10, "ECN_ENABLE", 1, 0, 0, 1, 2, 2, 1, 1, 0, 1, 1, false, false⟩] ++ [
   ⟨0x4100, 0x11, "CNP_INTERVAL_US", 3, 0, 0, 2, 2, 2, 1, 50, 1, 1000, 1, false, false⟩,
   ⟨0x4100, 0x12, "RATE_MIN_MBPS", 4, 0, 0, 4, 2, 2, 1, 1000, 100, 200000, 1, false, false⟩,
   ⟨0x4100, 0x13, "RATE_RECOVER_US", 3, 0, 0, 2, 2, 2, 1, 55, 1, 10000, 1, false, false⟩,
   ⟨0x4100, 0x14, "ACK_DELAY_NS", 4, 0, 0, 4, 2, 2, 1, 2000, 100, 100000, 1, false, false⟩,
   ⟨0x4100, 0x15, "LOCAL_ACK_TIMEOUT", 2, 0, 0, 1, 2, 2, 1, 8, 1, 31, 1, false, false⟩,
   ⟨0x4100, 0x16, "RETRY_COUNT", 2, 0, 0, 1, 2, 2, 1, 7, 0, 7, 1, false, false⟩,
   ⟨0x4100, 0x17, "SESSION_TX_LIMIT", 4, 0, 0, 4, 2, 2, 1, 16777216, 65536, 268435456, 1, false, false⟩,
   ⟨0x4100, 0x18, "LINK_DOWN_HOLD_MS", 4, 0, 0, 4, 2, 2, 1, 100, 1, 60000, 1, false, false⟩,
   ⟨0x4100, 0x19, "RNR_MESSAGES", 3, 0, 0, 2, 2, 2, 1, 64, 4, 4096, 1, false, false⟩,
   ⟨0x4100, 0x1A, "RNR_TIMER", 2, 0, 0, 1, 2, 2, 1, 1, 0, 31, 1, false, false⟩,
   ⟨0x4100, 0x1B, "WINDOW_SELECT", 2, 0, 0, 1, 1, 0, 1, 0, 0, 63, 1, true, false⟩,
   ⟨0x4100, 0x1C, "WINDOW", 11, 0, 0, 0, 2, 1, 1, 0, 32, 32, 1, false, true⟩,
   ⟨0x4100, 0x1D, "SESSION_INFO", 11, 0, 0, 0, 0, 3, 0, 0, 48, 48, 1, false, true⟩,
   ⟨0x4100, 0x1E, "SESSION_RESET", 4, 0, 0, 4, 4, 1, 1, 0, 0, 262143, 1, false, false⟩,
   ⟨0x4100, 0x1F, "VILUR_ON_HOST_PORTS", 1, 0, 0, 1, 2, 2, 1, 1, 0, 1, 1, false, false⟩,
   ⟨0x4100, 0x20, "PORT_COUNTERS", 11, 0, 0, 0, 0, 3, 0, 0, 128, 128, 1, false, true⟩] ++ [
   ⟨0x4100, 0x21, "ACCESS_ERRORS", 5, 0, 0, 8, 0, 3, 0, 0, 0, 18446744073709551615, 1, false, false⟩,
   ⟨0x4100, 0x22, "SESSIONS_BY_TYPE", 10, 4, 3, 12, 0, 3, 0, 0, 0, 4294967295, 1, false, false⟩]

/-- The objects of index 0x4200. -/
def objs4200 : List Obj := [
   ⟨0x4200, 0x01, "DEVICE_NUMBER", 2, 0, 0, 1, 2, 2, 2, 0, 0, 255, 1, false, false⟩,
   ⟨0x4200, 0x02, "CASCADE_ID", 4, 0, 0, 4, 2, 2, 2, 0, 0, 4294967295, 1, false, false⟩,
   ⟨0x4200, 0x03, "CASCADE_STATE", 2, 0, 0, 1, 0, 3, 0, 0, 0, 3, 1, false, false⟩,
   ⟨0x4200, 0x04, "OUT_REASON", 2, 0, 0, 1, 0, 3, 0, 0, 0, 255, 1, false, false⟩,
   ⟨0x4200, 0x05, "MEMBERS", 10, 2, 32, 32, 0, 3, 0, 0, 0, 255, 1, false, false⟩,
   ⟨0x4200, 0x06, "MASTER_HOPS", 2, 0, 0, 1, 0, 3, 0, 0, 0, 255, 1, false, false⟩,
   ⟨0x4200, 0x07, "PORT_SELECT", 2, 0, 0, 1, 1, 0, 1, 0, 0, 11, 1, true, false⟩,
   ⟨0x4200, 0x08, "PORT_ENABLE", 1, 0, 0, 1, 2, 2, 1, 1, 0, 1, 1, false, true⟩,
   ⟨0x4200, 0x09, "PORT_STATUS", 11, 0, 0, 0, 0, 3, 0, 0, 16, 16, 1, false, true⟩,
   ⟨0x4200, 0x0A, "PORT_COUNTERS", 11, 0, 0, 0, 0, 3, 0, 0, 96, 96, 1, false, true⟩,
   ⟨0x4200, 0x0B, "PORT_ASYMMETRY_NS", 6, 0, 0, 4, 2, 2, 1, 0, 4294966296, 1000, 1, false, true⟩,
   ⟨0x4200, 0x0C, "SPARE_LANE_MAP", 10, 2, 4, 4, 2, 2, 2, 255, 0, 255, 1, false, false⟩,
   ⟨0x4200, 0x0D, "LANE_STATUS", 10, 2, 52, 52, 0, 3, 0, 0, 0, 4, 1, false, false⟩,
   ⟨0x4200, 0x0E, "ROUTE_SFC", 5, 0, 0, 8, 0, 3, 0, 0, 0, 18446744073709551615, 1, false, false⟩,
   ⟨0x4200, 0x0F, "ROUTES", 10, 2, 256, 256, 0, 3, 0, 255, 0, 255, 1, false, false⟩,
   ⟨0x4200, 0x10, "SHARD_MAP_SELECT", 2, 0, 0, 1, 1, 0, 1, 0, 0, 15, 1, true, false⟩] ++ [
   ⟨0x4200, 0x11, "SHARD_MAP", 11, 0, 0, 0, 2, 1, 2, 0, 68, 1088, 1, false, true⟩,
   ⟨0x4200, 0x12, "PORT_GROUP", 10, 2, 4, 4, 2, 1, 2, 255, 0, 15, 1, false, false⟩,
   ⟨0x4200, 0x13, "MCAST_GUARD_NS", 3, 0, 0, 2, 2, 2, 2, 1900, 500, 2000, 1, false, false⟩,
   ⟨0x4200, 0x14, "REMOTE_TIMEOUT_US", 4, 0, 0, 4, 2, 2, 1, 100, 10, 100000, 1, false, false⟩,
   ⟨0x4200, 0x15, "REPLAY_TIMEOUT_NS", 4, 0, 0, 4, 2, 2, 1, 4000, 1000, 100000, 1, false, false⟩,
   ⟨0x4200, 0x16, "RETRY_LIMIT", 2, 0, 0, 1, 2, 2, 1, 16, 1, 255, 1, false, false⟩,
   ⟨0x4200, 0x17, "DELAY_INTERVAL_US", 4, 0, 0, 4, 2, 2, 1, 1000, 100, 1000000, 1, false, false⟩,
   ⟨0x4200, 0x18, "MCAST_DROPS", 5, 0, 0, 8, 0, 3, 0, 0, 0, 18446744073709551615, 1, false, false⟩,
   ⟨0x4200, 0x19, "TOWER_OUT_LATE", 5, 0, 0, 8, 0, 3, 0, 0, 0, 18446744073709551615, 1, false, false⟩,
   ⟨0x4200, 0x1A, "DEVICE_CONFLICTS", 5, 0, 0, 8, 0, 3, 0, 0, 0, 18446744073709551615, 1, false, false⟩,
   ⟨0x4200, 0x1B, "ROUTE_CHANGES", 5, 0, 0, 8, 0, 3, 0, 0, 0, 18446744073709551615, 1, false, false⟩]

/-- The objects of index 0x4300. -/
def objs4300 : List Obj := [
   ⟨0x4300, 0x01, "CISTERN_RAW_BYTES", 5, 0, 0, 8, 0, 3, 0, 17592186044416, 0, 18446744073709551615, 1, false, false⟩,
   ⟨0x4300, 0x02, "CISTERN_USER_BYTES", 5, 0, 0, 8, 0, 3, 0, 13194139533312, 0, 18446744073709551615, 1, false, false⟩,
   ⟨0x4300, 0x03, "STORE_AREA_BYTES", 5, 0, 0, 8, 2, 1, 1, 6597069766656, 0, 13159779794944, 1073741824, false, false⟩,
   ⟨0x4300, 0x04, "LIBRARY_FREE_BYTES", 5, 0, 0, 8, 0, 3, 0, 0, 0, 18446744073709551615, 1, false, false⟩,
   ⟨0x4300, 0x05, "STORE_SHARE", 3, 0, 0, 2, 2, 1, 2, 128, 0, 256, 1, false, false⟩,
   ⟨0x4300, 0x06, "WRITE_CACHE_BYTES", 5, 0, 0, 8, 0, 3, 0, 4294967296, 0, 18446744073709551615, 1, false, false⟩,
   ⟨0x4300, 0x07, "WRITE_CACHE_DIRTY", 5, 0, 0, 8, 0, 3, 0, 0, 0, 18446744073709551615, 1, false, false⟩,
   ⟨0x4300, 0x08, "ATOMIC_UNIT_BYTES", 4, 0, 0, 4, 0, 3, 0, 16384, 16384, 1048576, 1, false, false⟩,
   ⟨0x4300, 0x09, "JOURNAL_LIMIT_BYTES", 4, 0, 0, 4, 0, 3, 0, 0, 0, 4294967295, 1, false, false⟩,
   ⟨0x4300, 0x0A, "JOURNAL_USED_BYTES", 4, 0, 0, 4, 0, 3, 0, 0, 0, 4294967295, 1, false, false⟩,
   ⟨0x4300, 0x0B, "STORE_COMMANDS", 5, 0, 0, 8, 0, 3, 0, 0, 0, 18446744073709551615, 1, false, false⟩,
   ⟨0x4300, 0x0C, "STORE_READ_BYTES", 5, 0, 0, 8, 0, 3, 0, 0, 0, 18446744073709551615, 1, false, false⟩,
   ⟨0x4300, 0x0D, "STORE_WRITE_BYTES", 5, 0, 0, 8, 0, 3, 0, 0, 0, 18446744073709551615, 1, false, false⟩,
   ⟨0x4300, 0x0E, "FORCE_JOURNALED", 5, 0, 0, 8, 0, 3, 0, 0, 0, 18446744073709551615, 1, false, false⟩,
   ⟨0x4300, 0x0F, "FORCE_DIRECT", 5, 0, 0, 8, 0, 3, 0, 0, 0, 18446744073709551615, 1, false, false⟩,
   ⟨0x4300, 0x10, "RANGE_LOCK_STALLS", 5, 0, 0, 8, 0, 3, 0, 0, 0, 18446744073709551615, 1, false, false⟩] ++ [
   ⟨0x4300, 0x11, "RANGE_LOCKS_USED", 3, 0, 0, 2, 0, 3, 0, 0, 0, 4096, 1, false, false⟩,
   ⟨0x4300, 0x12, "MEDIA_ERRORS", 5, 0, 0, 8, 0, 3, 0, 0, 0, 18446744073709551615, 1, false, false⟩,
   ⟨0x4300, 0x13, "STORE_DISCARDED", 5, 0, 0, 8, 0, 3, 0, 0, 0, 18446744073709551615, 1, false, false⟩,
   ⟨0x4300, 0x14, "CISTERN_STATE", 2, 0, 0, 1, 0, 3, 0, 0, 0, 1, 1, false, false⟩,
   ⟨0x4300, 0x15, "LAST_FLUSH", 11, 0, 0, 0, 0, 3, 0, 0, 32, 32, 1, false, false⟩,
   ⟨0x4300, 0x16, "ATOMIC_REFUSED", 5, 0, 0, 8, 0, 3, 0, 0, 0, 18446744073709551615, 1, false, false⟩,
   ⟨0x4300, 0x17, "SYSTEM_REGION_BYTES", 5, 0, 0, 8, 0, 3, 0, 34359738368, 0, 18446744073709551615, 1, false, false⟩]

/-- The objects of index 0x4400. -/
def objs4400 : List Obj := [
   ⟨0x4400, 0x01, "HOLDUP_STATE", 2, 0, 0, 1, 0, 3, 0, 0, 0, 2, 1, false, false⟩,
   ⟨0x4400, 0x02, "HOLDUP_FLAGS", 2, 0, 0, 1, 0, 3, 0, 0, 0, 255, 1, false, false⟩,
   ⟨0x4400, 0x03, "USABLE_ENERGY_MJ", 4, 0, 0, 4, 0, 3, 0, 0, 0, 4294967295, 1, false, false⟩,
   ⟨0x4400, 0x04, "RATED_ENERGY_MJ", 4, 0, 0, 4, 0, 3, 0, 150000, 0, 4294967295, 1, false, false⟩,
   ⟨0x4400, 0x05, "BANK_VOLTAGE_MV", 4, 0, 0, 4, 0, 3, 0, 0, 0, 4294967295, 1, false, false⟩,
   ⟨0x4400, 0x06, "BANK_TEMP_DC", 6, 0, 0, 4, 0, 3, 0, 0, 2147483648, 2147483647, 1, false, false⟩,
   ⟨0x4400, 0x07, "CELL_CAPACITANCE_MF", 10, 4, 13, 52, 0, 3, 0, 0, 0, 4294967295, 1, false, false⟩,
   ⟨0x4400, 0x08, "CELL_VOLTAGE_MV", 10, 3, 13, 26, 0, 3, 0, 0, 0, 65535, 1, false, false⟩,
   ⟨0x4400, 0x09, "CELL_MAP", 10, 2, 13, 13, 0, 3, 0, 0, 0, 2, 1, false, false⟩,
   ⟨0x4400, 0x0A, "RESERVE_MJ", 4, 0, 0, 4, 0, 3, 0, 36000, 0, 4294967295, 1, false, false⟩,
   ⟨0x4400, 0x0B, "FLUSH_WORST_MJ", 4, 0, 0, 4, 0, 3, 0, 12000, 0, 4294967295, 1, false, false⟩,
   ⟨0x4400, 0x0C, "EOL_MJ", 4, 0, 0, 4, 0, 3, 0, 40000, 0, 4294967295, 1, false, false⟩,
   ⟨0x4400, 0x0D, "TEST_INTERVAL_S", 4, 0, 0, 4, 2, 1, 1, 86400, 3600, 604800, 1, false, false⟩,
   ⟨0x4400, 0x0E, "TEST_NOW", 1, 0, 0, 1, 4, 1, 1, 0, 0, 1, 1, false, false⟩,
   ⟨0x4400, 0x0F, "LAST_TEST", 11, 0, 0, 0, 0, 3, 0, 0, 32, 32, 1, false, false⟩,
   ⟨0x4400, 0x10, "CHARGE_CURRENT_MA", 3, 0, 0, 2, 0, 3, 0, 500, 0, 65535, 1, false, false⟩] ++ [
   ⟨0x4400, 0x11, "TESTS_RUN", 5, 0, 0, 8, 0, 3, 0, 0, 0, 18446744073709551615, 1, false, false⟩,
   ⟨0x4400, 0x12, "FLUSHES", 5, 0, 0, 8, 0, 3, 0, 0, 0, 18446744073709551615, 1, false, false⟩]

/-- The objects of index 0x5000. -/
def objs5000 : List Obj := [
   ⟨0x5000, 0x01, "SECURITY_STATE", 2, 0, 0, 1, 0, 3, 0, 0, 0, 255, 1, false, false⟩,
   ⟨0x5000, 0x02, "OWNER_KEY", 11, 0, 0, 0, 0, 3, 0, 0, 0, 1952, 1, false, false⟩,
   ⟨0x5000, 0x03, "OWNER_KEY_ID", 5, 0, 0, 8, 0, 3, 0, 0, 0, 18446744073709551615, 1, false, false⟩,
   ⟨0x5000, 0x04, "OWNER_KEY_REPLACE", 11, 0, 0, 0, 4, 2, 1, 0, 1952, 1952, 1, false, false⟩,
   ⟨0x5000, 0x05, "OWNER_CLEAR", 1, 0, 0, 1, 4, 2, 1, 0, 0, 1, 1, false, false⟩,
   ⟨0x5000, 0x06, "DEVICE_KEY_ID", 5, 0, 0, 8, 0, 3, 0, 0, 0, 18446744073709551615, 1, false, false⟩,
   ⟨0x5000, 0x07, "DEVICE_CERT", 11, 0, 0, 0, 0, 3, 0, 0, 5389, 5389, 1, false, false⟩,
   ⟨0x5000, 0x08, "ATTEST_REQUEST", 11, 0, 0, 0, 4, 2, 1, 0, 32, 32, 1, false, false⟩,
   ⟨0x5000, 0x09, "ATTEST_REPORT", 11, 0, 0, 0, 0, 3, 0, 0, 0, 3949, 1, false, false⟩,
   ⟨0x5000, 0x0A, "MEASUREMENT", 10, 2, 64, 64, 0, 3, 0, 0, 0, 255, 1, false, false⟩,
   ⟨0x5000, 0x0B, "FW_SLOTS", 11, 0, 0, 0, 0, 3, 0, 0, 64, 64, 1, false, false⟩,
   ⟨0x5000, 0x0C, "FW_UPDATE", 11, 0, 0, 0, 4, 2, 1, 0, 32, 32, 1, false, false⟩,
   ⟨0x5000, 0x0D, "FW_UPDATE_STATE", 2, 0, 0, 1, 0, 3, 0, 0, 0, 4, 1, false, false⟩,
   ⟨0x5000, 0x0E, "FW_COMMIT", 1, 0, 0, 1, 4, 2, 1, 0, 0, 1, 1, false, false⟩,
   ⟨0x5000, 0x0F, "MIN_SVN", 2, 0, 0, 1, 0, 3, 0, 0, 0, 63, 1, false, false⟩,
   ⟨0x5000, 0x10, "DEBUG_ENABLE", 1, 0, 0, 1, 1, 2, 1, 0, 0, 1, 1, false, false⟩] ++ [
   ⟨0x5000, 0x11, "VENDOR_KEYS", 10, 2, 4, 4, 0, 3, 0, 0, 0, 1, 1, false, false⟩]

/-- The objects of index 0x5100. -/
def objs5100 : List Obj := [
   ⟨0x5100, 0x01, "START_STATE", 2, 0, 0, 1, 0, 3, 0, 0, 0, 5, 1, false, false⟩,
   ⟨0x5100, 0x02, "RESET_CAUSE", 2, 0, 0, 1, 0, 3, 0, 0, 0, 5, 1, false, false⟩,
   ⟨0x5100, 0x03, "BOOT_COUNT", 5, 0, 0, 8, 0, 3, 0, 0, 0, 18446744073709551615, 1, false, false⟩,
   ⟨0x5100, 0x04, "START_SFC", 5, 0, 0, 8, 0, 3, 0, 0, 0, 18446744073709551615, 1, false, false⟩,
   ⟨0x5100, 0x05, "RESET", 2, 0, 0, 1, 4, 2, 1, 0, 1, 2, 1, false, false⟩,
   ⟨0x5100, 0x06, "AUTO_LOAD_LOT", 1, 0, 0, 1, 2, 2, 6, 1, 0, 1, 1, false, false⟩,
   ⟨0x5100, 0x07, "RESTORE_TABLES", 1, 0, 0, 1, 2, 2, 6, 1, 0, 1, 1, false, false⟩,
   ⟨0x5100, 0x08, "FACTORY_RESET", 2, 0, 0, 1, 4, 2, 6, 0, 1, 7, 1, false, false⟩,
   ⟨0x5100, 0x09, "PERSIST_STATUS", 2, 0, 0, 1, 0, 3, 0, 0, 0, 2, 1, false, false⟩,
   ⟨0x5100, 0x0A, "LAST_START_MS", 4, 0, 0, 4, 0, 3, 0, 0, 0, 4294967295, 1, false, false⟩,
   ⟨0x5100, 0x0B, "FIRMWARE_START_NS", 5, 0, 0, 8, 0, 3, 0, 0, 0, 18446744073709551615, 1, false, false⟩,
   ⟨0x5100, 0x0C, "STARTUP_LOT", 4, 0, 0, 4, 0, 3, 0, 0, 0, 4294967295, 1, false, false⟩,
   ⟨0x5100, 0x0D, "STARTUP_LOT_RESULT", 2, 0, 0, 1, 0, 3, 0, 0, 0, 3, 1, false, false⟩,
   ⟨0x5100, 0x0E, "TABLES_RESTORED", 2, 0, 0, 1, 0, 3, 0, 0, 0, 64, 1, false, false⟩,
   ⟨0x5100, 0x0F, "TABLES_NOT_RESTORED", 2, 0, 0, 1, 0, 3, 0, 0, 0, 64, 1, false, false⟩]

/-- The objects of index 0x6000. -/
def objs6000 : List Obj := [
   ⟨0x6000, 0x01, "HEALTH_STATE", 2, 0, 0, 1, 0, 3, 0, 0, 0, 2, 1, false, false⟩,
   ⟨0x6000, 0x02, "PLACEMENT_EPOCH", 4, 0, 0, 4, 0, 3, 0, 0, 0, 4294967295, 1, false, false⟩,
   ⟨0x6000, 0x03, "SPARE_SUMMARY", 11, 0, 0, 0, 0, 3, 0, 0, 32, 32, 1, false, false⟩,
   ⟨0x6000, 0x04, "TILE_HEALTH", 11, 0, 0, 0, 0, 3, 0, 0, 16384, 16384, 1, false, false⟩,
   ⟨0x6000, 0x05, "PENDING_CUTOVERS", 3, 0, 0, 2, 0, 3, 0, 0, 0, 65535, 1, false, false⟩,
   ⟨0x6000, 0x06, "CUTOVER_REQUEST", 11, 0, 0, 0, 4, 1, 3, 0, 16, 16, 1, false, false⟩,
   ⟨0x6000, 0x07, "BIST_TILES_PER_FRAME", 2, 0, 0, 1, 2, 1, 2, 8, 0, 64, 1, false, false⟩,
   ⟨0x6000, 0x08, "BIST_CLOCKS", 3, 0, 0, 2, 0, 3, 0, 2048, 0, 65535, 1, false, false⟩,
   ⟨0x6000, 0x09, "BIST_FAILS", 5, 0, 0, 8, 0, 3, 0, 0, 0, 18446744073709551615, 1, false, false⟩,
   ⟨0x6000, 0x0A, "BIST_TRANSIENTS", 5, 0, 0, 8, 0, 3, 0, 0, 0, 18446744073709551615, 1, false, false⟩,
   ⟨0x6000, 0x0B, "HANG_LIMIT_CLOCKS", 4, 0, 0, 4, 2, 1, 2, 65536, 4096, 16777216, 1, false, false⟩,
   ⟨0x6000, 0x0C, "ROW_CE_LIMIT", 3, 0, 0, 2, 2, 1, 1, 16, 1, 65535, 1, false, false⟩,
   ⟨0x6000, 0x0D, "PAGE_CE_LIMIT", 3, 0, 0, 2, 2, 1, 1, 16, 1, 65535, 1, false, false⟩,
   ⟨0x6000, 0x0E, "LANE_CRC_LIMIT", 4, 0, 0, 4, 2, 1, 1, 100, 1, 1000000, 1, false, false⟩,
   ⟨0x6000, 0x0F, "CELL_RATIO_PCT", 2, 0, 0, 1, 2, 1, 1, 60, 30, 90, 1, false, false⟩,
   ⟨0x6000, 0x10, "WATCHDOG_MS", 3, 0, 0, 2, 2, 1, 1, 50, 10, 1000, 1, false, false⟩] ++ [
   ⟨0x6000, 0x11, "CLEAR_FAILED", 1, 0, 0, 1, 4, 1, 6, 0, 0, 1, 1, false, false⟩,
   ⟨0x6000, 0x12, "CUTOVER_COUNT", 5, 0, 0, 8, 0, 3, 0, 0, 0, 18446744073709551615, 1, false, false⟩,
   ⟨0x6000, 0x13, "DEFERRED_BY_CUTOVER", 5, 0, 0, 8, 0, 3, 0, 0, 0, 18446744073709551615, 1, false, false⟩,
   ⟨0x6000, 0x14, "SUPERVISOR_CORRECTED", 5, 0, 0, 8, 0, 3, 0, 0, 0, 18446744073709551615, 1, false, false⟩,
   ⟨0x6000, 0x15, "FAULT_STARTS", 2, 0, 0, 1, 0, 3, 0, 0, 0, 255, 1, false, false⟩,
   ⟨0x6000, 0x16, "EVENT_QUERY", 11, 0, 0, 0, 4, 1, 1, 0, 8, 8, 1, false, false⟩,
   ⟨0x6000, 0x17, "EVENT_RECORDS", 11, 0, 0, 0, 0, 3, 0, 0, 0, 16384, 1, false, false⟩,
   ⟨0x6000, 0x18, "EVENT_LAST_SEQ", 10, 4, 17, 68, 0, 3, 0, 0, 0, 4294967295, 1, false, false⟩,
   ⟨0x6000, 0x19, "EVENTS_OVERWRITTEN", 10, 4, 17, 68, 0, 3, 0, 0, 0, 4294967295, 1, false, false⟩,
   ⟨0x6000, 0x1A, "CISTERN_SPARE_PERMILLE", 3, 0, 0, 2, 0, 3, 0, 1000, 0, 1000, 1, false, false⟩]

/-- The objects of index 0x6100. -/
def objs6100 : List Obj := [
   ⟨0x6100, 0x02, "HOST_INJECTORS", 11, 0, 0, 0, 1, 2, 2, 0, 512, 512, 1, false, false⟩,
   ⟨0x6100, 0x03, "CASCADE_INJECTORS", 11, 0, 0, 0, 1, 2, 2, 0, 1536, 1536, 1, false, false⟩,
   ⟨0x6100, 0x04, "INJECT_ARM", 2, 0, 0, 1, 4, 2, 2, 0, 0, 1, 1, false, false⟩,
   ⟨0x6100, 0x05, "INJECT_LIMIT_FRAMES", 4, 0, 0, 4, 1, 2, 2, 40000, 1, 4294967295, 1, false, false⟩,
   ⟨0x6100, 0x06, "INJECT_STATE", 2, 0, 0, 1, 0, 3, 0, 0, 0, 1, 1, false, false⟩,
   ⟨0x6100, 0x07, "INJECT_ARM_SFC", 5, 0, 0, 8, 0, 3, 0, 0, 0, 18446744073709551615, 1, false, false⟩]

/-- The objects of index 0x7000. -/
def objs7000 : List Obj := [
   ⟨0x7000, 0x01, "POWER_CAP", 3, 0, 0, 2, 2, 2, 4, 950, 500, 950, 1, false, false⟩,
   ⟨0x7000, 0x02, "CAP_LIMIT", 3, 0, 0, 2, 0, 3, 0, 950, 0, 65535, 1, false, false⟩,
   ⟨0x7000, 0x03, "EFFECTIVE_CAP", 3, 0, 0, 2, 0, 3, 0, 950, 0, 65535, 1, false, false⟩,
   ⟨0x7000, 0x04, "EMERGENCY_STEP", 2, 0, 0, 1, 0, 3, 0, 0, 0, 3, 1, false, false⟩,
   ⟨0x7000, 0x05, "EMERGENCY_CAUSE", 2, 0, 0, 1, 0, 3, 0, 0, 0, 4, 1, false, false⟩,
   ⟨0x7000, 0x06, "RESTORE_HOLD_S", 3, 0, 0, 2, 2, 2, 1, 10, 1, 3600, 1, false, false⟩,
   ⟨0x7000, 0x07, "INPUT_VOLTAGE_MV", 4, 0, 0, 4, 0, 3, 0, 0, 0, 4294967295, 1, false, false⟩,
   ⟨0x7000, 0x08, "INPUT_CURRENT_MA", 4, 0, 0, 4, 0, 3, 0, 0, 0, 4294967295, 1, false, false⟩,
   ⟨0x7000, 0x09, "INPUT_POWER_W", 3, 0, 0, 2, 0, 3, 0, 0, 0, 65535, 1, false, false⟩,
   ⟨0x7000, 0x0A, "STANDBY_VOLTAGE_MV", 3, 0, 0, 2, 0, 3, 0, 0, 0, 65535, 1, false, false⟩,
   ⟨0x7000, 0x0B, "TEMPERATURES", 10, 99, 20, 40, 0, 3, 0, 0, 0, 65535, 1, false, false⟩,
   ⟨0x7000, 0x0C, "THERMAL_STATE", 2, 0, 0, 1, 0, 3, 0, 0, 0, 1, 1, false, false⟩,
   ⟨0x7000, 0x0D, "EMERGENCY_COUNT", 5, 0, 0, 8, 0, 3, 0, 0, 0, 18446744073709551615, 1, false, false⟩,
   ⟨0x7000, 0x0E, "THERMAL_ALERTS", 5, 0, 0, 8, 0, 3, 0, 0, 0, 18446744073709551615, 1, false, false⟩,
   ⟨0x7000, 0x0F, "PEAK_POWER_W", 3, 0, 0, 2, 0, 3, 0, 0, 0, 65535, 1, false, false⟩]

/-- Every implemented index. -/
def objIndices : List Nat := [0x1000, 0x1010, 0x1100, 0x1200, 0x2000, 0x2100, 0x2200, 0x3000, 0x3080, 0x30F0, 0x3100, 0x3200, 0x3300, 0x4000, 0x4100, 0x4200, 0x4300, 0x4400, 0x5000, 0x5100, 0x6000, 0x6100, 0x7000]

/-- The objects of an index, subindex 0 apart. -/
def objsOf (index : Nat) : List Obj :=
  match index with
  | 0x1000 => objs1000
  | 0x1010 => objs1010
  | 0x1100 => objs1100
  | 0x1200 => objs1200
  | 0x2000 => objs2000
  | 0x2100 => objs2100
  | 0x2200 => objs2200
  | 0x3000 => objs3000
  | 0x3080 => objs3080
  | 0x30F0 => objs30F0
  | 0x3100 => objs3100
  | 0x3200 => objs3200
  | 0x3300 => objs3300
  | 0x4000 => objs4000
  | 0x4100 => objs4100
  | 0x4200 => objs4200
  | 0x4300 => objs4300
  | 0x4400 => objs4400
  | 0x5000 => objs5000
  | 0x5100 => objs5100
  | 0x6000 => objs6000
  | 0x6100 => objs6100
  | 0x7000 => objs7000
  | _ => []

/-- The subindex-0 object of an index (16 R447). -/
def obj0 (index : Nat) : Obj :=
  let h := ((objsOf index).map (·.sub)).foldl Nat.max 0
  ⟨index, 0, "HIGHEST_SUBINDEX", 2, 0, 0, 1, 0, 3, 0, h, 0, 255, 1, false, false⟩

/-- Every object, in ascending index and subindex (16 R475, R476). -/
def catalogue : List Obj := (objIndices.map (fun i => obj0 i :: objsOf i)).flatten

/-- The object that an index and a subindex name. -/
def findObj (index sub : Nat) : Option Obj :=
  if sub = 0 then (if objIndices.contains index then some (obj0 index) else none)
  else (objsOf index).find? (fun o => o.sub == sub)

/-- The ELEM_TYPE field: the one array of 16-bit signed elements has no code in 16 Table 16-1 (log 8). -/
def Obj.elemCode (o : Obj) : Nat := if o.elem = 99 then Config.elemI16 % 16 else o.elem

end Sys2Proof.Machine
end

