-- ==== Sys2Proof/Machine/Map.lean ====
section
/-! DEFINITION. Sparse contents: maps as lists with strictly rising keys, and byte memories as lists of Host.Cell in
one canonical form (rising addresses, no cell equal to 0, which is what an unlisted address reads as:
12 R346, R355, 07 R213, 15 R421). -/

namespace Sys2Proof.Machine

/-- What a key holds. -/
def mGet {α : Type} (l : List (Nat × α)) (k : Nat) : Option α :=
  match l with
  | [] => none
  | (j, v) :: r => if j = k then some v else mGet r k

/-- What a key holds, d where it is unlisted. -/
def mGetD {α : Type} (l : List (Nat × α)) (k : Nat) (d : α) : α := (mGet l k).getD d

/-- Make a key hold a value. -/
def mPut {α : Type} (l : List (Nat × α)) (k : Nat) (v : α) : List (Nat × α) :=
  match l with
  | [] => [(k, v)]
  | (j, w) :: r => if k < j then (k, v) :: (j, w) :: r else if j = k then (k, v) :: r else (j, w) :: mPut r k v

/-- Unlist a key. -/
def mDel {α : Type} (l : List (Nat × α)) (k : Nat) : List (Nat × α) := l.filter (fun p => p.1 != k)

/-- Make a key hold a number, unlisted when it is d. -/
def mPutZ (l : List (Nat × Nat)) (k v d : Nat) : List (Nat × Nat) := if v = d then mDel l k else mPut l k v

/-- Change what a listed key holds. -/
def mMod {α : Type} (l : List (Nat × α)) (k : Nat) (f : α → α) : List (Nat × α) :=
  match mGet l k with
  | some v => mPut l k (f v)
  | none => l

/-- Is a key listed? -/
def mHas {α : Type} (l : List (Nat × α)) (k : Nat) : Bool := (mGet l k).isSome

/-- Add to a counter whose unlisted value is 0. -/
def mAdd (l : List (Nat × Nat)) (k n : Nat) : List (Nat × Nat) := mPutZ l k (mGetD l k 0 + n) 0

/-- The byte at an address. -/
def memRead (c : List Host.Cell) (a : Nat) : Byte := mGetD c a 0

/-- n bytes from an address. -/
def memReadN (c : List Host.Cell) (a n : Nat) : Bytes := (List.range n).map (fun i => memRead c (a + i))

/-- The cells of a byte string at an address, without those that are 0. -/
def cellsOf (a : Nat) : Bytes → List Host.Cell
  | [] => []
  | b :: r => if b = 0 then cellsOf (a + 1) r else (a, b) :: cellsOf (a + 1) r

/-- Write a byte string at an address. -/
def memWriteN (c : List Host.Cell) (a : Nat) (bs : Bytes) : List Host.Cell :=
  c.filter (fun p => p.1 < a) ++ cellsOf a bs ++ c.filter (fun p => decide (a + bs.length ≤ p.1))

/-- Write one byte. -/
def memWrite (c : List Host.Cell) (a : Nat) (b : Byte) : List Host.Cell := memWriteN c a [b]

/-- Make n bytes from an address read 0. -/
def memClear (c : List Host.Cell) (a n : Nat) : List Host.Cell := c.filter (fun p => decide (p.1 < a ∨ a + n ≤ p.1))

/-- The little-endian number in n bytes from an address. -/
def memLe (c : List Host.Cell) (a n : Nat) : Nat := leNat (memReadN c a n)

/-- Write n little-endian bytes of a number. -/
def memPutLe (c : List Host.Cell) (a n v : Nat) : List Host.Cell := memWriteN c a (toLe n v)

/-- The canonical form of a byte memory: rising addresses, no cell equal to 0. -/
def memWf : List Host.Cell → Bool
  | [] => true
  | [p] => p.2 != 0
  | p :: q :: r => p.2 != 0 && decide (p.1 < q.1) && memWf (q :: r)

end Sys2Proof.Machine
end

