-- ==== Sys2Proof/Machine/State.lean ====
section
/-! DEFINITION. The state of the FN2 module as plain data: every register, memory, queue, counter, mode and pin of
spec/, grouped by the chapter that owns it, beside the queue of commands that wait. A map of sparse contents is a
list of key and value pairs with strictly rising keys; what an unlisted key holds is said at each field.
The rule named after each field is the rule of spec/ (chapter number, rule) that gives it. -/

namespace Sys2Proof.Machine

/-- A message that the module sends, as it leaves (the model's own record of the module's outputs, log 3). -/
inductive Out where
  /-- RDMA WRITE with immediate: session, slot (the immediate), host address, bytes (13 R378, 05 R153, 06 R175, 15 R427). -/
  | completion (session slot addr : Nat) (bytes : Bytes)
  /-- RDMA WRITE without immediate: Store read data (15 R425). -/
  | rdmaWrite (session addr rkey : Nat) (bytes : Bytes)
  /-- RDMA READ request: session, host address, key, bytes (13 Table 13-1). -/
  | rdmaRead (session addr rkey len : Nat)
  /-- A response packet of a host's RDMA READ: session, PSN, bytes (13 R383). -/
  | readData (session psn : Nat) (bytes : Bytes)
  /-- ACK of a session up to a PSN (13 R372). -/
  | ack (session psn : Nat)
  /-- NAK: session, PSN, code 0 sequence, 1 Invalid Request, 2 Remote Access Error, 3 Remote Operational Error (13 R371, R382, R383). -/
  | nak (session psn code : Nat)
  /-- RNR NAK: session, PSN, timer code (13 R374). -/
  | rnrNak (session psn timer : Nat)
  /-- CNP to a session's host (13 R375). -/
  | cnp (session : Nat)
  /-- A CM message on a host port: kind 0 REP, 1 REJ, 2 DREP; session or 0; private data (13 R376, R377). -/
  | cm (port kind session : Nat) (bytes : Bytes)
  /-- A PFC frame: port, priority, XOFF or XON (13 R368). -/
  | pfc (port prio : Nat) (xoff : Bool)
  /-- An answer or request of ARP, neighbour discovery or ICMP: port, kind, peer address (13 R369). -/
  | neighbour (port kind addr : Nat) (bytes : Bytes)
  /-- A UDP datagram of the Vilur protocol: port, address, UDP port, payload (16 R455). -/
  | datagram (port addr udp : Nat) (bytes : Bytes)
  /-- A cell on a cascade port (14 R392). -/
  | cell (port : Nat) (bytes : Bytes)
  /-- A PTP message: host port, kind 0 Sync, 1 Delay_Req, 2 Delay_Resp, 3 Announce, 4 Follow_Up; time stamp (02 R56). -/
  | ptp (port kind time : Nat)
  /-- The SMBus endpoint's answer to a read; the empty list is a NAK (19 R534). -/
  | smbus (bytes : Bytes)
  deriving DecidableEq, Repr

/-- One entry of the supervisor's schedule (Table 02-4). -/
structure Action where
  /-- acknowledgement order, rising by 1 per accepted action (02 R40). -/
  seq : Nat := 0
  /-- 0 OD value, 1 clock step, 2 frame shape, 3 profile, 4 spare cut-over, 5 Lot switch, 6 table switch, 7 hot-row refresh, 8 reduction deadline (02 R40). -/
  kind : Nat := 0
  /-- INDEX, SUBINDEX and the instance a selector named (KIND 0 to 3) (02 R40). -/
  key : Nat := 0
  /-- the whole new value (KIND 0 to 3) (02 R40). -/
  value : Bytes := []
  /-- VALUE of KIND 4 to 8: Lot number, table and version, epoch, job (02 R40). -/
  arg : Nat := 0
  /-- KIND 4: which part moves (part kind, failed part and spare, packed) (18 R500). -/
  part : Nat := 0
  /-- TARGET_SFC (02 R40). -/
  target : Nat := 0
  /-- host-placed, counted against the 256 (02 R40). -/
  host : Bool := false
  deriving DecidableEq, Repr

/-- The master a PTP port has selected from Announce messages (R56). -/
structure BestMaster where
  /-- priority1 (02 R56). -/
  prio1 : Nat := 0
  /-- clock class, accuracy and variance, in comparison order (02 R56). -/
  quality : Nat := 0
  /-- priority2 (02 R56). -/
  prio2 : Nat := 0
  /-- clock identity (02 R56). -/
  identity : Nat := 0
  deriving DecidableEq, Repr

/-- The Sluice frame, the tick grid and time (chapter 2). -/
structure Clock where
  /-- module time in ns (02 R29). -/
  now : Nat := 0
  /-- the frame count of the latest tick (02 R32). -/
  sfc : Nat := 0
  /-- a tick has been issued since this start (02 R55). -/
  ticked : Bool := false
  /-- B_SFC, 0x1100.1C (02 R30). -/
  baseSfc : Nat := 0
  /-- B_T, 0x1100.1D (02 R30). -/
  baseNs : Nat := 0
  /-- P, 0x1100.01 (02 R31). -/
  period : Nat := 250000
  /-- 0x1100.02 (02 R36). -/
  depth : Nat := 3
  /-- 0x1100.03 (02 R30). -/
  epoch : Nat := 0
  /-- 0x1100.05 (02 R60). -/
  profile : Nat := 0
  /-- 0x1100.06 (02 R60). -/
  profileModified : Bool := false
  /-- 0 UNLOCKED, 1 LOCKING, 2 LOCKED, 3 HOLDOVER, 4 FREE (02 R51). -/
  timeState : Nat := 0
  /-- 0x1100.09 (02 R52). -/
  offset : Int := 0
  /-- consecutive intervals with the offset within 40 ns (02 R52). -/
  inRun : Nat := 0
  /-- consecutive intervals with it outside (02 R52). -/
  outRun : Nat := 0
  /-- module time of the last valid Sync or beacon (02 R53). -/
  lastSync : Nat := 0
  /-- CLOCK_STEP in force, 0x1100.19 (02 R46). -/
  step : Nat := 0
  /-- the change list of the next tick has closed (02 R12). -/
  closed : Bool := false
  /-- while draining: n_s, the first tick at which nothing is admitted (02 R54). -/
  drainFrom : Option Nat := none
  /-- while draining: the tick n_s + D at which the drain ends (02 R54). -/
  drainEnd : Option Nat := none
  /-- the time step to take when the drain ends (02 R54). -/
  drainStep : Option Int := none
  /-- the reset cause an orderly stop ends in (17 R480). -/
  drainReset : Option Nat := none
  /-- the erasures a FACTORY_RESET asked for (17 R499). -/
  factory : Nat := 0
  /-- base triple and depth adopted from a beacon, for the next tick (02 R59). -/
  adopt : Option (Nat × Nat × Nat × Nat) := none
  /-- consecutive matched beacons, to 16 (02 R59). -/
  beaconMatch : Nat := 0
  /-- consecutive ticks with no beacon, to 8 (02 R59). -/
  beaconMiss : Nat := 0
  /-- the beacon payload received for the next tick (02 R58). -/
  beaconHere : Option Bytes := none
  /-- after a time step of a cascade member: the next valid beacon's base triple is adopted (02 R54). -/
  adoptNext : Bool := false
  /-- the last accepted PPS_IN edge (19 R533). -/
  ppsEdge : Option Nat := none
  /-- best master of the PTP port (02 R56). -/
  best : Option BestMaster := none
  /-- measured mean path delay, ns (02 R56). -/
  ptpDelay : Int := 0
  /-- transmit time of the Delay_Req in flight (02 R56). -/
  ptpT1 : Option Nat := none
  /-- FIRMWARE_START_NS (17 R482). -/
  fwStart : Nat := 0
  deriving DecidableEq, Repr

/-- One event record (Table 18-2). -/
structure EventRec where
  /-- SOURCE (18 R513). -/
  source : Nat := 0
  /-- CODE (18 R513). -/
  code : Nat := 0
  /-- per-source sequence number (18 R513). -/
  seq : Nat := 0
  /-- SFC at logging (18 R513). -/
  sfc : Nat := 0
  /-- module time at logging (18 R513). -/
  time : Nat := 0
  /-- DATA (18 R513). -/
  data : Nat := 0
  deriving DecidableEq, Repr

/-- The object dictionary's stored values (chapter 16). -/
structure Od where
  /-- values in force of the writable objects, by object and instance; an unlisted object holds its catalogue default (16 R447). -/
  cfg : List (Nat × Bytes) := []
  /-- counters, by object and instance; unlisted is 0 (16 R447). -/
  cnt : List (Nat × Nat) := []
  /-- the RWS values in the Cistern system region (16 R449). -/
  persist : List (Nat × Bytes) := []
  /-- the persisted record: 0 whole, 1 none, 2 fails its check (17 R483). -/
  record : Nat := 1
  deriving DecidableEq, Repr

/-- A Vilur request waiting for the supervisor (Table 16-3). -/
structure VReq where
  /-- port of arrival, 0 to 3 H0 to H3, 4 M (16 R456). -/
  port : Nat := 0
  /-- source address in the form of Table 16-6 (16 R456). -/
  addr : Nat := 0
  /-- source UDP port (16 R456). -/
  udp : Nat := 0
  /-- OPCODE (16 R455). -/
  opcode : Nat := 0
  /-- SNAPSHOT (16 R461). -/
  snap : Bool := false
  /-- SEQ (16 R458). -/
  seq : Nat := 0
  /-- INDEX (16 R447). -/
  index : Nat := 0
  /-- SUBINDEX (16 R447). -/
  sub : Nat := 0
  /-- TARGET_SFC (16 R464). -/
  target : Nat := 0
  /-- ARG (16 R455). -/
  arg : Nat := 0
  /-- LENGTH (16 R455). -/
  len : Nat := 0
  /-- data bytes (16 R455). -/
  data : Bytes := []
  deriving DecidableEq, Repr

/-- An event subscription (R469). -/
structure Sub where
  /-- its number (16 R469). -/
  num : Nat := 0
  /-- SOURCE, 0xFFFF any (16 R470). -/
  source : Nat := 0
  /-- CODE_MIN (16 R470). -/
  codeMin : Nat := 0
  /-- CODE_MAX (16 R470). -/
  codeMax : Nat := 0
  /-- next notify sequence (16 R471). -/
  seq : Nat := 0
  /-- records lost since the previous NOTIFY (16 R471). -/
  lost : Nat := 0
  /-- matching records not yet sent (16 R471). -/
  queue : List EventRec := []
  deriving DecidableEq, Repr

/-- A Vilur client (R456). -/
structure Client where
  /-- port of arrival (16 R456). -/
  port : Nat := 0
  /-- source address (16 R456). -/
  addr : Nat := 0
  /-- source UDP port (16 R456). -/
  udp : Nat := 0
  /-- time of its last request (16 R456). -/
  lastNs : Nat := 0
  /-- SFC of its last request (16 R478). -/
  lastSfc : Nat := 0
  /-- its value of every selector; unlisted is 0 (16 R451). -/
  selectors : List (Nat × Nat) := []
  /-- its staging buffer; bytes past the end of the list are 0 (16 R459). -/
  staging : Bytes := []
  /-- its read snapshot (16 R461). -/
  snapshot : Bytes := []
  /-- the replies to its last 16 SEQ values, newest first (16 R458). -/
  kept : List (Nat × Bytes) := []
  /-- its valid nonce, and when it was given (16 R466). -/
  nonce : Option (Nat × Nat) := none
  /-- when its Maintain unlock ends (16 R468). -/
  unlockEnd : Option Nat := none
  /-- its subscriptions (16 R469). -/
  subs : List Sub := []
  /-- its latest attestation report (17 R494). -/
  attest : Bytes := []
  /-- its EVENT_RECORDS (18 R515). -/
  events : Bytes := []
  /-- times of the NOTIFY datagrams sent to it within the last second (16 R471). -/
  sent : List Nat := []
  deriving DecidableEq, Repr

/-- The Vilur protocol and the Pattern Book (chapter 16). -/
structure Vilur where
  /-- requests waiting, in order of arrival (16 R457). -/
  queue : List VReq := []
  /-- the clients (16 R456). -/
  clients : List Client := []
  /-- GENERATION of the Pattern Book (16 R474). -/
  bookGen : Nat := 2
  /-- GENERATION_SFC (16 R473). -/
  bookSfc : Nat := 0
  /-- a content changed: rewritten at the next tick (16 R474). -/
  bookDirty : Bool := false
  deriving DecidableEq, Repr

/-- A fault injector's running state (R386, R418). -/
structure Injector where
  /-- generator value (13 R386). -/
  gen : Nat := 1
  /-- eligible frames or cells seen since it was armed (13 R386). -/
  count : Nat := 0
  /-- acting (18 R516). -/
  live : Bool := false
  /-- the frame or cell it holds (ACTION 4), and how many have passed it (13 R386). -/
  held : Option (Bytes × Nat) := none
  /-- the received packet it holds: session, packet, how many have passed it (13 R386). -/
  heldRx : Option (Nat × RocePacket × Nat) := none
  /-- the message it holds on transmit, and how many have passed it (13 R386). -/
  heldTx : Option (Out × Nat) := none
  deriving DecidableEq, Repr

/-- One RoCEv2 session (R99, Table 13-8). -/
structure Session where
  /-- 1 QUERY, 2 STORE, 3 CONTROL (13 R376). -/
  typ : Nat := 0
  /-- host port it is bound to (13 R377). -/
  port : Nat := 0
  /-- 0 CLOSED, 1 CONNECTING, 2 READY, 3 ERROR (13 R379). -/
  state : Nat := 0
  /-- its local address is the port's IPv6 address (13 R370). -/
  v6 : Bool := false
  /-- the host's queue pair (13 R377). -/
  remoteQpn : Nat := 0
  /-- RESULT_ADDR (13 R376). -/
  resultAddr : Nat := 0
  /-- RESULT_RKEY (13 R376). -/
  rkey : Nat := 0
  /-- SLOTS (13 R376). -/
  slots : Nat := 0
  /-- SLOT_BYTES (13 R376). -/
  slotBytes : Nat := 0
  /-- transmit rate, Mb/s (13 R375). -/
  rate : Nat := 200000
  /-- time of the last CNP sent for it (13 R375). -/
  cnpSent : Option Nat := none
  /-- time of the last CNP received or rise of the rate (13 R375). -/
  cnpSeen : Nat := 0
  /-- posted completion bytes not yet acknowledged (13 R379). -/
  txQueued : Nat := 0
  /-- operations sent and not yet acknowledged: last PSN, bytes of posted completion, message (13 R373). -/
  txList : List (Nat × Nat × Out) := []
  /-- next PSN expected from the host (13 R371). -/
  rxPsn : Nat := 0
  /-- next PSN it sends (13 R371). -/
  txPsn : Nat := 0
  /-- received packets not yet acknowledged (13 R372). -/
  unacked : Nat := 0
  /-- a packet not yet acknowledged carried AckReq (13 R372). -/
  ackReq : Bool := false
  /-- a sequence NAK stands for the expected PSN (13 R371). -/
  nakSent : Bool := false
  /-- packets of the SEND now arriving (13 R374). -/
  partMsg : Bytes := []
  /-- whole messages received and not yet parsed, with their arrival (13 R374). -/
  unparsed : List (Nat × Bytes) := []
  /-- the RDMA WRITE now arriving: next address, bytes left, R_KEY (13 R382). -/
  writeAt : Option (Nat × Nat × Nat) := none
  /-- retries made of the oldest operation (13 R373). -/
  retries : Nat := 0
  /-- RNR retry count the host gave; 7 is unlimited (13 R373). -/
  rnrCount : Nat := 7
  /-- RNR retries made of the oldest operation (13 R373). -/
  rnrTries : Nat := 0
  /-- overridden default fields, by OVERRIDE bit (0 K to 7 TOWER) (04 R100). -/
  overrides : List (Nat × Nat) := []
  /-- overriding default filter; the empty list is no filter (04 R103). -/
  filter : Option Bytes := none
  /-- OUTSTANDING (04 R107). -/
  outstanding : Nat := 0
  /-- a DREQ or SESSION_RESET waits for its in-flight work (13 R379). -/
  closing : Bool := false
  deriving DecidableEq, Repr

/-- One host port, or the management port (Table 13-6). -/
structure HostPort where
  /-- LINK_UP (13 R370). -/
  linkUp : Bool := false
  /-- TRAINING (13 R366). -/
  training : Bool := false
  /-- LINK_CHANGES (13 R370). -/
  changes : Nat := 0
  /-- when the link went down (13 R370). -/
  downSince : Option Nat := none
  /-- buffered bytes by priority (13 R368). -/
  prioBytes : List (Nat × Nat) := []
  /-- priorities the partner paused, and until when (13 R368). -/
  paused : List (Nat × Nat) := []
  /-- priorities for which XOFF was sent (13 R368). -/
  xoff : List Nat := []
  /-- resolved neighbours: address and MAC (13 R369). -/
  neigh : List (Nat × Nat) := []
  /-- FEC_CORRECTED (13 Table 13-6). -/
  fecOk : Nat := 0
  /-- FEC_UNCORRECTED (13 Table 13-6). -/
  fecBad : Nat := 0
  deriving DecidableEq, Repr

/-- A memory window (Table 13-4). -/
structure Window where
  /-- LENGTH (13 R381). -/
  len : Nat := 0
  /-- BASE (13 R381). -/
  base : Nat := 0
  /-- R_KEY (13 R381). -/
  rkey : Nat := 0
  /-- SESSION, 0xFFFF_FFFF any (13 R381). -/
  session : Nat := 0
  /-- PORTS (13 R381). -/
  ports : Nat := 0
  /-- WRITE (13 R381). -/
  canWrite : Bool := false
  /-- READ (13 R381). -/
  canRead : Bool := false
  deriving DecidableEq, Repr

/-- Host ports, sessions and windows (chapter 13). -/
structure Ports where
  /-- H0 to H3 and M (4); an unlisted port is at its reset (13 R366). -/
  host : List (Nat × HostPort) := []
  /-- the sessions in any state but CLOSED (13 R377). -/
  sessions : List (Nat × Session) := []
  /-- the windows that are valid; window 0 is fixed (13 R381). -/
  windows : List (Nat × Window) := [(0, { len := 16777216, base := 0x050000000000, rkey := 1, session := 0xFFFFFFFF, ports := 15, canWrite := false, canRead := true })]
  /-- running state of the injectors: 4h + i on host ports, 64 + 4p + i on cascade ports (18 R516). -/
  inject : List (Nat × Injector) := []
  deriving DecidableEq, Repr

/-- A QUERY message waiting for the tick that follows its arrival (R35, R104). -/
structure Arrival where
  /-- arrival, module time of its last packet (02 R35). -/
  time : Nat := 0
  /-- host port (04 R106). -/
  port : Nat := 0
  /-- session number (04 R106). -/
  session : Nat := 0
  /-- message order within the session (04 R106). -/
  order : Nat := 0
  /-- the whole message (04 R102). -/
  msg : Bytes := []
  /-- the session's overrides in force at its arrival (04 R103). -/
  overrides : List (Nat × Nat) := []
  /-- the session's overriding filter at its arrival (04 R103). -/
  filter : Option Bytes := none
  /-- shard map of its host port's group at its arrival (14 R404). -/
  group : Option Nat := none
  /-- query tag of its first query, once forwarded (14 R407). -/
  tag : Option Nat := none
  /-- how many of its queries arrived before OUTSTANDING reached SESSION_QUERY_LIMIT (04 R107). -/
  fits : Nat := 0
  deriving DecidableEq, Repr

/-- The effective parameters of a query (R101). -/
structure Params where
  /-- k (04 R101). -/
  k : Nat := 0
  /-- probe count (04 R101). -/
  p : Nat := 0
  /-- re-rank depth C (04 R101). -/
  c : Nat := 0
  /-- widened probe count, 0 for off (04 R101). -/
  pw : Nat := 0
  /-- SEARCH_WIDTH (04 R101). -/
  width : Nat := 0
  /-- 1 EXACT, 2 CHUNK, 3 TREE (04 R101). -/
  arith : Nat := 0
  /-- 1 any, 2 IP, 3 L2, 4 COS (04 R101). -/
  metric : Nat := 0
  /-- tower number, 0xFF none (04 R101). -/
  tower : Nat := 0
  /-- effective filter, empty for none (04 R101). -/
  filter : Bytes := []
  deriving DecidableEq, Repr

/-- A query between its admission batch and its completion (chapters 2, 4, 5, 14). -/
structure Query where
  /-- number in admission order over all batches (04 R106). -/
  id : Nat := 0
  /-- its session (entry queries) (04 R99). -/
  session : Nat := 0
  /-- its result slot (04 R105). -/
  slot : Nat := 0
  /-- its session's host port (04 R106). -/
  port : Nat := 0
  /-- M_q (04 R112). -/
  share : Nat := 0
  /-- 0 local, 1 entry module of a group, 2 receiver of a multicast (14 R404). -/
  role : Nat := 0
  /-- entry module (role 2) (14 R407). -/
  entryDev : Nat := 0
  /-- QUERY_TAG (05 R156). -/
  tag : Nat := 0
  /-- shard map number (role 1) (14 R404). -/
  group : Nat := 0
  /-- effective parameters (04 R101). -/
  params : Params := {}
  /-- INPUT_KIND (04 R104). -/
  inputKind : Nat := 0
  /-- the query's input as it came (04 R102). -/
  input : Bytes := []
  /-- admission frame (the original one) (02 R36). -/
  admSfc : Nat := 0
  /-- frame of its latest (re-)admission (02 R48). -/
  start : Nat := 0
  /-- the depth of its stage map (02 R45). -/
  depth : Nat := 3
  /-- frame in which its entry module merges it (02 R37). -/
  mergeSfc : Nat := 0
  /-- bound Lot number (03 R77). -/
  lot : Nat := 0
  /-- attribute frame (03 R78). -/
  attrFrame : Nat := 0
  /-- mass function at admission (05 R157). -/
  massF : Nat := 0
  /-- β at admission (05 R157). -/
  beta : Nat := 0x3F800000
  /-- the tower descriptor it was admitted with (04 R122). -/
  desc : Bytes := []
  /-- FP32 values its tower wrote (04 R122). -/
  towerOut : Option (List Nat) := none
  /-- where its tower writes its values (08 R257). -/
  towerAt : Nat := 0
  /-- its values arrive as TOWER_OUT (14 R412). -/
  staged : Bool := false
  /-- home tile (04 R112). -/
  home : Nat := 0
  /-- 0 past gate 1, 1 probed and past gate 2, 2 scanned and merging, 3 reranked, 4 affected by an overrun (02 R36). -/
  stage : Nat := 0
  /-- prepared query (04 R124). -/
  q : List Nat := []
  /-- Q2 (05 R147). -/
  q2 : Nat := 0
  /-- query sketch (04 R125). -/
  sketch : Nat := 0
  /-- visit set in pool order (04 R126). -/
  visit : List Nat := []
  /-- tiles whose contribution has not arrived (05 R143). -/
  due : List Nat := []
  /-- base running set, ascending (05 R144). -/
  base : List Nat := []
  /-- widening running set, ascending (05 R144). -/
  wide : List Nat := []
  /-- re-admitted after an overrun (02 R48). -/
  deferred : Bool := false
  deriving DecidableEq, Repr

/-- A shard answer held for the merge (Tables 05-6, 05-7). -/
structure Answer where
  /-- QUERY_TAG (05 R156). -/
  entryTag : Nat := 0
  /-- admission frame of the query it answers (14 R411). -/
  sfc : Nat := 0
  /-- answering module (05 R156). -/
  device : Nat := 0
  /-- SHARD_INDEX (05 R156). -/
  shard : Nat := 0
  /-- the header (05 R156). -/
  header : Bytes := []
  /-- the candidate records (05 R156). -/
  recs : Bytes := []
  deriving DecidableEq, Repr

/-- What the Headgate has committed against one frame (R110). -/
structure Ledger where
  /-- quarter clocks by tile (04 Table 04-4 has quarter clocks) (04 R110). -/
  clocks : List (Nat × Nat) := []
  /-- LPDDR5X bytes (04 R110). -/
  lpddr : Nat := 0
  /-- bytes of it that streaming committed (04 R113). -/
  stream : Nat := 0
  /-- the Lot that streaming is charged to; 0 for none (06 R171). -/
  streamLot : Nat := 0
  /-- port sixteenths by port (04 R110). -/
  ports : List (Nat × Nat) := []
  /-- a cost has been committed, the streaming charge included (04 R113). -/
  opened : Bool := false
  /-- v of each (Lot, list, attribute frame), keyed by (Lot*2^32 + list)*2^64 + attribute frame (04 R113). -/
  visits : List (Nat × Nat) := []
  /-- Q_T by tower*16 + (frame - batch) (04 R122). -/
  towerQ : List (Nat × Nat) := []
  deriving DecidableEq, Repr

/-- Admission and queries in flight (chapters 4 and 5). -/
structure Search where
  /-- QUERY messages of the batch now gathering (02 R35). -/
  arrivals : List Arrival := []
  /-- QUERY messages of the batch of the latest tick, until gate 1 has run (02 R35). -/
  batch : List Arrival := []
  /-- gate 1 of the latest tick has run (04 R116). -/
  gate1 : Bool := true
  /-- queries refused BUSY in the latest batch: session and query id (04 R108). -/
  busy : List (Nat × Nat) := []
  /-- queries of the latest batch that passed gate 1 (04 R112). -/
  passed : Nat := 0
  /-- SET_DEFAULTS completions to post: session, slot, status, arrival tick (04 R103). -/
  defaultsDue : List (Nat × Nat × Nat × Nat) := []
  /-- queries in flight, oldest admission first (04 R107). -/
  live : List Query := []
  /-- next query id (04 R106). -/
  nextId : Nat := 0
  /-- the ledger, by frame (04 R110). -/
  ledger : List (Nat × Ledger) := []
  /-- gate 2 of the current batch has run (04 R117). -/
  gate2 : Bool := false
  /-- shard answers held (05 R156). -/
  answers : List Answer := []
  /-- next query tag of this entry module (14 R406). -/
  batchTag : Nat := 0
  /-- LAST_BATCH (04 Table 04-7). -/
  lastBatch : Nat := 0
  /-- LAST_ADMITTED (04 Table 04-7). -/
  lastAdmitted : Nat := 0
  deriving DecidableEq, Repr

/-- An image of the Lot library with its attribute log (R165, R176). -/
structure LotImage where
  /-- the image (06 R165). -/
  bytes : Bytes := []
  /-- BUILT_HERE (06 Table 06-1). -/
  builtHere : Bool := false
  /-- attribute log, ordinal and word, oldest first (06 R176). -/
  log : List (Nat × Nat) := []
  deriving DecidableEq, Repr

/-- The Headgate's figures of one list (R114). -/
structure Figure where
  /-- SCAN in force; 0 until it is raised from its source (04 R114). -/
  scan : Nat := 0
  /-- STAGE in force (04 R114). -/
  stage : Nat := 0
  /-- largest pass measured (04 R114). -/
  mScan : Nat := 0
  /-- largest staging measured (04 R114). -/
  mStage : Nat := 0
  /-- the measured figure is in force (04 R114). -/
  folded : Bool := false
  /-- the figure rises at the next tick (04 R115). -/
  raise : Bool := false
  deriving DecidableEq, Repr

/-- A Lot in LPDDR5X and slice SRAM (chapter 3). -/
structure LotData where
  /-- Lot number (03 R62). -/
  number : Nat := 0
  /-- the image copied at load (06 R167). -/
  bytes : Bytes := []
  /-- attribute words that differ from the image, by ordinal (03 R76). -/
  words : List (Nat × Nat) := []
  /-- owner tile of each list (03 R94). -/
  owner : List Nat := []
  /-- resident flag of each list (03 R94). -/
  resident : List Bool := []
  /-- the graph is slice-resident (03 R93). -/
  graphResident : Bool := false
  /-- cap[t] the placement was computed with (03 R93). -/
  caps : List Nat := []
  /-- figures of the lists that have a measurement or were raised (04 R114). -/
  figures : List (Nat × Figure) := []
  /-- frame of the latest cost-interval close, or of activation (04 R114). -/
  interval : Nat := 0
  /-- visits of each list since the Lot became active (06 R184). -/
  visits : List (Nat × Nat) := []
  /-- frame at which it was superseded (03 R79). -/
  since : Nat := 0
  deriving DecidableEq, Repr

/-- An attribute write that waits for its tick (R76). -/
structure PendWord where
  /-- Lot number (03 R76). -/
  lot : Nat := 0
  /-- ordinal (03 R76). -/
  ordinal : Nat := 0
  /-- new word (03 R76). -/
  word : Nat := 0
  /-- the frame of its own effect point (03 R76). -/
  target : Nat := 0
  deriving DecidableEq, Repr

/-- An entry of the attribute history (R78). -/
structure OldWord where
  /-- tick that changed the word (03 R78). -/
  tick : Nat := 0
  /-- Lot number (03 R78). -/
  lot : Nat := 0
  /-- ordinal (03 R78). -/
  ordinal : Nat := 0
  /-- the word before that tick (03 R78). -/
  old : Nat := 0
  deriving DecidableEq, Repr

/-- The Lot library, staged, active and retained Lots, the builder (chapters 3 and 6). -/
structure Lots where
  /-- library images by Lot number (durable) (06 R165). -/
  library : List (Nat × LotImage) := []
  /-- the active Lot (03 R77). -/
  active : Option LotData := none
  /-- ACTIVE_SINCE_SFC (03 Table 03-14). -/
  activeSince : Nat := 0
  /-- the staged Lot (06 R167). -/
  staged : Option LotData := none
  /-- superseded Lots, oldest first, the held Lot among them (03 R79). -/
  retained : List LotData := []
  /-- number of the held Lot, 0 none (06 R173). -/
  held : Nat := 0
  /-- COMMITTED_LOT (durable) (06 R171). -/
  committed : Nat := 0
  /-- PREVIOUS_LOT (durable) (06 R171). -/
  previous : Nat := 0
  /-- LOAD_STATE (06 R167). -/
  loadState : Nat := 0
  /-- Lot being loaded, 0 none (06 R167). -/
  loading : Nat := 0
  /-- LOAD_PROGRESS (06 Table 06-8). -/
  loadProgress : Nat := 0
  /-- what asked for the load: 0 a write, 1 AUTO_SWITCH, 2 start-up COMMITTED, 3 start-up PREVIOUS (17 R485). -/
  loadFor : Nat := 0
  /-- VERIFY_LAST_CODE (03 R90). -/
  verifyLast : Nat := 0
  /-- IMPORT_STATE (06 R166). -/
  importState : Nat := 0
  /-- IMPORT_ERROR (06 R166). -/
  importError : Nat := 0
  /-- argument of the running import (06 R166). -/
  importArg : Bytes := []
  /-- attribute writes waiting for their tick, oldest first (03 R76). -/
  words : List PendWord := []
  /-- attribute history, oldest first (03 R78). -/
  history : List OldWord := []
  /-- BUILD_STATE (06 Table 06-9). -/
  buildState : Nat := 0
  /-- BUILD_ERROR (06 Table 06-9). -/
  buildError : Nat := 0
  /-- BUILD_PHASE (06 Table 06-9). -/
  buildPhase : Nat := 0
  /-- BUILD_ITEMS_DONE (06 Table 06-9). -/
  buildItems : Nat := 0
  /-- BUILD_START_SFC (06 Table 06-9). -/
  buildStart : Nat := 0
  /-- frame in which the last build ended (06 R177). -/
  buildEnd : Option Nat := none
  /-- tick at which a cancelled build stops (06 R185). -/
  buildCancel : Option Nat := none
  /-- descriptor of the running build, LOT_NUMBER filled in (06 R178). -/
  buildDesc : Bytes := []
  /-- the parent's changed words at the start tick (06 R184). -/
  buildWords : List (Nat × Nat) := []
  /-- BUILD_MEMORY_BYTES of the running build (06 R178). -/
  buildMemory : Nat := 0
  /-- library bytes the running build holds: worst-case image and scratch (06 R178). -/
  buildHold : Nat := 0
  /-- BUILD_LAST_ALPHA (06 R182). -/
  buildAlpha : Nat := 0
  deriving DecidableEq, Repr

/-- A user stream context of one tile (R226, contexts 2 to 7). -/
structure Ctx where
  /-- STREAM_ID of the set it runs (08 R227). -/
  setId : Nat := 0
  /-- 0 idle (no run yet), 1 running, 2 parked, 3 halted, 4 stopped (08 R226). -/
  state : Nat := 0
  /-- index of its next command (08 R226). -/
  pc : Nat := 0
  /-- base registers B1 to B15; unlisted is 0 (08 R229). -/
  regs : List (Nat × Nat) := []
  /-- clocks of grant left in the frame (08 R253). -/
  grant : Nat := 0
  /-- remote operations of the command in progress that have not completed (14 R415). -/
  busy : Nat := 0
  /-- clocks beyond the grant (08 R253). -/
  debt : Nat := 0
  /-- first byte of its slice region (08 R249). -/
  region : Nat := 0
  /-- SLICE_BYTES (08 R249). -/
  bytes : Nat := 0
  /-- consecutive ticks held by a dependence marker (08 R255). -/
  held : Nat := 0
  /-- its marker has been reached once for the next command (08 R240). -/
  depMet : Bool := false
  /-- frame in which a WAIT with UNTIL_TICK began (08 R238). -/
  waitTick : Option Nat := none
  /-- base registers that a re-arm whose tick has come gives it at its next restart (08 R256). -/
  rearm : Option (List (Nat × Nat)) := none
  deriving DecidableEq, Repr

/-- A live Weir run (R263). -/
structure Run where
  /-- first list (09 R263). -/
  wlist : Nat := 0
  /-- lists (09 R263). -/
  wcount : Nat := 0
  /-- run header of Table 09-2, as written (09 R265). -/
  header : Nat := 0
  /-- KEEP (09 R263). -/
  keep : Nat := 0
  /-- kept entries in order (09 R263). -/
  entries : List Nat := []
  /-- candidates counted (09 R268). -/
  offered : Nat := 0
  /-- t (09 R269). -/
  ties : Nat := 0
  /-- duplicates dropped (09 R268). -/
  dups : Nat := 0
  /-- exact Vat sum of the finite f values (09 R270). -/
  total : Nat := 0
  /-- counted candidates with f NaN (09 R270). -/
  nans : Nat := 0
  /-- with f = +infinity (09 R270). -/
  posInf : Nat := 0
  /-- with f = -infinity (09 R270). -/
  negInf : Nat := 0
  deriving DecidableEq, Repr

/-- A row held in a hot area (R295). -/
structure HotRow where
  /-- table (10 R295). -/
  table : Nat := 0
  /-- version (10 R295). -/
  version : Nat := 0
  /-- row number (10 R295). -/
  row : Nat := 0
  /-- the row, header included (10 R295). -/
  data : Bytes := []
  /-- a replica of another tile's row (10 R295). -/
  replica : Bool := false
  deriving DecidableEq, Repr

/-- One logical tile (Table 01-2). -/
structure Tile where
  /-- slice SRAM; unlisted bytes read 0 (12 R346). -/
  slice : List Host.Cell := []
  /-- the Vat file; unlisted bytes read 0 (07 R205). -/
  vat : List Host.Cell := []
  /-- the state file; unlisted states are FINITE (0) (07 R207). -/
  vstate : List (Nat × Nat) := []
  /-- slot descriptors; unlisted are 0 (07 R208). -/
  slots : List (Nat × Nat) := []
  /-- channel scales at set*4096 + c; unlisted are 1.0 (07 R223). -/
  scales : List (Nat × Nat) := []
  /-- α of each set; unlisted are 1.0 (07 R223). -/
  alphas : List (Nat × Nat) := []
  /-- event counters; unlisted are 0 (08 R239). -/
  events : List (Nat × Nat) := []
  /-- user contexts that a set holds (08 R226). -/
  ctxs : List (Nat × Ctx) := []
  /-- live Weir runs (09 R263). -/
  runs : List Run := []
  /-- count-min sketch, row*4096 + h; unlisted are 0 (10 R296). -/
  counts : List (Nat × Nat) := []
  /-- candidate list: table, row, listed estimate (10 R296). -/
  cands : List (Nat × Nat × Nat) := []
  /-- hot area in force (10 R295). -/
  hot : List HotRow := []
  /-- hot area on standby (10 R295). -/
  standby : List HotRow := []
  deriving DecidableEq, Repr

/-- A stream set, armed or pending (R227, R248). -/
structure StreamSet where
  /-- arm descriptor header, Table 08-12 (08 R248). -/
  header : Nat := 0
  /-- its Vat slot descriptors (08 R248). -/
  slotDescs : List Nat := []
  /-- B0 to B15 as armed (08 R248). -/
  bases : List Nat := []
  /-- STATE of Table 08-15 (08 R260). -/
  state : Nat := 0
  /-- first frame (08 R260). -/
  armSfc : Nat := 0
  /-- acknowledgement order (08 R249). -/
  order : Nat := 0
  /-- tick at which it is disarmed (08 R258). -/
  disarm : Option Nat := none
  /-- pending re-arms: target frame and B1 to B15 (08 R257). -/
  rearms : List (Nat × List Nat) := []
  /-- FAULT_SFC (08 R260). -/
  faultSfc : Nat := 0
  /-- FAULT_CMD (08 R260). -/
  faultCmd : Nat := 0
  /-- FAULT_TILE (08 R260). -/
  faultTile : Nat := 0
  /-- FAULT_CODE (08 R260). -/
  faultCode : Nat := 0
  /-- TOWER set: index of its tower frame (08 R257). -/
  towerFrame : Nat := 0
  /-- LPDDR5X bytes of the set's grant left in the frame (08 R253). -/
  bytesLeft : Nat := 0
  deriving DecidableEq, Repr

/-- Stream sets of the module (chapter 8). -/
structure Streams where
  /-- stream sets by STREAM_ID (08 R227). -/
  sets : List (Nat × StreamSet) := []
  /-- LAST_FAULT; empty is all zero (08 R260). -/
  lastFault : Bytes := []
  /-- ARM_LAST_REFUSAL (08 R249). -/
  armRefusal : Nat := 0
  deriving DecidableEq, Repr

/-- An embedding table (R280). -/
structure Table where
  /-- descriptor of the active version (10 R280). -/
  active : Option Nat := none
  /-- descriptor of the staged version (10 R280). -/
  staged : Option Nat := none
  /-- descriptor TABLE_ACTIVE shows (10 R286). -/
  shown : Option Nat := none
  /-- superseded descriptor, and the tick that releases its region (10 R286). -/
  old : Option (Nat × Nat) := none
  /-- TABLE_LOAD copies that filled the staged version: bytes, destination, Store offset (17 R487). -/
  loads : List (Nat × Nat × Nat) := []
  /-- the staged version's region was written otherwise, or a load met a media error (17 R487). -/
  touched : Bool := false
  /-- descriptor of the active version in the system region (durable) (17 R487). -/
  restore : Option Nat := none
  /-- that restore record is valid (durable) (17 R487). -/
  restoreOk : Bool := false
  /-- the record's TABLE_LOAD copies: bytes, destination, Store offset (durable) (17 R487). -/
  restoreLoads : List (Nat × Nat × Nat) := []
  deriving DecidableEq, Repr

/-- A look-up request between planning and completion (R289). -/
structure Lookup where
  /-- requesting tile (10 R289). -/
  tile : Nat := 0
  /-- its context (10 R289). -/
  ctx : Nat := 0
  /-- byte of the request header in the tile's slice (10 R288). -/
  addr : Nat := 0
  /-- F + 1, the frame that reads the mailbox (10 R289). -/
  frame : Nat := 0
  /-- table (10 R288). -/
  table : Nat := 0
  /-- descriptor active at the tick (10 R289). -/
  desc : Nat := 0
  /-- VALID_OCC (10 R288). -/
  valid : Nat := 0
  /-- INVALID_OCC (10 R288). -/
  invalid : Nat := 0
  /-- partials awaited: device, tile, bag (10 R291). -/
  want : List (Nat × Nat × Nat) := []
  /-- partials arrived: device, tile, bag, values and states in Vat format (10 R291). -/
  parts : List (Nat × Nat × Nat × List (Nat × Nat)) := []
  deriving DecidableEq, Repr

/-- Occurrences routed to a pooling tile of this module (R290, R298). -/
structure Route where
  /-- requesting module (10 R290). -/
  device : Nat := 0
  /-- requesting tile (10 R290). -/
  tile : Nat := 0
  /-- the request on that tile: context * 2^23 + header byte (10 R290). -/
  request : Nat := 0
  /-- owner module of the rows (10 R283). -/
  ownDev : Nat := 0
  /-- owner tile of the rows (10 R283). -/
  owner : Nat := 0
  /-- tile of this module that forms the partials (10 R298). -/
  pool : Nat := 0
  /-- table (10 R290). -/
  table : Nat := 0
  /-- occurrences: bag, index, weight bits (10 R290). -/
  occ : List (Nat × Nat × Nat) := []
  /-- its list has arrived whole (10 R290). -/
  whole : Bool := true
  deriving DecidableEq, Repr

/-- A replica sent to a holding tile of this module in frame R - 1 (R297, R298). -/
structure Incoming where
  /-- holding tile (10 R298). -/
  tile : Nat := 0
  /-- estimate at its owner (10 R297). -/
  estimate : Nat := 0
  /-- owner device (10 R297). -/
  device : Nat := 0
  /-- owner tile (10 R297). -/
  owner : Nat := 0
  /-- the row (10 R297). -/
  row : HotRow := {}
  deriving DecidableEq, Repr

/-- Embedding tables and look-ups (chapter 10). -/
structure Tables where
  /-- the tables (10 R280). -/
  tables : List (Nat × Table) := []
  /-- requests in progress (10 R289). -/
  lookups : List Lookup := []
  /-- occurrences waiting at the owner tiles of this module (10 R290). -/
  routes : List Route := []
  /-- clocks of the look-up grant committed in the frame, by tile (10 R293). -/
  spentClocks : List (Nat × Nat) := []
  /-- LPDDR5X bytes of it committed (10 R293). -/
  spentBytes : Nat := 0
  /-- replicas received for the next refresh tick (10 R297). -/
  incoming : List Incoming := []
  /-- rows (table, row) whose replicas go at the next tick, as their owners said (10 R287). -/
  stale : List (Nat × Nat) := []
  deriving DecidableEq, Repr

/-- The verdict as it forms for a step (R322, R323). -/
structure StepToken where
  /-- contribution bitmap of phase 1 (11 R322). -/
  bits1 : Nat := 0
  /-- contribution bitmap of the final phase (11 R322). -/
  bits2 : Nat := 0
  /-- saturating sum of saturated counts (11 R322). -/
  saturated : Nat := 0
  /-- saturating sum of non-finite counts (11 R322). -/
  nonfinite : Nat := 0
  /-- an owner area overflowed (11 R323). -/
  overflow : Bool := false
  /-- ring positions skipped because they left cascade frames (11 R324). -/
  left : Nat := 0
  deriving DecidableEq, Repr

/-- A verdict a member holds (R323, R325). -/
structure Verdict where
  /-- step number (11 R323). -/
  step : Nat := 0
  /-- S of that step (11 R323). -/
  start : Nat := 0
  /-- 0 APPLIED, 1 FAILED, 2 SKIPPED (11 Table 11-4). -/
  outcome : Nat := 0
  /-- REASON (11 Table 11-4). -/
  reason : Nat := 0
  /-- FIRST_MISSING (11 Table 11-4). -/
  firstMissing : Nat := 511
  /-- BACKUPS_TAKEN (11 Table 11-4). -/
  backups : Nat := 0
  /-- lanes taken in phase 1, one bit per lane (11 R325). -/
  lanes1 : Nat := 0
  /-- lanes taken in the final phase (11 R325). -/
  lanes2 : Nat := 0
  /-- SATURATED (11 Table 11-4). -/
  saturated : Nat := 0
  /-- NONFINITE (11 Table 11-4). -/
  nonfinite : Nat := 0
  deriving DecidableEq, Repr

/-- One Table 11-6 record. -/
structure Digest where
  /-- STEP (11 R336). -/
  step : Nat := 0
  /-- SENT_BYTES (11 R336). -/
  sentBytes : Nat := 0
  /-- SENT_CRC (11 R336). -/
  sentCrc : Nat := 0
  /-- RECV_BYTES (11 R336). -/
  recvBytes : Nat := 0
  /-- RECV_CRC (11 R336). -/
  recvCrc : Nat := 0
  deriving DecidableEq, Repr

/-- A combine-buffer line of an LSA (R320). -/
structure Line where
  /-- cascade port whose LSA holds it (11 R320). -/
  port : Nat := 0
  /-- job (11 R320). -/
  job : Nat := 0
  /-- destination device (11 R320). -/
  device : Nat := 0
  /-- destination local address of the 256-byte line, or the key of a keyed operand (11 R320). -/
  addr : Nat := 0
  /-- a keyed operand (11 R320). -/
  keyed : Bool := false
  /-- keyed: tensor index (11 R320). -/
  tensor : Nat := 0
  /-- lane (11 R320). -/
  lane : Nat := 0
  /-- keyed: index of its first element (11 R320). -/
  first : Nat := 0
  /-- GFX64 values by element (11 R320). -/
  values : List (Nat × Nat) := []
  deriving DecidableEq, Repr

/-- A reduction job (R306). -/
structure Job where
  /-- configuration; empty when none (11 R306). -/
  config : Bytes := []
  /-- 0 idle, 1 configured, 2 running (11 Table 11-7). -/
  state : Nat := 0
  /-- current step number (11 R312). -/
  step : Nat := 0
  /-- S of the current step (11 R313). -/
  start : Nat := 0
  /-- target frame of an accepted JOB_START (11 R312). -/
  pending : Option Nat := none
  /-- ends at the end of the current update frame (11 R312). -/
  stopping : Bool := false
  /-- this member's contribution to phase 1, once its start tick has passed (11 R315). -/
  complete1 : Option Bool := none
  /-- its contribution to the final phase (11 R315). -/
  complete2 : Option Bool := none
  /-- a late write made the contribution incomplete (11 R315). -/
  late : Bool := false
  /-- a hold area dropped a row in the step (11 R319). -/
  holdOverflow : Bool := false
  /-- an owner area dropped a row in the step (11 R319). -/
  ownerOverflow : Bool := false
  /-- saturated elements converted in the step (11 R304). -/
  satCount : Nat := 0
  /-- non-finite elements converted in the step (11 R304). -/
  nonCount : Nat := 0
  /-- the token at this member: phase * 4 + lap, and its contents (11 R322). -/
  token : Option (Nat × StepToken) := none
  /-- contents at the end of phase 1 (11 R323). -/
  phase1 : Option StepToken := none
  /-- verdicts of the last 4 steps, newest first (11 R323). -/
  verdicts : List Verdict := []
  /-- it has acted on the verdict of the current step (11 R323). -/
  acted : Bool := false
  /-- step whose verdict was lacking at its tick D (11 R323). -/
  lateStep : Option Nat := none
  /-- which copy of each double buffer is the committed one (11 R326). -/
  bufCopy : Nat := 0
  /-- last step record; empty is all zero (11 R329). -/
  record : Bytes := []
  /-- digests of the current step (11 R336). -/
  digestNow : Digest := {}
  /-- digests of the last decided step (11 R336). -/
  digestLast : Digest := {}
  /-- orthonormal P of each LOWRANK tensor of the step, BF16 values by tensor (11 R331). -/
  factP : List (Nat × List Nat) := []
  /-- af of each LOWRANK tensor of the step, FP32 values by tensor (11 R330). -/
  af : List (Nat × List Nat) := []
  /-- table rows to rewrite at tick D + 1: table, row, new bytes (11 R328). -/
  rows : List (Nat × Nat × Bytes) := []
  deriving DecidableEq, Repr

/-- Reduction jobs (chapter 11). -/
structure Jobs where
  /-- the jobs (11 R306). -/
  jobs : List (Nat × Job) := []
  /-- combine-buffer lines, oldest allocation first (11 R320). -/
  lines : List Line := []
  /-- DIGEST_RESULT (11 R337). -/
  digestResult : Nat := 0
  /-- SERVICE_CLOCKS (11 Table 11-7). -/
  serviceClocks : Nat := 0
  deriving DecidableEq, Repr

/-- LPDDR5X and memory errors (chapter 12). -/
structure Mem where
  /-- LPDDR5X bytes by local offset; unlisted bytes read 0 (12 R355). -/
  lpddr : List Host.Cell := []
  /-- poisoned bursts (offset / 64), rising (12 R350). -/
  poison : List Nat := []
  /-- poisoned bursts of a Lot's LPDDR5X copy: Lot number and offset in the copy (12 R363). -/
  lotPoison : List (Nat × Nat) := []
  /-- initialisation has written every group (12 R355). -/
  ready : Bool := false
  /-- user-region reservations: base, bytes and owner (table * 2 + version side, 256 + job) (12 R356). -/
  reserved : List (Nat × Nat × Nat) := []
  /-- spare slice rows used, by logical tile (12 R346). -/
  spareRows : List (Nat × Nat) := []
  /-- spare pages used, by package (12 R351). -/
  sparePages : List (Nat × Nat) := []
  /-- corrected errors in the health window, by data page (18 R500). -/
  pageErrors : List (Nat × Nat) := []
  /-- corrected errors in the health window, by slice row (18 R500). -/
  rowErrors : List (Nat × Nat) := []
  /-- refresh multiplier reported by each package, quarters; unlisted 4 (12 R355). -/
  refresh : List (Nat × Nat) := []
  /-- packages that report a temperature above their range (12 R355). -/
  hotPackages : List Nat := []
  /-- LAST_ERROR (12 R364). -/
  lastError : Nat := 0
  deriving DecidableEq, Repr

/-- One cascade port and its link (R391, R393). -/
structure LinkPort where
  /-- 0 DOWN, 1 TRAINING, 2 HELLO, 3 UP, 4 MISMATCH, 5 FAILED (14 R391). -/
  state : Nat := 0
  /-- lanes in service (14 Table 14-11). -/
  lanes : Nat := 0
  /-- lanes that left service for a fault (14 R390). -/
  failedLanes : Nat := 0
  /-- spare lane in service, 0xF none (14 Table 14-11). -/
  spareUsed : Nat := 15
  /-- when it entered the state (1 s retries) (14 R391). -/
  since : Nat := 0
  /-- neighbour's device number (14 R391). -/
  neighDev : Nat := 0
  /-- neighbour's port (14 R391). -/
  neighPort : Nat := 0
  /-- neighbour's CASCADE_ID (14 R391). -/
  neighCascade : Nat := 0
  /-- neighbour's serial (14 R391). -/
  neighSerial : Nat := 0
  /-- SEQ of the next sequenced cell it sends (14 R393). -/
  txSeq : Nat := 0
  /-- replay buffer, oldest first: SEQ, cell, time sent, retransmissions (14 R393). -/
  replay : List (Nat × Bytes × Nat × Nat) := []
  /-- next SEQ it delivers (14 R393). -/
  rxNext : Nat := 0
  /-- reorder window: SEQ and cell (14 R393). -/
  window : List (Nat × Bytes) := []
  /-- when the gap before the window opened (14 R393). -/
  gapSince : Option Nat := none
  /-- credits the neighbour has granted, by class (14 R394). -/
  credits : List (Nat × Nat) := [(0, 256), (1, 256), (2, 256), (3, 256)]
  /-- credits to return to the neighbour, by class (14 R394). -/
  owed : List (Nat × Nat) := []
  /-- cells waiting for credits or for the replay buffer (14 R394). -/
  waiting : List Bytes := []
  /-- measured delays of the last 16 exchanges, newest first (14 R401). -/
  delays : List Int := []
  /-- exchange number of its latest DELAY request (14 R401). -/
  exchange : Nat := 0
  /-- CRC errors of each lane in the current second (18 R500). -/
  laneCrc : List (Nat × Nat) := []
  deriving DecidableEq, Repr

/-- The newest flooded state of a device (R396). -/
structure NodeState where
  /-- origin version (14 R396). -/
  version : Nat := 0
  /-- serial number (14 R395). -/
  serial : Nat := 0
  /-- in cascade frames (14 R396). -/
  inCascade : Bool := false
  /-- EFFECT_SFC (14 R396). -/
  effect : Nat := 0
  /-- adjacency: local port, neighbour device, neighbour port, of the links that are UP (14 R396). -/
  adj : List (Nat × Nat × Nat) := []
  deriving DecidableEq, Repr

/-- A multicast batch of an entry at this module (R406 to R409). -/
structure Batch where
  /-- entry device (14 R406). -/
  entry : Nat := 0
  /-- shard map of the entry (14 R406). -/
  group : Nat := 0
  /-- BATCH_SFC (14 R406). -/
  sfc : Nat := 0
  /-- receiver bitmap (14 R406). -/
  members : Nat := 0
  /-- QUERY cells: tag, cell index, payload (14 R407). -/
  frags : List (Nat × Nat × Bytes) := []
  /-- BATCH_END cells: cell index, payload (14 R408). -/
  ends : List (Nat × Bytes) := []
  /-- 0 open, 1 accepted, 2 refused (14 R409). -/
  verdict : Nat := 0
  /-- TOWER_OUT cells: tag, cell index, payload (14 R412). -/
  towers : List (Nat × Nat × Bytes) := []
  deriving DecidableEq, Repr

/-- A batch this module fixed as entry (R405). -/
structure OwnBatch where
  /-- shard map (14 R405). -/
  group : Nat := 0
  /-- n (14 R405). -/
  sfc : Nat := 0
  /-- receiver set (14 R405). -/
  set_ : Nat := 0
  /-- queries forwarded so far (14 R407). -/
  tags : Nat := 0
  /-- receivers whose DONE accepted it (14 R409). -/
  accepted : List Nat := []
  /-- some query masks the filter (14 R408). -/
  masked : Bool := false
  deriving DecidableEq, Repr

/-- A remote operation in flight (R415). -/
structure RemoteOp where
  /-- tag (14 R415). -/
  tag : Nat := 0
  /-- 0 write, 1 accumulate, 2 SIGNAL, 3 read, 4 verdict read, 5 digest read, 6 schedule read, 7 winner write (14 R415). -/
  kind : Nat := 0
  /-- target device (14 R415). -/
  device : Nat := 0
  /-- module time of issue (14 R415). -/
  issued : Nat := 0
  /-- issuing tile (14 R415). -/
  tile : Nat := 0
  /-- issuing context (14 R415). -/
  ctx : Nat := 0
  /-- issuing stream, 0 for the module's own (14 R415). -/
  streamId : Nat := 0
  /-- the request's payload (14 R415). -/
  cell : Bytes := []
  /-- read: slice byte its first data byte goes to (14 R415). -/
  dest : Nat := 0
  /-- job of a verdict or digest read (11 R323). -/
  job : Nat := 0
  deriving DecidableEq, Repr

/-- A placement the master is making with SCHED cells (R417). -/
structure Placement where
  /-- request tag (14 R417). -/
  tag : Nat := 0
  /-- the action placed (14 R417). -/
  action : Action := {}
  /-- target devices (14 R417). -/
  targets : List Nat := []
  /-- targets that answered status 0 (14 R417). -/
  done : List Nat := []
  /-- module time of the SCHED cells (14 R417). -/
  sent : Nat := 0
  /-- the Vilur write that waits for it (14 R417). -/
  reply : Option VReq := none
  deriving DecidableEq, Repr

/-- Cascade links, membership and multicast (chapter 14). -/
structure Cascade where
  /-- the ports; an unlisted port is at its reset (14 R388). -/
  ports : List (Nat × LinkPort) := []
  /-- spare lanes in service, by spare: port*4 + lane it replaces (14 R390). -/
  spareLanes : List (Nat × Nat) := []
  /-- newest state of each device, effective or not (14 R396). -/
  nodes : List (Nat × NodeState) := []
  /-- the states that govern (EFFECT_SFC reached) (14 R396). -/
  known : List (Nat × NodeState) := []
  /-- states that do not govern yet, in the order of their arrival (14 R396). -/
  coming : List (Nat × NodeState) := []
  /-- version of this module's last STATE cell (14 R396). -/
  version : Nat := 0
  /-- when it was sent (14 R396). -/
  stateSent : Nat := 0
  /-- ROUTE_SFC (14 Table 14-10). -/
  routeSfc : Nat := 0
  /-- CASCADE_STATE (14 R399). -/
  state : Nat := 0
  /-- OUT_REASON (14 R399). -/
  outReason : Nat := 1
  /-- 16 consecutive beacons matched and none lost since (14 R399). -/
  beaconOk : Bool := false
  /-- HOPS of the latest beacon (14 R402). -/
  hops : Nat := 0
  /-- device numbers in conflict, each with the other serial number that claims it (14 R395). -/
  conflicts : List (Nat × Nat) := []
  /-- batches of entries (14 R406). -/
  batches : List Batch := []
  /-- batches of this module as entry (14 R405). -/
  own : List OwnBatch := []
  /-- remote operations in flight (14 R415). -/
  ops : List RemoteOp := []
  /-- next tag (14 R415). -/
  nextTag : Nat := 0
  /-- placements in progress (14 R417). -/
  placements : List Placement := []
  /-- partly received sequences: source, tag, cell index, payload (14 Table 14-3). -/
  frags : List (Nat × Nat × Nat × Bytes) := []
  /-- ABORT cells already flooded: origin, job, step (14 R416). -/
  aborts : List (Nat × Nat × Nat) := []
  deriving DecidableEq, Repr

/-- An accepted Store command (R428). -/
structure StoreCmd where
  /-- acceptance order (15 R428). -/
  id : Nat := 0
  /-- session (15 R425). -/
  session : Nat := 0
  /-- the command (15 R425). -/
  cmd : Bytes := []
  /-- in the range-lock table (15 R428). -/
  inTable : Bool := false
  /-- no earlier conflicting entry is left (15 R428). -/
  started : Bool := false
  /-- its STATUS, once it can complete (15 R427). -/
  ready : Option Nat := none
  /-- DURABLE of its completion (15 R427). -/
  durable : Bool := false
  /-- JOURNALED of its completion (15 R427). -/
  journaled : Bool := false
  /-- its data is on its way into the write cache (15 R430). -/
  fetching : Bool := false
  /-- a Force write that waits for its NAND program (15 R431). -/
  direct : Bool := false
  /-- its wait has been counted (15 R428). -/
  stalled : Bool := false
  /-- atomic unit taken when it started (15 R432). -/
  unit : Nat := 16384
  /-- its data is all in the write cache (15 R430). -/
  fetched : Bool := false
  /-- an atomic write waiting for journal room (15 R432). -/
  waitJournal : Bool := false
  /-- its session was reset: no completion (15 R434). -/
  dead : Bool := false
  /-- a BULK read of TABLE_LOAD: table, destination, and bytes of this piece (15 R428). -/
  bulk : Option (Nat × Nat × Nat) := none
  deriving DecidableEq, Repr

/-- A written block of the write cache (R430). -/
structure CacheBlock where
  /-- acceptance order of its write (15 R430). -/
  order : Nat := 0
  /-- 4 KiB block number (15 R430). -/
  block : Nat := 0
  /-- its data (15 R430). -/
  data : Bytes := []
  deriving DecidableEq, Repr

/-- A Leat journal record (R437). -/
structure JournalRec where
  /-- admission order (15 R437). -/
  order : Nat := 0
  /-- Store offset (15 R437). -/
  offset : Nat := 0
  /-- its data (15 R437). -/
  data : Bytes := []
  /-- commit mark (15 R437). -/
  commit : Bool := false
  deriving DecidableEq, Repr

/-- The Cistern (chapter 15). -/
structure Cistern where
  /-- Store area bytes on NAND; unlisted bytes read 0 (durable) (15 R421). -/
  nand : List Host.Cell := []
  /-- written blocks not yet on NAND, oldest first (15 R430). -/
  cache : List CacheBlock := []
  /-- journal records, oldest first (15 R435). -/
  journal : List JournalRec := []
  /-- committed records of the latest power-loss flush (durable) (15 R438). -/
  flushArea : List JournalRec := []
  /-- a flush waits for its replay (durable) (15 R439). -/
  flushed : Bool := false
  /-- module time at the indication (durable) (15 Table 15-4). -/
  lossNs : Nat := 0
  /-- SFC at the indication (durable) (15 Table 15-4). -/
  lossSfc : Nat := 0
  /-- duration of step 3 (durable) (15 Table 15-4). -/
  flushUs : Nat := 0
  /-- LAST_FLUSH (15 R439). -/
  lastFlush : Nat := 0
  /-- accepted commands, in acceptance order (15 R428). -/
  cmds : List StoreCmd := []
  /-- next acceptance number (15 R428). -/
  nextCmd : Nat := 0
  /-- blocks that read as an error, rising (durable) (15 R429). -/
  bad : List Nat := []
  /-- CISTERN_STATE (15 R433). -/
  readOnly : Bool := false
  /-- CISTERN_SPARE_PERMILLE (18 Table 18-4). -/
  permille : Nat := 1000
  /-- persisted module time (durable) (02 R55). -/
  savedTime : Option Nat := none
  /-- journal limit L, MiB (15 R436). -/
  limit : Nat := 0
  deriving DecidableEq, Repr

/-- The hold-up bank and its controller (chapter 15). -/
structure Holdup where
  /-- HOLDUP_STATE (15 R436). -/
  state : Nat := 0
  /-- CHARGING (15 Table 15-7). -/
  charging : Bool := false
  /-- TESTING (15 Table 15-7). -/
  testing : Bool := false
  /-- END_OF_LIFE (15 R444). -/
  endOfLife : Bool := false
  /-- HOT (15 Table 15-7). -/
  hot : Bool := false
  /-- CHARGE_STOPPED (15 R441). -/
  stopped : Bool := false
  /-- CELL_FAULT (18 R500). -/
  cellFault : Bool := false
  /-- BANK_VOLTAGE_MV (15 Table 15-7). -/
  voltage : Nat := 0
  /-- BANK_TEMP_DC (15 Table 15-7). -/
  temp : Int := 250
  /-- CELL_CAPACITANCE_MF (durable) (15 R443). -/
  caps : List Nat := [5000, 5000, 5000, 5000, 5000, 5000, 5000, 5000, 5000, 5000, 5000, 5000, 5000]
  /-- CELL_VOLTAGE_MV (15 Table 15-7). -/
  volts : List Nat := [0, 0, 0, 0, 0, 0, 0, 0, 0, 0, 0, 0, 0]
  /-- CELL_MAP (durable) (15 Table 15-7). -/
  map : List Nat := [0, 0, 0, 0, 0, 0, 0, 0, 0, 0, 0, 0, 1]
  /-- USABLE_ENERGY_MJ (15 R442). -/
  energy : Nat := 0
  /-- RATED_ENERGY_MJ (durable) (15 R442). -/
  rated : Nat := 150000
  /-- a capacitance test is due (15 R443). -/
  due : Bool := false
  /-- module time of the last test (15 R443). -/
  lastTestAt : Nat := 0
  /-- the bank has reached its target since the start (15 R443). -/
  atTarget : Bool := false
  /-- LAST_TEST (15 R443). -/
  lastTest : Nat := 0
  /-- TESTS_RUN (durable) (15 R446). -/
  testsRun : Nat := 0
  /-- FLUSHES (durable) (15 R446). -/
  flushes : Nat := 0
  deriving DecidableEq, Repr

/-- A firmware slot of the boot SPI NOR (R489, R497). -/
structure Slot where
  /-- the firmware image (durable) (17 R489). -/
  image : Bytes := []
  /-- STATE (durable) (17 Table 17-8). -/
  state : Nat := 0
  /-- ATTEMPTS (durable) (17 R497). -/
  attempts : Nat := 0
  deriving DecidableEq, Repr

/-- Starting, keys and firmware (chapter 17). -/
structure Boot where
  /-- START_STATE (17 R482). -/
  startState : Nat := 0
  /-- RESET_CAUSE (17 R479). -/
  cause : Nat := 0
  /-- cause of the start that is due (17 R479). -/
  nextCause : Option Nat := none
  /-- BOOT_COUNT (durable) (17 R499). -/
  bootCount : Nat := 0
  /-- START_SFC (17 R482). -/
  startSfc : Nat := 0
  /-- LAST_START_MS (17 R482). -/
  lastStartMs : Nat := 0
  /-- STARTUP_LOT (17 R485). -/
  startupLot : Nat := 0
  /-- STARTUP_LOT_RESULT (17 R485). -/
  startupResult : Nat := 0
  /-- the load of phase 4 has been started (17 R485). -/
  startupTried : Bool := false
  /-- the table restore of phase 4 has been made (17 R487). -/
  tablesTried : Bool := false
  /-- the staged start-up Lot waits for its switch (17 R486). -/
  startupSwitch : Bool := false
  /-- PERSIST_STATUS (17 R483). -/
  persistStatus : Nat := 0
  /-- TABLES_RESTORED (17 R487). -/
  restored : Nat := 0
  /-- TABLES_NOT_RESTORED (17 R487). -/
  notRestored : Nat := 0
  /-- slots A and B (17 R489). -/
  slots : List Slot := [{}, {}]
  /-- slot it booted from (17 R497). -/
  booted : Nat := 0
  /-- slot that was preferred at this start (17 Table 17-7). -/
  preferred : Nat := 0
  /-- MEASUREMENT; empty before the boot (17 R490). -/
  measurement : Bytes := []
  /-- D_1 to D_5 (17 R490). -/
  comps : List Bytes := []
  /-- FIRMWARE_VERSION of the running image (16 Table 16-14). -/
  version : Nat := 0
  /-- SVN of the running image (17 R489). -/
  svn : Nat := 0
  /-- fused minimum (durable) (17 R497). -/
  minSvn : Nat := 0
  /-- vendor key digests (fuses) (17 R489). -/
  vendor : List Bytes := [[], [], [], []]
  /-- VENDOR_KEYS (fuses) (17 Table 17-9). -/
  revoked : List Nat := [0, 0, 0, 0]
  /-- owner key, empty for none (durable) (17 R493). -/
  ownerKey : Bytes := []
  /-- DEBUG_ENABLE (17 R495). -/
  debug : Bool := false
  /-- it has been 1 since this start (17 R495). -/
  debugged : Bool := false
  /-- FW_UPDATE_STATE (17 R496). -/
  updateState : Nat := 0
  /-- image being written (17 R496). -/
  updateImage : Bytes := []
  /-- VARIANT, 0 FN2-2048-L, 1 FN2-1024-L (manufacture) (00 R1). -/
  variant : Nat := 0
  /-- SERIAL (manufacture) (16 Table 16-14). -/
  serial : Nat := 0
  /-- BOARD_REVISION (manufacture) (16 Table 16-14). -/
  boardRev : Nat := 0
  /-- MAC addresses of H0 to H3 and M (manufacture) (13 R369). -/
  macs : List Nat := [0, 0, 0, 0, 0]
  /-- DIK public key (manufacture) (17 R491). -/
  dikPublic : Bytes := []
  /-- DEVICE_CERT (manufacture) (17 R492). -/
  cert : Bytes := []
  /-- module times of MODULE_FAULT starts within the last hour (durable) (18 R511). -/
  faultStarts : List Nat := []
  deriving DecidableEq, Repr

/-- Health of one logical tile (Table 18-7). -/
structure TileHealth where
  /-- STATE (18 Table 18-7). -/
  state : Nat := 0
  /-- COLUMN_SPARED (18 R500). -/
  columnSpared : Bool := false
  /-- frames of its context 0 and 1 faults within 1,000 frames (18 R504). -/
  faults : List Nat := []
  /-- frame of detection of its failure (18 R507). -/
  detected : Nat := 0
  /-- BIST_FAILS (18 Table 18-7). -/
  bistFails : Nat := 0
  /-- SLICE_CORRECTED (18 Table 18-7). -/
  corrected : Nat := 0
  /-- LAST_PASS_SFC (18 Table 18-7). -/
  lastPass : Nat := 0
  deriving DecidableEq, Repr

/-- Placement, spares, events, injectors (chapter 18). -/
structure Health where
  /-- tiles that are not healthy at their place of manufacture (18 R500). -/
  tiles : List (Nat × TileHealth) := []
  /-- failed physical tiles (durable) (18 R500). -/
  failed : List Nat := []
  /-- physical tiles whose spare column is used or failed (durable) (18 R510). -/
  badColumns : List Nat := []
  /-- logical tiles moved to a spare: physical place (durable) (18 R510). -/
  map : List (Nat × Nat) := []
  /-- PLACEMENT_EPOCH (18 R509). -/
  epoch : Nat := 0
  /-- HEALTH_STATE is UNSPARABLE (18 R511). -/
  unsparable : Bool := false
  /-- HEALTH_STATE is SPARES_LOW (18 R517). -/
  low : Bool := false
  /-- CLEAR_FAILED waits for the next start (durable) (18 R511). -/
  clearFailed : Bool := false
  /-- place at which the current frame's self-tests begin (18 R502). -/
  bist : Nat := 0
  /-- idle spare places: SFC of the last passing self-test (18 R502). -/
  sparePass : List (Nat × Nat) := []
  /-- the event log, by source, oldest first (durable) (18 R514). -/
  events : List (Nat × List EventRec) := []
  /-- next SEQ of each source (18 R513). -/
  nextSeq : List (Nat × Nat) := []
  /-- EVENTS_OVERWRITTEN (durable) (18 R514). -/
  overwritten : List (Nat × Nat) := []
  /-- index of the current health window (18 R500). -/
  window : Nat := 0
  /-- planned health actions that found the schedule full (02 R40). -/
  waiting : List Action := []
  /-- an unsparable fault has occurred and its reset is due (18 R510). -/
  faultDue : Bool := false
  /-- INJECT_STATE (18 R516). -/
  armed : Bool := false
  /-- INJECT_ARM_SFC (18 Table 18-5). -/
  armSfc : Nat := 0
  deriving DecidableEq, Repr

/-- Pins, rails and temperatures (chapter 19). -/
structure Power where
  /-- INPUT_VOLTAGE_MV (19 Table 19-7). -/
  p54 : Nat := 0
  /-- STANDBY_VOLTAGE_MV (19 Table 19-7). -/
  sb : Nat := 0
  /-- when P3V3_SB entered its range (19 R522). -/
  sbSince : Option Nat := none
  /-- main conversion runs (19 R522). -/
  mainOn : Bool := false
  /-- latched off after a thermal trip (19 R531). -/
  tripped : Bool := false
  /-- INPUT_CURRENT_MA (19 Table 19-7). -/
  amps : Nat := 0
  /-- INPUT_POWER_W (19 Table 19-7). -/
  watts : Nat := 0
  /-- PEAK_POWER_W (19 Table 19-7). -/
  peak : Nat := 0
  /-- TEMPERATURES (19 Table 19-7). -/
  temps : List Int := [250, 250, 250, 250, 250, 250, 250, 250, 250, 250, 250, 250, 250, 250, 250, 250, 250, 250, 250, 250]
  /-- level of RST_L (19 R532). -/
  rstL : Bool := true
  /-- level of RECOVERY_L (19 R532). -/
  recoveryL : Bool := true
  /-- ADDR0 to ADDR2 (19 R532). -/
  addr : Nat := 0
  /-- PWRGD (19 R532). -/
  pwrgd : Bool := false
  /-- PFAIL_L asserted (19 R524). -/
  pfail : Bool := false
  /-- THERM_L asserted (19 R531). -/
  therm : Bool := false
  /-- FAULT_L asserted (19 R535). -/
  fault : Bool := false
  /-- rising edge of the pulse PPS_OUT is driving (19 R533). -/
  ppsOut : Option Nat := none
  /-- CAP_LIMIT, in the standby domain (19 R534). -/
  capLimit : Nat := 950
  /-- CAP_LIMIT whose step change has been applied (19 R527). -/
  limit : Nat := 950
  /-- POWER_CAP whose step change has been applied (19 R527). -/
  cap : Nat := 950
  /-- EMERGENCY_STEP (19 R528). -/
  emergency : Nat := 0
  /-- EMERGENCY_CAUSE (19 R528). -/
  cause : Nat := 0
  /-- since when no cause has held (19 R529). -/
  calmSince : Option Nat := none
  /-- RESTORE_HOLD_S that governs the hold span now running (19 R539). -/
  hold : Nat := 10
  /-- a return to the cap's step is scheduled (19 R529). -/
  restoreDue : Bool := false
  /-- owner-key chunks received (19 R534). -/
  chunks : List (Nat × Bytes) := []
  /-- KEY_RESULT (19 R534). -/
  keyResult : Nat := 0
  deriving DecidableEq, Repr

/-- The whole FN2 module but its queue of commands. -/
structure Module where
  /-- Sluice frame, ticks and time (02). -/
  clock : Clock := {}
  /-- the supervisor's schedule, by TARGET_SFC and SEQ (02 R40). -/
  schedule : List Action := []
  /-- SEQ of the next accepted action (02 R40). -/
  nextSeq : Nat := 0
  /-- object dictionary values (16). -/
  od : Od := {}
  /-- Vilur protocol (16). -/
  vilur : Vilur := {}
  /-- host ports and sessions (13). -/
  ports : Ports := {}
  /-- admission and queries (04). -/
  search : Search := {}
  /-- Lots and the builder (06). -/
  lots : Lots := {}
  /-- logical tiles; an unlisted tile is at its power-up state (01 R20). -/
  tiles : List (Nat × Tile) := []
  /-- stream sets (08). -/
  streams : Streams := {}
  /-- embedding tables (10). -/
  tables : Tables := {}
  /-- reduction jobs (11). -/
  jobs : Jobs := {}
  /-- LPDDR5X (12). -/
  mem : Mem := {}
  /-- cascade (14). -/
  cascade : Cascade := {}
  /-- the Cistern (15). -/
  cistern : Cistern := {}
  /-- hold-up bank (15). -/
  holdup : Holdup := {}
  /-- start and security (17). -/
  boot : Boot := {}
  /-- health and events (18). -/
  health : Health := {}
  /-- power and sideband (19). -/
  power : Power := {}
  /-- messages the module has sent, oldest first (MODEL's own record of its outputs) (13 R379). -/
  out : List Out := []
  /-- counter that picks the next free value (the model's own field, not the spec's) (MODEL). -/
  fresh : Nat := 0
  deriving DecidableEq, Repr

/-- The machine: the module, and the commands that wait for it, first in, first out. -/
structure State where
  /-- commands that wait, the next one first (empty at reset). -/
  pending : List Instr := []
  /-- everything the spec gives the module. -/
  m : Module := {}
  deriving DecidableEq, Repr

/-- Why the machine stops with a fault. -/
inductive Fault where
  /-- Raised by no command: the spec gives every command an outcome that the module goes on from. Safe. -/
  | unreachable
  deriving DecidableEq, Repr

/-- Why a command has no meaning. -/
inductive Refusal where
  /-- Raised by an arm of exec whose command has no meaning in this model yet. Safe: nothing is claimed of it. -/
  | notModelled (mnemonic : String)
  /-- Raised by a command whose operands no bus, link or pin can carry (WellFormed fails): a cell that is not 272
  bytes or whose TYPE is not the row's, a list of readings of the wrong length. Safe: no such command can arrive. -/
  | illFormed (mnemonic : String)
  deriving DecidableEq, Repr

/-- The module as it is manufactured, without power (every value of it is named in INVENTORY.md), no command waiting. -/
def State.reset : State := { pending := [], m := {} }

end Sys2Proof.Machine
end

