-- ==== Sys2Proof/Machine/Ops.lean ====
section
/-! DEFINITION. The named operations that every chapter uses: time, dictionary values and counters, the schedule, the
event log, free values, tiles, sessions and the messages that the module sends. -/

namespace Sys2Proof.Machine

/-! ## Time (02) -/

/-- A command arrives at module time t. -/
def Module.at (m : Module) (t : Nat) : Module := { m with clock := { m.clock with now := max m.clock.now t } }

/-- Module time of tick n on the grid in force (02 R30). -/
def Clock.tickTime (c : Clock) (n : Nat) : Nat := c.baseNs + (n - c.baseSfc) * c.period

/-- SFC of the next tick: after the first tick one more than the latest; before it the first grid instant that has not
passed (02 R30, R55). -/
def Clock.next (c : Clock) : Nat :=
  if c.ticked then c.sfc + 1
  else if c.period = 0 then c.sfc else c.baseSfc + ceilDiv (c.now - c.baseNs) c.period

/-- The first frame that an at-tick write acknowledged now governs (00 R12). -/
def Clock.firstFrame (c : Clock) : Nat := c.next + b2n c.closed

/-- Clock step to MHz (02 R46). -/
def stepMHz (step : Nat) : Nat := if step = 0 then 1600 else if step = 1 then 1400 else if step = 2 then 1200 else 1000

/-- Guard G of a period (02 R34). -/
def guardNs (period : Nat) : Nat := 2000 + period / 4096

/-- Frame budget B of a period in ns (02 R34). -/
def budgetNs (period : Nat) : Nat := period - guardNs period

/-- Frame budget in clocks at a clock step (02 R34). -/
def budgetClocks (period step : Nat) : Nat := budgetNs period * stepMHz step / 1000

/-- Key of an object instance. -/
def odKey (idx sub inst : Nat) : Nat := (idx * 256 + sub) * 65536 + inst

/-- Scheduled actions up to a frame, in the order in which the ticks apply them (02 R41). -/
def Module.actionsTo (m : Module) (n : Nat) : List Action :=
  sortBy (fun a b => decide (a.target < b.target ∨ a.target = b.target ∧
      ((if a.kind = 0 then 9 else a.kind) < (if b.kind = 0 then 9 else b.kind) ∨
        (a.kind = b.kind ∧ a.seq ≤ b.seq))))
    (m.schedule.filter (fun a => decide (a.target ≤ n)))

/-- The tick period of a profile (02 Table 02-7). -/
def profilePeriod (p : Nat) : Nat := if p = 0 then 250000 else if p = 1 then 100000000 else 10000000

/-- The depth of a profile, the current one where the row leaves it unchanged (02 Table 02-7). -/
def profileDepth (p cur : Nat) : Nat := if p = 0 ∨ p = 1 then 3 else cur

/-- The period that the schedule holds for frame n (02 R42). -/
def Module.periodAt (m : Module) (n : Nat) : Nat :=
  (m.actionsTo n).foldl (fun p a =>
    if a.kind = 2 ∧ a.key = odKey 0x1100 0x01 0 then leNat a.value
    else if a.kind = 3 then profilePeriod (leNat a.value) else p) m.clock.period

/-- The depth that the schedule holds for frame n (02 R42, R45). -/
def Module.depthAt (m : Module) (n : Nat) : Nat :=
  (m.actionsTo n).foldl (fun p a =>
    if a.kind = 2 ∧ a.key = odKey 0x1100 0x02 0 then leNat a.value
    else if a.kind = 3 then profileDepth (leNat a.value) p else p) m.clock.depth

/-- The clock step of a power cap (19 R526). -/
def capStep (cap : Nat) : Nat := if cap < 650 then 3 else if cap < 800 then 2 else if cap < 950 then 1 else 0

/-- What decides the clock step: POWER_CAP, CAP_LIMIT and the emergency step, as applied (19 R527). -/
structure StepBase where
  cap : Nat
  limit : Nat
  emergency : Nat
  deriving DecidableEq, Repr

/-- The step in force: the slower of the effective cap's step and the emergency step (19 R527). -/
def StepBase.step (b : StepBase) : Nat := max (capStep (min b.cap b.limit)) b.emergency

/-- A KIND 1 action changes POWER_CAP, CAP_LIMIT's effect, or the emergency step (02 R46, 19 R527 to R529). -/
def StepBase.apply (b : StepBase) (a : Action) : StepBase :=
  if a.key = odKey 0x7000 0x01 0 then { b with cap := leNat a.value }
  else if a.key = odKey 0x7000 0x02 0 then { b with limit := leNat a.value }
  else { b with emergency := leNat a.value }

/-- The base of the step in force. -/
def Module.stepBase (m : Module) : StepBase := ⟨m.power.cap, m.power.limit, m.power.emergency⟩

/-- The clock step that the schedule holds for frame n (02 R34, R46). -/
def Module.stepAt (m : Module) (n : Nat) : Nat :=
  (((m.actionsTo n).filter (fun a => a.kind == 1)).foldl StepBase.apply m.stepBase).step

/-- Does frame n lie at or past F plus the lead, for depth dNew from frame n (02 R42)? -/
def Module.leadOk (m : Module) (n dNew : Nat) : Bool :=
  decide (m.clock.firstFrame + (max m.clock.depth dNew + 2) ≤ n)

/-- The earliest frame with the lead of R42, for a depth that the schedule gives (02 R42). -/
def Module.leadFrame (m : Module) : Nat :=
  let f := m.clock.firstFrame
  let base := f + m.clock.depth + 2
  ((List.range 7).map (fun i => base + i)).foldl
    (fun best n => if best ≠ 0 then best else if m.leadOk n (m.depthAt n) then n else 0) 0

/-! ## Dictionary values (16) -/

/-- The default of 06 DEFAULT_DESCRIPTOR (06 Table 06-9). -/
def defaultDescriptor : Bytes :=
  toLe 128 (put 2 8 88 + put 768 16 96 + put 256 16 112 + put 32 8 160 + put 16 8 168 + put 8 8 176
    + put 0x3D4CCCCD 32 192 + put 1 16 336)

/-- The default value of an object (16 R447). -/
def Obj.default (o : Obj) : Bytes :=
  if o.index = 0x2200 ∧ o.sub = 0x0C then defaultDescriptor
  else if o.index = 0x2100 ∧ o.sub = 0x10 then zeros 480
  else if o.index = 0x6100 ∧ o.sub = 0x02 then zeros 512
  else if o.index = 0x6100 ∧ o.sub = 0x03 then zeros 1536
  else if o.index = 0x4200 ∧ o.sub = 0x11 then zeros 68
  else if o.typ = 11 then []
  else if o.typ = 10 then (List.replicate o.count (toLe (o.bytes / o.count) o.dflt)).flatten
  else toLe o.bytes o.dflt

/-- The value in force of a writable object (00 R16, 16 R462). -/
def Module.cfgBytes (m : Module) (idx sub inst : Nat) : Bytes :=
  match mGet m.od.cfg (odKey idx sub inst) with
  | some v => v
  | none => match findObj idx sub with
    | some o => o.default
    | none => []

/-- The value in force as an unsigned number. -/
def Module.cfg (m : Module) (idx sub : Nat) : Nat := leNat (m.cfgBytes idx sub 0)

/-- The value in force of an instance as an unsigned number. -/
def Module.cfgI (m : Module) (idx sub inst : Nat) : Nat := leNat (m.cfgBytes idx sub inst)

/-- The value in force as a truth value. -/
def Module.cfgB (m : Module) (idx sub : Nat) : Bool := m.cfg idx sub != 0

/-- Put a value in force. -/
def Module.setCfg (m : Module) (idx sub inst : Nat) (v : Bytes) : Module :=
  { m with od := { m.od with cfg := mPut m.od.cfg (odKey idx sub inst) v } }

/-- Make a value durable (15 R423, 16 R449). -/
def Module.persist (m : Module) (idx sub inst : Nat) (v : Bytes) : Module :=
  { m with od := { m.od with persist := mPut m.od.persist (odKey idx sub inst) v, record := 0 } }

/-- Add n to a counter of 64 bits. -/
def Module.countI (m : Module) (idx sub inst n : Nat) : Module :=
  let k := odKey idx sub inst
  { m with od := { m.od with cnt := mPutZ m.od.cnt k ((mGetD m.od.cnt k 0 + n) % 2 ^ 64) 0 } }

/-- Add n to a counter. -/
def Module.count (m : Module) (idx sub n : Nat) : Module := m.countI idx sub 0 n

/-- Read a counter. -/
def Module.ctr (m : Module) (idx sub : Nat) : Nat := mGetD m.od.cnt (odKey idx sub 0) 0

/-- Read a counter of an instance. -/
def Module.ctrI (m : Module) (idx sub inst : Nat) : Nat := mGetD m.od.cnt (odKey idx sub inst) 0

/-- Raise a counter to at least n. -/
def Module.ctrMax (m : Module) (idx sub n : Nat) : Module :=
  let k := odKey idx sub 0
  { m with od := { m.od with cnt := mPutZ m.od.cnt k (max (mGetD m.od.cnt k 0) n) 0 } }

/-! ## Free values and outputs -/

/-- The next free value, cut to a number of bits (log 2). -/
def Module.freeBits (m : Module) (bits : Nat) : Nat := Config.freeValue m.fresh % 2 ^ bits

/-- Move on to the next free value. -/
def Module.drawn (m : Module) : Module := { m with fresh := m.fresh + 1 }

/-- A message leaves the module (log 3). -/
def Module.send (m : Module) (o : Out) : Module := { m with out := m.out ++ [o] }

/-- Messages leave in order. -/
def Module.sendAll (m : Module) (os : List Out) : Module := { m with out := m.out ++ os }

/-! ## Events (18) -/

/-- The 32 bytes of an event record (18 Table 18-2). -/
def EventRec.bytes (e : EventRec) : Bytes :=
  toLe 2 e.source ++ toLe 2 e.code ++ toLe 4 e.seq ++ toLe 8 e.sfc ++ toLe 8 e.time ++ toLe 8 e.data

/-- Does a subscription take an event (16 R470)? -/
def Sub.takes (s : Sub) (e : EventRec) : Bool :=
  (s.source == 0xFFFF || s.source == e.source) && decide (s.codeMin ≤ e.code) && decide (e.code ≤ s.codeMax)

/-- Give an event to the subscriptions that take it (16 R471). -/
def Client.notice (c : Client) (e : EventRec) : Client :=
  { c with subs := c.subs.map (fun s => if s.takes e then { s with queue := s.queue ++ [e] } else s) }

/-- Log an event of a source (18 R513, R514). -/
def Module.event (m : Module) (source code data : Nat) : Module :=
  let seq := mGetD m.health.nextSeq source 0
  let e : EventRec := { source := source, code := code, seq := seq, sfc := m.clock.sfc, time := m.clock.now, data := data % 2 ^ 64 }
  let old := mGetD m.health.events source []
  let full := decide (65536 ≤ old.length)
  let kept := (if full then old.drop 1 else old) ++ [e]
  { m with
    health := { m.health with
      events := mPut m.health.events source kept
      nextSeq := mPut m.health.nextSeq source ((seq + 1) % 2 ^ 32)
      overwritten := if full then mAdd m.health.overwritten source 1 else m.health.overwritten }
    vilur := { m.vilur with clients := m.vilur.clients.map (fun c => c.notice e) } }

/-! ## The schedule (02) -/

/-- Insert an action in ascending TARGET_SFC and SEQ (02 R40). -/
def insertAction (a : Action) (l : List Action) : List Action :=
  insertBy (fun x y => decide (x.target < y.target ∨ x.target = y.target ∧ x.seq ≤ y.seq)) a l

/-- Would one more host-placed action be the 257th (02 R40)? -/
def Module.hostFull (m : Module) : Bool := decide (256 ≤ (m.schedule.filter (·.host)).length)

/-- The schedule holds 1,024 actions (02 R40). -/
def Module.scheduleFull (m : Module) : Bool := decide (1024 ≤ m.schedule.length)

/-- Place an action with the next SEQ (02 R40). -/
def Module.place (m : Module) (a : Action) : Module :=
  { m with schedule := insertAction { a with seq := m.nextSeq } m.schedule, nextSeq := (m.nextSeq + 1) % 2 ^ 32 }

/-- Take actions out of the schedule. -/
def Module.unplace (m : Module) (p : Action → Bool) : Module := { m with schedule := m.schedule.filter (fun a => !p a) }

/-! ## Tiles, sessions, ports -/

/-- A logical tile (01 R20). -/
def Module.tile (m : Module) (t : Nat) : Tile := mGetD m.tiles t {}

/-- Replace a logical tile. -/
def Module.setTile (m : Module) (t : Nat) (v : Tile) : Module := { m with tiles := mPut m.tiles t v }

/-- Change a logical tile. -/
def Module.onTile (m : Module) (t : Nat) (f : Tile → Tile) : Module := m.setTile t (f (m.tile t))

/-- A session that is not CLOSED (13 R379). -/
def Module.session (m : Module) (s : Nat) : Option Session := mGet m.ports.sessions s

/-- Replace a session. -/
def Module.setSession (m : Module) (s : Nat) (v : Session) : Module :=
  { m with ports := { m.ports with sessions := mPut m.ports.sessions s v } }

/-- Change a session that is not CLOSED. -/
def Module.onSession (m : Module) (s : Nat) (f : Session → Session) : Module :=
  { m with ports := { m.ports with sessions := mMod m.ports.sessions s f } }

/-- A host port, or the management port as 4. -/
def Module.hostPort (m : Module) (p : Nat) : HostPort := mGetD m.ports.host p {}

/-- Change a host port. -/
def Module.onHostPort (m : Module) (p : Nat) (f : HostPort → HostPort) : Module :=
  { m with ports := { m.ports with host := mPut m.ports.host p (f (m.hostPort p)) } }

/-- Add to a field of PORT_COUNTERS: 0 TX_BYTES, 1 RX_PACKETS, 2 TX_PACKETS, 3 FCS_ERRORS, 4 ICRC_ERRORS,
5 BUFFER_DROPS, 6 PFC_SENT, 7 PFC_RECEIVED, 8 CNP_SENT, 9 CNP_RECEIVED, 10 NAK_SENT, 11 NAK_RECEIVED, 12 RETRANSMITS,
13 RNR_SENT, 14 RNR_RECEIVED, 15 INJECTED (13 Table 13-7). -/
def Module.portCount (m : Module) (port field n : Nat) : Module := m.countI 0x4100 0x20 (port * 16 + field) n

/-- Change the lane, link or credit state of a cascade port. -/
def Module.linkPort (m : Module) (p : Nat) : LinkPort := mGetD m.cascade.ports p {}

/-- Change a cascade port. -/
def Module.onLink (m : Module) (p : Nat) (f : LinkPort → LinkPort) : Module :=
  { m with cascade := { m.cascade with ports := mPut m.cascade.ports p (f (m.linkPort p)) } }

/-- Add to a field of the cascade PORT_COUNTERS, in the order of its record (14 Table 14-12). -/
def Module.linkCount (m : Module) (port field n : Nat) : Module := m.countI 0x4200 0x0A (port * 16 + field) n

/-! ## Identity in a cascade (14) -/

/-- This module's device number in force (14 R395). -/
def Module.device (m : Module) : Nat := m.cfg 0x4200 0x01

/-- The module is part of a cascade (14 R395). -/
def Module.inCascadeConfig (m : Module) : Bool := m.cfg 0x4200 0x02 != 0

/-- The module is the master of its cascade (14). -/
def Module.isMaster (m : Module) : Bool := m.inCascadeConfig && m.device == 0

/-- Usable LPDDR5X bytes, halved on the FN2-1024-L (12 Table 12-1). -/
def Module.lpddrUsable (m : Module) : Nat := if m.boot.variant = 0 then 2061584302080 else 1030792151040

/-! ## Fault injection (13 R385, R386, 14 R418, 18 R516) -/

/-- Key of an injector's running state: 4h + i on host port h, 64 + 4p + i on cascade port p. -/
def injKey (cascade : Bool) (port i : Nat) : Nat := if cascade then 64 + 4 * port + i else 4 * port + i

/-- The record of an injector, 32 bytes as a number (13 Table 13-5, 14 Table 14-9). -/
def Module.injRecord (m : Module) (cascade : Bool) (port i : Nat) : Nat :=
  leAt (m.cfgBytes 0x6100 (if cascade then 0x03 else 0x02) 0) (32 * (4 * port + i)) 32

/-- One step of the generator (13 R386). -/
def injStep (x : Nat) : Nat :=
  let a := nxor x (x <<< 13) % 2 ^ 32
  let b := nxor a (a >>> 17)
  nxor b (b <<< 5) % 2 ^ 32

/-- What becomes of a unit that injectors have seen. -/
structure InjResult where
  drop : Bool := false
  stale : Bool := false
  flips : List Nat := []
  hold : Option Nat := none
  release : List Nat := []
  deriving DecidableEq, Repr

/-- One injector meets a unit: its new state, whether it is affected, and whether a unit it holds goes (13 R386). -/
def Injector.meet (x : Injector) (rec holdN : Nat) : Injector × Bool × Bool :=
  let g := if rec.testBit 11 then x.gen else injStep x.gen
  let hit := if rec.testBit 11 then (fld rec 255 192).testBit (x.count % 64) else decide (g < fld rec 191 160)
  let bump (n : Nat) := n + 1
  let x := { x with gen := g, count := x.count + 1
                    held := x.held.map (fun p => (p.1, bump p.2))
                    heldRx := x.heldRx.map (fun p => (p.1, p.2.1, bump p.2.2))
                    heldTx := x.heldTx.map (fun p => (p.1, bump p.2)) }
  let full := (x.held.any (fun p => decide (holdN ≤ p.2))) || (x.heldRx.any (fun p => decide (holdN ≤ p.2.2)))
    || (x.heldTx.any (fun p => decide (holdN ≤ p.2)))
  (x, hit, full)

/-- Is the injector already holding a unit? -/
def Injector.holding (x : Injector) : Bool := x.held.isSome || x.heldRx.isSome || x.heldTx.isSome

/-- Injectors from number i on meet a unit of a port and direction (13 R386). elig says whether a record finds it
eligible. -/
def Module.injectFrom (m : Module) (cascade : Bool) (port : Nat) (tx : Bool) (elig : Nat → Bool) :
    Nat → Nat → InjResult → Module × InjResult
  | 0, _, r => (m, r)
  | n + 1, i, r =>
    let k := injKey cascade port i
    let rec_ := m.injRecord cascade port i
    let x : Injector := mGetD m.ports.inject k {}
    if r.drop || r.hold.isSome || !x.live || rec_.testBit 7 != tx || fld rec_ 10 8 == 0 || !elig rec_ then
      m.injectFrom cascade port tx elig n (i + 1) r
    else
      let w := x.meet rec_ (if cascade then fld rec_ 95 88 else fld rec_ 79 72)
      let m := { m with ports := { m.ports with inject := mPut m.ports.inject k w.1 } }
      let r := if w.2.2 then { r with release := r.release ++ [k] } else r
      if !w.2.1 then m.injectFrom cascade port tx elig n (i + 1) r
      else
        let m := if cascade then m.linkCount port 8 1 else m.portCount port 15 1
        let off := if cascade then fld rec_ 107 96 else fld rec_ 95 80
        let r := match fld rec_ 10 8 with
          | 1 => { r with drop := true }
          | 2 => { r with stale := true, flips := r.flips ++ [off] }
          | 3 => { r with flips := r.flips ++ [off] }
          | 4 => if w.1.holding then r else { r with hold := some k }
          | _ => r
        m.injectFrom cascade port tx elig n (i + 1) r

/-- The injectors of a port meet a unit; they act only while armed (18 R516). -/
def Module.inject (m : Module) (cascade : Bool) (port : Nat) (tx : Bool) (elig : Nat → Bool) : Module × InjResult :=
  if m.health.armed then m.injectFrom cascade port tx elig 4 0 {} else (m, {})

/-- Does a host-port injector find a frame eligible: SELECT 0 every frame, 1 RoCEv2, 2 one session (13 Table 13-5)? -/
def hostEligible (roce : Bool) (session : Option Nat) (rec : Nat) : Bool :=
  match fld rec 13 12 with
  | 0 => true
  | 1 => roce
  | 2 => session == some (fld rec 127 96)
  | _ => false

/-- Change an injector's running state. -/
def Module.onInjector (m : Module) (k : Nat) (f : Injector → Injector) : Module :=
  { m with ports := { m.ports with inject := mMod m.ports.inject k f } }

/-! ## What the module sends on a host port and a session (13) -/

/-- Flip a bit of a byte string, counted from bit 0 of byte 0. -/
def flipBit (bs : Bytes) (i : Nat) : Bytes :=
  if i / 8 < bs.length then bs.set (i / 8) (BitVec.ofNat 8 (nxor (bs.getD (i / 8) 0).toNat (1 <<< (i % 8)))) else bs

/-- The message with a bit of its payload flipped. -/
def Out.flip (o : Out) (i : Nat) : Out :=
  match o with
  | .completion s k a bs => .completion s k a (flipBit bs i)
  | .rdmaWrite s a k bs => .rdmaWrite s a k (flipBit bs i)
  | .readData s p bs => .readData s p (flipBit bs i)
  | .datagram p a u bs => .datagram p a u (flipBit bs i)
  | o => o

/-- Payload bytes of a message. -/
def Out.payload : Out → Nat
  | .completion _ _ _ bs => bs.length
  | .rdmaWrite _ _ _ bs => bs.length
  | .readData _ _ bs => bs.length
  | .datagram _ _ _ bs => bs.length
  | _ => 0

/-- A message leaves a host port through its transmit injectors, hdr bytes of it standing before its payload from the
first bit of the IP header (13 R386, log 32). -/
def Module.emit (m : Module) (port : Nat) (session : Option Nat) (roce : Bool) (o : Out) (hdr : Nat) : Module :=
  let r := m.inject false port true (hostEligible roce session)
  let m := r.1
  let out := r.2.flips.foldl (fun (o : Option Out) off =>
    let bits := 8 * (hdr + (match o with
      | some x => x.payload
      | none => 0))
    match o with
    | none => none
    | some x => if off % bits < 8 * hdr then none else some (x.flip (off % bits - 8 * hdr))) (some o)
  let m := match r.2.hold with
    | some k => m.onInjector k (fun x => { x with heldTx := some (o, 0) })
    | none => if r.2.drop || r.2.stale then m else match out with
      | some x => m.send x
      | none => m
  r.2.release.foldl (fun (m : Module) k => match (mGetD m.ports.inject k {}).heldTx with
    | some (h, _) => (m.send h).onInjector k (fun x => { x with heldTx := none })
    | none => m) m

/-- Bytes of Ethernet, VLAN, IP, UDP and BTH headers, ICRC and FCS of a frame of a session (13 R378). -/
def Module.frameOverhead (m : Module) (s : Session) : Nat :=
  14 + (if m.cfgI 0x4100 0x0C s.port = 0 then 0 else 4) + (if s.v6 then 40 else 20) + 8 + 12 + 8

/-- Packets of a transfer under the path MTU of 4,096 bytes (13 R371). -/
def packetsOf (bytes : Nat) : Nat := max 1 (ceilDiv bytes 4096)

/-- Count the frames of a message of a session, ext bytes of extended headers in all. -/
def Module.countTx (m : Module) (s : Session) (bytes ext : Nat) : Module :=
  let n := packetsOf bytes
  (m.portCount s.port 2 n).portCount s.port 0 (n * m.frameOverhead s + bytes + ext)

/-- A session enters ERROR: it discards its transmit queue and takes no further packets (13 R379). -/
def Module.sessionError (m : Module) (s : Nat) : Module :=
  m.onSession s (fun x => { x with state := 3, txQueued := 0, txList := [], partMsg := [], writeAt := none })

/-- Queue an operation of the module on a session: its message, the bytes it holds in the transmit queue, and the
bytes it carries; past SESSION_TX_LIMIT the session enters ERROR (13 R379). -/
def Module.transmit (m : Module) (s : Nat) (o : Out) (queued bytes ext : Nat) : Module :=
  match m.session s with
  | none => m
  | some x =>
    if x.state ≠ 2 then m
    else
      let n := packetsOf bytes
      let m := m.setSession s { x with txQueued := x.txQueued + queued, txList := x.txList ++ [((x.txPsn + n - 1) % 2 ^ 24, queued, o)],
                                       txPsn := (x.txPsn + n) % 2 ^ 24 }
      let m := (m.countTx x bytes ext).emit x.port (some s) true o ((if x.v6 then 40 else 20) + 20 + ext)
      if m.cfg 0x4100 0x17 < x.txQueued + queued then m.sessionError s else m

/-- Post a completion in a result or reply slot: an RDMA WRITE with immediate of the slot's number (13 R378). -/
def Module.post (m : Module) (s slot : Nat) (bs : Bytes) : Module :=
  match m.session s with
  | none => m
  | some x => m.transmit s (.completion s slot ((x.resultAddr + slot * x.slotBytes) % 2 ^ 64) bs) bs.length bs.length 20

/-- Send Store read data by RDMA WRITE (15 R425). -/
def Module.rdmaWrite (m : Module) (s addr rkey : Nat) (bs : Bytes) : Module :=
  m.transmit s (.rdmaWrite s addr rkey bs) 0 bs.length 16

/-- Issue an RDMA READ of host memory (13 Table 13-1). -/
def Module.rdmaRead (m : Module) (s addr rkey len : Nat) : Module := m.transmit s (.rdmaRead s addr rkey len) 0 0 16

/-- Send a NAK on a session, which enters ERROR unless the NAK asks for a sequence retry (13 R371, R379). -/
def Module.nak (m : Module) (s psn code : Nat) : Module :=
  match m.session s with
  | none => m
  | some x =>
    let m := ((m.countTx x 0 4).portCount x.port 10 1).emit x.port (some s) true (.nak s psn code) 44
    if code = 0 then m else m.sessionError s

end Sys2Proof.Machine
end

