-- ==== Sys2Proof/Machine/Link.lean ====
section
/-! DEFINITION. Cells and links (14 R389 to R398): the cell's form, sending with credits and replay, receiving in
sequence, the flooded link graph and its routes. -/

namespace Sys2Proof.Machine

/-! ## Cells (14 Tables 14-2 and 14-3) -/

/-- The header of a cell, 96 bits. -/
def cellHead (c : Bytes) : Nat := leAt c 0 12
/-- DST. -/
def cellDst (c : Bytes) : Nat := fld (cellHead c) 95 88
/-- SRC. -/
def cellSrc (c : Bytes) : Nat := fld (cellHead c) 87 80
/-- TYPE. -/
def cellTyp (c : Bytes) : Nat := fld (cellHead c) 79 74
/-- CLASS. -/
def cellCls (c : Bytes) : Nat := fld (cellHead c) 73 72
/-- SEQ. -/
def cellSeq (c : Bytes) : Nat := fld (cellHead c) 71 60
/-- ACK. -/
def cellAck (c : Bytes) : Nat := fld (cellHead c) 59 48
/-- ARG. -/
def cellArg (c : Bytes) : Nat := fld (cellHead c) 47 0
/-- The payload, 256 bytes. -/
def cellPay (c : Bytes) : Bytes := sub c 12 256

/-- Class of a type: 0 REQ, 1 RSP, 2 WR, 3 SYS (14 Table 14-3). -/
def typeClass (t : Nat) : Nat :=
  if t = 6 ∨ t = 10 then 0 else if t = 7 ∨ t = 11 then 1 else if t = 8 ∨ t = 9 ∨ (12 ≤ t ∧ t ≤ 19) then 2 else 3

/-- A type that is sequenced: every one but IDLE and LINK (14 R393). -/
def sequencedType (t : Nat) : Bool := decide (2 ≤ t)

/-- A cell with its CRC (14 R392). -/
def mkCell (dst src typ seq ack arg : Nat) (pay : Bytes) : Bytes :=
  let h := toLe 12 (put arg 48 0 + put ack 12 48 + put seq 12 60 + put (if typ = 0 then 0 else typeClass typ) 2 72
    + put typ 6 74 + put src 8 80 + put dst 8 88)
  let b := h ++ fit pay 256
  b ++ toLe 4 (crc32c b)

/-- The CRC of a cell holds (14 R392). -/
def cellCrcOk (c : Bytes) : Bool := c.length == 272 && leAt c 268 4 == crc32c (c.take 268)

/-- The cell with new SEQ and ACK. -/
def cellStamp (c : Bytes) (seq ack : Nat) : Bytes := mkCell (cellDst c) (cellSrc c) (cellTyp c) seq ack (cellArg c) (cellPay c)

/-- Pieces of 256 bytes, at least one. -/
def cellPieces (bs : Bytes) : List Bytes := if bs.isEmpty then [[]] else chunks 256 bs

/-! ## The link graph and its routes (14 R396, R397) -/

/-- Adjacency of a device from the states that govern. -/
def Cascade.adjOf (c : Cascade) (d : Nat) : List (Nat × Nat × Nat) := match mGet c.known d with
  | some n => n.adj
  | none => []

/-- The UP links of a device that both ends show: local port and neighbour, in ascending local port (log 33). -/
def Cascade.linksOf (c : Cascade) (d : Nat) : List (Nat × Nat) :=
  sortBy (fun a b => decide (a.1 ≤ b.1))
    (((c.adjOf d).filter (fun e => (c.adjOf e.2.1).any (fun f => f.1 == e.2.2 && f.2.1 == d && f.2.2 == e.1))).map (fun e => (e.1, e.2.1)))

/-- Neighbours of a device. -/
def Cascade.neighbours (c : Cascade) (d : Nat) : List Nat := dedup ((c.linksOf d).map (·.2))

/-- Hop distances by breadth-first levels. -/
def bfsLevels (nb : Nat → List Nat) : Nat → Nat → List Nat → List (Nat × Nat) → List (Nat × Nat)
  | 0, _, _, seen => seen
  | k + 1, d, frontier, seen =>
    let next := (dedup ((frontier.map nb).flatten)).filter (fun v => !(seen.any (fun p => p.1 == v)))
    if next.isEmpty then seen else bfsLevels nb k (d + 1) next (seen ++ next.map (fun v => (v, d + 1)))

/-- Hop distances from a root. -/
def Cascade.dists (c : Cascade) (r : Nat) : List (Nat × Nat) := bfsLevels c.neighbours 256 0 [r] [(r, 0)]

/-- The parent of a device in T(r): its least neighbour one hop nearer to r (14 R397). -/
def Cascade.parent (c : Cascade) (r v : Nat) : Option Nat :=
  let ds := c.dists r
  let dist (x : Nat) := (ds.find? (fun p => p.1 == x)).map (·.2)
  match dist v with
  | none => none
  | some 0 => none
  | some (n + 1) => (((c.neighbours v).filter (fun w => dist w == some n)).foldl
      (fun (b : Option Nat) w => match b with
        | none => some w
        | some x => some (min x w)) none)

/-- Children of a device in T(r). -/
def Cascade.children (c : Cascade) (r v : Nat) : List Nat := (c.neighbours v).filter (fun w => c.parent r w == some v)

/-- Devices of the subtree of T(r) at a device. -/
def Cascade.subtree (c : Cascade) (r : Nat) : Nat → Nat → List Nat
  | 0, v => [v]
  | k + 1, v => v :: ((c.children r v).map (c.subtree r k)).flatten

/-- The port among parallel links to a neighbour (14 R397). -/
def Cascade.portTo (c : Cascade) (self src dst next : Nat) : Option Nat :=
  let ls := (c.linksOf self).filter (fun e => e.2 == next)
  if ls.isEmpty then none else (ls[(src + dst) % ls.length]?).map (·.1)

/-- Next-hop port of a unicast cell (14 R397). -/
def Cascade.route (c : Cascade) (self src dst : Nat) : Option Nat :=
  match c.parent dst self with
  | none => none
  | some w => c.portTo self src dst w

/-- Device d is in cascade frames, by the states that govern. -/
def Cascade.member (c : Cascade) (d : Nat) : Bool := match mGet c.known d with
  | some n => n.inCascade
  | none => false

/-- Device d is reachable from a device. -/
def Cascade.reachable (c : Cascade) (self d : Nat) : Bool := self == d || (c.parent d self).isSome

/-! ## Sending (14 R393, R394) -/

/-- Does a cascade-port injector find a cell eligible (14 Table 14-9)? -/
def cellEligible (c : Bytes) (rec : Nat) : Bool :=
  match fld rec 13 12 with
  | 0 => true
  | 1 => sequencedType (cellTyp c)
  | 2 => cellTyp c == fld rec 127 120
  | _ => cellDst c == fld rec 127 120

/-- A cell after the injectors' bit flips: each flips a bit modulo 2,144; a stale flip leaves the CRC (14 R418). -/
def cellFlip (c : Bytes) (offs : List Nat) (stale : Bool) : Bytes :=
  let b := offs.foldl (fun (b : Bytes) o => flipBit b (o % 2144)) c
  if stale then b else b.take 268 ++ toLe 4 (crc32c (b.take 268))

/-- A cell goes to the SerDes through the transmit injectors of its port (14 R418). -/
def Module.cellToWire (m : Module) (p : Nat) (c : Bytes) : Module :=
  let r := m.inject true p true (cellEligible c)
  let m := r.1.linkCount p 0 1
  let c' := if r.2.flips.isEmpty then c else cellFlip c r.2.flips r.2.stale
  let m := match r.2.hold with
    | some k => m.onInjector k (fun x => { x with held := some (c', 0) })
    | none => if r.2.drop then m else m.send (.cell p c')
  r.2.release.foldl (fun (m : Module) k => match (mGetD m.ports.inject k {}).held with
    | some (h, _) => (m.send (.cell p h)).onInjector k (fun x => { x with held := none })
    | none => m) m

/-- Give a sequenced cell its SEQ, a place in the replay buffer and a credit, and send it (14 R393, R394). -/
def Module.sendSequenced (m : Module) (p : Nat) (c : Bytes) : Module :=
  let l := m.linkPort p
  let c := cellStamp c l.txSeq l.rxNext
  let cls := cellCls c
  let m := m.onLink p (fun l => { l with
    txSeq := (l.txSeq + 1) % 4096, replay := l.replay ++ [(l.txSeq, c, m.clock.now, 0)]
    credits := mPut l.credits cls (mGetD l.credits cls 0 - 1) })
  m.cellToWire p c

/-- May a waiting cell go: a credit of its class and room in the replay buffer? -/
def LinkPort.maySend (l : LinkPort) (c : Bytes) : Bool :=
  decide (l.replay.length < 1024) && decide (0 < mGetD l.credits (cellCls c) 0)

/-- Send the waiting cells that may go; a class without credits waits while the others continue (14 R394). -/
def Module.drainWaiting (m : Module) (p : Nat) : Module :=
  let ws := (m.linkPort p).waiting
  ws.foldl (fun (m : Module) c =>
    let l := m.linkPort p
    if l.maySend c && !(l.waiting.takeWhile (fun x => x != c)).any (fun x => cellCls x == cellCls c) then
      (m.onLink p (fun l => { l with waiting := l.waiting.erase c })).sendSequenced p c
    else m) m

/-- Send a cell on a port, or drop it as a route drop where the link is not UP (14 R393, R394, R398). -/
def Module.sendCell (m : Module) (p : Nat) (c : Bytes) : Module :=
  let l := m.linkPort p
  if l.state ≠ 3 then m.linkCount p 9 1
  else if l.waiting.any (fun x => cellCls x == cellCls c) || !l.maySend c then
    m.onLink p (fun l => { l with waiting := l.waiting ++ [c] })
  else m.sendSequenced p c

/-- Payload of a LINK cell (14 Table 14-3). -/
def Module.linkPayload (m : Module) (p : Nat) (naks : List Nat) (swap : Nat) : Bytes :=
  let l := m.linkPort p
  toLe 1 m.device ++ toLe 1 p ++ zeros 2 ++ toLe 4 (m.cfg 0x4200 0x02) ++ toLe 8 m.boot.serial ++ zeros 16
  ++ ((List.range 4).map (fun c => toLe 4 (mGetD l.owed c 0))).flatten ++ toLe 4 naks.length
  ++ fit ((naks.map (toLe 4)).flatten) 128 ++ toLe 4 swap

/-- Send a LINK cell with the credits owed (14 R394). -/
def Module.sendLink (m : Module) (p : Nat) (naks : List Nat) (swap : Nat) : Module :=
  let l := m.linkPort p
  let c := mkCell l.neighDev m.device 1 0 l.rxNext 0 (m.linkPayload p naks swap)
  (m.onLink p (fun l => { l with owed := [] })).cellToWire p c

/-- UP ports in ascending order. -/
def Module.upPorts (m : Module) : List Nat := (List.range 12).filter (fun p => (m.linkPort p).state == 3)

/-- Send a unicast cell of this module (14 R397); an unreachable destination gives false. -/
def Module.sendTo (m : Module) (dst typ arg : Nat) (pay : Bytes) : Module × Bool :=
  match m.cascade.route m.device m.device dst with
  | none => (m, false)
  | some p => (m.sendCell p (mkCell dst m.device typ 0 0 arg pay), true)

/-- Forward a unicast cell on its way (14 R397). -/
def Module.forward (m : Module) (c : Bytes) : Module :=
  if m.cascade.conflicts.any (fun x => x.1 == cellDst c) then m
  else match m.cascade.route m.device (cellSrc c) (cellDst c) with
    | none => m
    | some p => m.sendCell p c

/-- Send a cell down T(root) to the children that lead to an addressed receiver (14 R397, log 33). -/
def Module.sendDown (m : Module) (root typ arg : Nat) (pay : Bytes) (wanted : Nat → Bool) : Module :=
  ((m.cascade.children root m.device).filter (fun v => (m.cascade.subtree root 256 v).any wanted)).foldl
    (fun (m : Module) v => match m.cascade.portTo m.device root v v with
      | some p => m.sendCell p (mkCell v root typ 0 0 arg pay)
      | none => m) m

/-! ## Receiving in sequence (14 R393) -/

/-- Drop what an ACK covers from the replay buffer (14 R393). -/
def Module.takeAck (m : Module) (p ack : Nat) : Module :=
  let l := m.linkPort p
  let out := (ack + 4096 - (match l.replay with
    | (s, _) :: _ => s
    | [] => l.txSeq)) % 4096
  let m := if out ≤ l.replay.length then m.onLink p (fun l => { l with replay := l.replay.drop out }) else m
  m.drainWaiting p

/-- Cells of the window that are next in order. -/
def windowTake : Nat → Nat → List (Nat × Bytes) → List Bytes × Nat × List (Nat × Bytes)
  | 0, next, w => ([], next, w)
  | k + 1, next, w =>
    match w.find? (fun x => x.1 == next) with
    | none => ([], next, w)
    | some x =>
      let r := windowTake k ((next + 1) % 4096) (w.filter (fun y => y.1 != next))
      (x.2 :: r.1, r.2)

/-- The missing SEQs before the last cell of a window. -/
def missingSeqs (next : Nat) (w : List (Nat × Bytes)) : List Nat :=
  let top := listMax (w.map (fun x => (x.1 + 4096 - next) % 4096))
  (((List.range top).map (fun i => (next + i) % 4096)).filter (fun s => !(w.any (fun x => x.1 == s)))).take 32

/-- Ask for the missing cells in a LINK cell (14 R393). -/
def Module.sendNaks (m : Module) (p : Nat) : Module :=
  let l := m.linkPort p
  let miss := missingSeqs l.rxNext l.window
  if miss.isEmpty then m else (m.linkCount p 4 miss.length).sendLink p miss 0

/-- A sequenced cell arrives: the cells it lets the port deliver, in SEQ order (14 R393). -/
def Module.rxSequenced (m : Module) (p : Nat) (c : Bytes) : Module × List Bytes :=
  let l := m.linkPort p
  let s := cellSeq c
  let d := (s + 4096 - l.rxNext) % 4096
  if 1023 < d ∨ (0 < d ∧ l.window.any (fun x => x.1 == s)) then (m.linkCount p 6 1, [])
  else
    let w := windowTake 1024 l.rxNext ((s, c) :: l.window)
    let wasGap := l.gapSince
    let gap := if w.2.2.isEmpty then none else if w.1.isEmpty then (if wasGap.isSome then wasGap else some m.clock.now) else some m.clock.now
    let m := m.onLink p (fun l => { l with rxNext := w.2.1, window := w.2.2, gapSince := gap
                                           owed := w.1.foldl (fun o x => mAdd o (cellCls x) 1) l.owed })
    let m := if w.1.isEmpty ∧ 64 ≤ w.2.2.length then m.sendNaks p else m
    (m, w.1)

/-- Retransmit cells of the replay buffer that a test picks; past RETRY_LIMIT the answer is false (14 R393). -/
def Module.retransmit (m : Module) (p : Nat) (pick : Nat × Bytes × Nat × Nat → Bool) : Module × Bool :=
  let l := m.linkPort p
  let due := l.replay.filter pick
  if due.any (fun e => decide (m.cfg 0x4200 0x16 ≤ e.2.2.2)) then (m, false)
  else
    let now := m.clock.now
    let m := m.onLink p (fun l => { l with replay := l.replay.map (fun e => if pick e then (e.1, e.2.1, now, e.2.2.2 + 1) else e) })
    (due.foldl (fun (m : Module) e => (m.linkCount p 3 1).cellToWire p (cellStamp e.2.1 e.1 (m.linkPort p).rxNext)) m, true)

/-! ## Link states and flooded states (14 R391, R396) -/

/-- The first condition of taking part in cascade frames that fails: 1 CONFIG, 2 DEVICE_CONFLICT, 3 NO_MASTER, 4 TIME,
5 BEACON, 6 HOPS; 0 when all hold (14 R399, R400). -/
def Module.frameReason (m : Module) : Nat :=
  if !m.inCascadeConfig then 1
  else if m.cascade.conflicts.any (fun x => x.1 == m.device) then 2
  else if m.device != 0 && !(m.cascade.reachable m.device 0 && m.cascade.member 0) then 3
  else if m.clock.timeState != 2 then 4
  else if m.device != 0 && !m.cascade.beaconOk then 5
  else if m.device != 0 && m.cfg 0x1100 0x07 == 1 && decide (8 < m.cascade.hops) then 6
  else 0

/-- CASCADE_STATE and OUT_REASON that follow: 0 STANDALONE, 1 JOINING, 2 IN_CASCADE, 3 OUT (14 R399). -/
def Module.frameState (m : Module) : Nat × Nat :=
  let r := m.frameReason
  (if r = 1 then 0 else if r = 0 then 2 else if m.cascade.state ≤ 1 then 1 else 3, r)

/-- This module's adjacency over its UP links. -/
def Module.adjacency (m : Module) : List (Nat × Nat × Nat) :=
  m.upPorts.map (fun p => (p, (m.linkPort p).neighDev, (m.linkPort p).neighPort))

/-- The module takes part in cascade frames (14 R399). -/
def Module.inFrames (m : Module) : Bool := m.cascade.state == 2

/-- Payload of a STATE cell of this module (14 Table 14-3). -/
def Module.statePayload (m : Module) (effect : Nat) : Bytes :=
  toLe 1 m.device ++ toLe 1 (b2n m.inFrames) ++ zeros 2 ++ toLe 8 m.boot.serial ++ toLe 8 effect
  ++ ((List.range 12).map (fun p =>
    let l := m.linkPort p
    if l.state = 3 then toLe 1 p ++ toLe 1 l.neighDev ++ toLe 1 l.neighPort ++ toLe 1 1 else toLe 1 p ++ zeros 3)).flatten

/-- Originate a STATE cell: flood it and hold it as this module's own state; before the first tick it governs at once
(14 R396, log 47). -/
def Module.originate (m : Module) : Module :=
  let v := (m.cascade.version + 1) % 2 ^ 32
  let effect := m.clock.sfc + 2
  let pay := m.statePayload effect
  let node : NodeState := { version := v, serial := m.boot.serial, inCascade := m.inFrames, effect := effect, adj := m.adjacency }
  let m := { m with cascade := { m.cascade with
    version := v, stateSent := m.clock.now, nodes := mPut m.cascade.nodes m.device node
    known := if m.clock.ticked then m.cascade.known else mPut m.cascade.known m.device node
    coming := if m.clock.ticked then m.cascade.coming ++ [(m.device, node)] else m.cascade.coming } }
  m.upPorts.foldl (fun (m : Module) p => m.sendCell p (mkCell (m.linkPort p).neighDev m.device 4 0 0 v pay)) m

/-- A link enters a state (14 R391). -/
def Module.setLink (m : Module) (p st : Nat) : Module :=
  let old := (m.linkPort p).state
  if old = st then m
  else
    let m := m.onLink p (fun l => { l with state := st, since := m.clock.now })
    let m := m.event 0x000A 1 (put st 3 8 + put p 4 0)
    let m := if st = 5 then (m.linkCount p 11 1).onLink p (fun l => { l with replay := [], waiting := [] }) else m
    let m := if st = 3 then m.onLink p (fun l => { l with
        txSeq := 0, rxNext := 0, replay := [], window := [], gapSince := none, waiting := [], owed := []
        credits := [(0, 256), (1, 256), (2, 256), (3, 256)] }) else m
    if (st = 3) ≠ (old = 3) then m.originate else m

/-- Does a link that exchanges LINK cells come UP, or stay in MISMATCH (14 R391)? -/
def Module.linkVerdict (m : Module) (l : LinkPort) : Nat :=
  let c := m.cfg 0x4200 0x02
  if c = 0 ∨ l.neighCascade = 0 ∨ c ≠ l.neighCascade ∨ m.device = l.neighDev then 4 else 3

end Sys2Proof.Machine
end

