-- ==== Sys2Proof/Machine/Num.lean ====
section
/-! DEFINITION. The number formats of 07 Table 07-1 bit by bit, rounding to nearest with ties away from zero
(00 R8, 07 R192), the exact square root, exp2 and SiLU (07 R218), and the Vat's integers (07 R205, R206).
Exact values are rationals; a bit pattern is a number. -/

namespace Sys2Proof.Machine

/-- A floating-point format: exponent width, fraction width, bias, and whether it has infinities and NaNs of the
IEEE 754 kind (FP8-E4M3 has none, its one NaN apart). -/
structure Fmt where
  eBits : Nat
  fBits : Nat
  bias : Nat
  ieee : Bool
  deriving DecidableEq, Repr

/-- FP32 (07 Table 07-1). -/
def fp32 : Fmt := ⟨8, 23, 127, true⟩
/-- BF16 (07 Table 07-1). -/
def bf16 : Fmt := ⟨8, 7, 127, true⟩
/-- FP8-E4M3 (07 Table 07-1). -/
def e4m3 : Fmt := ⟨4, 3, 7, false⟩
/-- FP8-E5M2 (07 Table 07-1). -/
def e5m2 : Fmt := ⟨5, 2, 15, true⟩

/-- Sign bit. -/
def Fmt.sign (f : Fmt) (x : Nat) : Bool := x.testBit (f.eBits + f.fBits)
/-- The encoding without its sign. -/
def Fmt.mag (f : Fmt) (x : Nat) : Nat := x % 2 ^ (f.eBits + f.fBits)
/-- Exponent field. -/
def Fmt.expo (f : Fmt) (x : Nat) : Nat := f.mag x / 2 ^ f.fBits
/-- Fraction field. -/
def Fmt.frac (f : Fmt) (x : Nat) : Nat := x % 2 ^ f.fBits
/-- Encoding of +infinity. -/
def Fmt.infBits (f : Fmt) : Nat := (2 ^ f.eBits - 1) * 2 ^ f.fBits
/-- The encoding is an infinity. -/
def Fmt.isInf (f : Fmt) (x : Nat) : Bool := f.ieee && f.mag x == f.infBits
/-- The encoding is a NaN. -/
def Fmt.isNaN (f : Fmt) (x : Nat) : Bool :=
  if f.ieee then decide (f.infBits < f.mag x) else f.mag x == 2 ^ (f.eBits + f.fBits) - 1
/-- The encoding is a finite value. -/
def Fmt.isFin (f : Fmt) (x : Nat) : Bool := !f.isInf x && !f.isNaN x

/-- 2 ^ e for any integer e. -/
def pow2 (e : Int) : Rat := if 0 ≤ e then ((2 ^ e.toNat : Nat) : Rat) else mkRat 1 (2 ^ (-e).toNat)

/-- The value of a finite encoding (07 R190). -/
def Fmt.val (f : Fmt) (x : Nat) : Rat :=
  let e := f.expo x
  let m := if e = 0 then f.frac x else f.frac x + 2 ^ f.fBits
  let q : Int := ((if e = 0 then 1 else e : Nat) : Int) - f.bias - f.fBits
  let v := (m : Rat) * pow2 q
  if f.sign x then -v else v

/-- An integer nearest to n / d, ties away from zero, for n not negative. -/
def roundDiv (n d : Nat) : Nat := (2 * n + d) / (2 * d)

/-- The integer nearest to a rational, ties away from zero (00 R8). -/
def roundInt (x : Rat) : Int :=
  let m := (roundDiv x.num.natAbs x.den : Int)
  if x.num < 0 then -m else m

/-- floor of the base-2 logarithm of n / d, both positive. -/
def ratLog2 (n d : Nat) : Int :=
  let e : Int := (n.log2 : Int) - d.log2
  let ge := if 0 ≤ e then decide (d * 2 ^ e.toNat ≤ n) else decide (d ≤ n * 2 ^ (-e).toNat)
  if ge then e else e - 1

/-- The exponent of the last place of a format around a magnitude n / d. -/
def Fmt.quantum (f : Fmt) (n d : Nat) : Int := max (ratLog2 n d - f.fBits) (1 - (f.bias : Int) - f.fBits)

/-- n / d in units of 2 ^ q, to nearest, ties away. -/
def scaleRound (n d : Nat) (q : Int) : Nat := if 0 ≤ q then roundDiv n (d * 2 ^ q.toNat) else roundDiv (n * 2 ^ (-q).toNat) d

/-- Magnitude bits of a format from a count m of units 2 ^ q; past the top, infinity (07 R192). -/
def Fmt.packMag (f : Fmt) (m : Nat) (q : Int) : Nat :=
  min ((q - (1 - (f.bias : Int) - f.fBits)).toNat * 2 ^ f.fBits + m) f.infBits

/-- A magnitude with a sign. -/
def Fmt.withSign (f : Fmt) (neg : Bool) (mag : Nat) : Nat := if neg then mag + 2 ^ (f.eBits + f.fBits) else mag

/-- The single rounding of an exact value to an IEEE format (00 R8, 07 R192); an exact 0 gives +0. -/
def Fmt.round (f : Fmt) (x : Rat) : Nat :=
  if x.num = 0 then 0
  else
    let n := x.num.natAbs
    let q := f.quantum n x.den
    f.withSign (decide (x.num < 0)) (f.packMag (scaleRound n x.den q) q)

/-- The single rounding of an exact value to FP32. -/
def round32 (x : Rat) : Nat := fp32.round x
/-- The single rounding of an exact value to BF16. -/
def round16 (x : Rat) : Nat := bf16.round x

/-- The canonical FP32 NaN (07 R191). -/
def nan32 : Nat := 0x7FC00000
/-- The canonical BF16 NaN (07 R191). -/
def nan16 : Nat := 0x7FC0
/-- FP32 +infinity. -/
def inf32 : Nat := 0x7F800000
/-- FP32 -infinity. -/
def ninf32 : Nat := 0xFF800000

/-- A BF16 pattern widened exactly to FP32. -/
def widen16 (x : Nat) : Nat := if bf16.isNaN x then nan32 else (x % 65536) * 65536

/-- An FP32 value rounded once to BF16 (07 R219). -/
def narrow32 (x : Nat) : Nat :=
  if fp32.isNaN x then nan16
  else if fp32.isInf x then (if fp32.sign x then 0xFF80 else 0x7F80)
  else bf16.withSign (fp32.sign x) (bf16.mag (round16 (fp32.val x)))

/-- round √x to a format, x not negative, ties away: floor(√X + 1/2) = floor((floor √(4X) + 1) / 2). -/
def Fmt.roundSqrt (f : Fmt) (x : Rat) : Nat :=
  if x.num ≤ 0 then 0
  else
    let n := x.num.natAbs
    let d := x.den
    let e := ratLog2 n d
    let q : Int := max (e / 2 - f.fBits) (1 - (f.bias : Int) - f.fBits)
    let s := 4 * (if 0 ≤ q then n / (d * 4 ^ q.toNat) else 0)
    let y := if 0 ≤ q then (4 * n) / (d * 4 ^ q.toNat) else (4 * n * 4 ^ (-q).toNat) / d
    f.packMag ((isqrt (max y s) + 1) / 2) q

/-- FP32 addition with one rounding and IEEE 754 rules for zeros, infinities and NaN (00 R8). -/
def add32 (a b : Nat) : Nat :=
  if fp32.isNaN a || fp32.isNaN b then nan32
  else if fp32.isInf a then (if fp32.isInf b && fp32.sign a != fp32.sign b then nan32 else fp32.withSign (fp32.sign a) inf32)
  else if fp32.isInf b then fp32.withSign (fp32.sign b) inf32
  else
    let s := fp32.val a + fp32.val b
    if s.num = 0 then (if fp32.sign a && fp32.sign b then 0x80000000 else 0) else round32 s

/-- The sign bit flipped (03 R73). -/
def neg32 (a : Nat) : Nat := nxor (a % 2 ^ 32) 0x80000000

/-- An exact value that may be infinite or NaN; the sign of a zero is kept. -/
inductive XVal where
  /-- a finite value; neg is the sign of a zero. -/
  | fin (v : Rat) (neg : Bool)
  /-- an infinity. -/
  | inf (neg : Bool)
  /-- a NaN. -/
  | nan
  deriving DecidableEq, Repr

/-- The exact value of an encoding. -/
def Fmt.xval (f : Fmt) (x : Nat) : XVal :=
  if f.isNaN x then .nan else if f.isInf x then .inf (f.sign x) else .fin (f.val x) (f.sign x)

/-- The sign of a finite value: of a zero, the sign it carries. -/
def signOf (x : Rat) (s : Bool) : Bool := if x.num = 0 then s else decide (x.num < 0)

/-- A product (07 R195, R196). -/
def XVal.mul (a b : XVal) : XVal :=
  match a, b with
  | .fin x sx, .fin y sy => .fin (x * y) (signOf x sx != signOf y sy)
  | .inf s, .fin y sy => if y.num = 0 then .nan else .inf (s != signOf y sy)
  | .fin x sx, .inf s => if x.num = 0 then .nan else .inf (s != signOf x sx)
  | .inf s, .inf r => .inf (s != r)
  | _, _ => .nan

/-- A sum. -/
def XVal.add (a b : XVal) : XVal :=
  match a, b with
  | .fin x sx, .fin y sy => .fin (x + y) (signOf x sx && signOf y sy)
  | .inf s, .fin _ _ => .inf s
  | .fin _ _, .inf s => .inf s
  | .inf s, .inf r => if s == r then .inf s else .nan
  | _, _ => .nan

/-- One rounding to an IEEE format, with NaN canonical (07 R191). -/
def XVal.round (f : Fmt) (a : XVal) : Nat :=
  match a with
  | .fin v neg => if v.num = 0 then f.withSign neg 0 else
      let r := f.round v
      r
  | .inf neg => f.withSign neg f.infBits
  | .nan => f.infBits + 2 ^ (f.fBits - 1)

/-- The balanced pairwise FP32 sum of 05 R146, one level of it. -/
def treeLevel : List Nat → List Nat
  | a :: b :: r => add32 a b :: treeLevel r
  | [a] => [add32 a 0]
  | [] => []

/-- tree() of 05 R146 with as many levels as needed. -/
def treeAux : Nat → List Nat → Nat
  | 0, l => l.headD 0
  | k + 1, l => match l with
    | [] => 0
    | [a] => a
    | _ => treeAux k (treeLevel l)

/-- tree() of 05 R146: balanced pairwise FP32 sum in fixed order. -/
def tree (l : List Nat) : Nat := treeAux l.length l

/-- Vat units: 2 ^ -149 (07 R205). -/
def vatUnit : Rat := pow2 (-149)

/-- An exact value rounded to a multiple of 2 ^ -149, ties away, in Vat units (07 R200, R214). -/
def toVat (x : Rat) : Int := roundInt (x * pow2 149)

/-- The representable Vat value of an integer: V modulo 2 ^ 320 as two's complement (07 R206). -/
def wrapVat (v : Int) : Int := sgn 320 (unsgn 320 v)

/-- The exact value of a Vat integer. -/
def vatVal (v : Int) : Rat := (v : Rat) * vatUnit

/-- A Vat accumulator: its integer and its state 0 FINITE, 1 POS_INF, 2 NEG_INF, 3 NAN (07 R207). -/
structure Acc where
  v : Int
  st : Nat
  deriving DecidableEq, Repr

/-- An empty accumulator. -/
def Acc.zero : Acc := ⟨0, 0⟩

/-- The state after a non-finite term (07 R207). -/
def vatState (s : Nat) (x : XVal) : Nat :=
  match x with
  | .fin _ _ => s
  | .nan => 3
  | .inf neg =>
    let t := if neg then 2 else 1
    if s = 3 then 3 else if s = 0 then t else if s = t then t else 3

/-- Add a term, rounded to Vat units, to an accumulator (07 R206, R207). -/
def Acc.add (a : Acc) (x : XVal) : Acc :=
  match x with
  | .fin v _ => ⟨wrapVat (a.v + toVat v), a.st⟩
  | y => ⟨a.v, vatState a.st y⟩

/-- The value an accumulator is read as (07 R207). -/
def Acc.xval (a : Acc) : XVal :=
  if a.st = 0 then .fin (vatVal a.v) false else if a.st = 1 then .inf false else if a.st = 2 then .inf true else .nan

/-- The sum of exact terms in an accumulator. -/
def accSum (l : List XVal) : Acc := l.foldl Acc.add Acc.zero

/-- Lower bound, in units of 2 ^ -p, of Σ y^k / k! for y = n / 2 ^ p in [0, 1], by k terms, with the last term. -/
def expSeries (p n : Nat) : Nat → Nat → Nat → Nat → Nat
  | 0, _, _, acc => acc
  | k + 1, i, term, acc =>
    let t := term * n / 2 ^ p / i
    expSeries p n k (i + 1) t (acc + t)

/-- Lower bound of ln 2 in units of 2 ^ -p: Σ 1 / (k 2^k). -/
def ln2Low (p : Nat) : Nat := (List.range p).foldl (fun a k => a + 2 ^ p / ((k + 1) * 2 ^ (k + 1))) 0

/-- Bounds of e ^ y in units of 2 ^ -p for y between lo and hi, in units of 2 ^ -p, both in [0, 1]. -/
def expBounds (p lo hi : Nat) : Nat × Nat :=
  let k := p
  (expSeries p lo k 1 (2 ^ p) (2 ^ p), expSeries p hi k 1 (2 ^ p) (2 ^ p) + 4 * k + 8)

/-- Bounds of 2 ^ f, f = n / d in [0, 1), in units of 2 ^ -p. -/
def exp2Bounds (p n d : Nat) : Nat × Nat :=
  let l := ln2Low p
  let lo := n * l / d
  let hi := min (n * (l + p + 2) / d + 1) (2 ^ p)
  expBounds p lo hi

/-- 2 ^ x rounded once to FP32 at working precision p, growing p until both bounds round alike (07 R218). -/
def exp2Try (int : Int) (n d : Nat) : Nat → Nat → Nat
  | 0, p => round32 (mkRat (exp2Bounds p n d).1 (2 ^ p) * pow2 int)
  | k + 1, p =>
    let b := exp2Bounds p n d
    let lo := round32 (mkRat b.1 (2 ^ p) * pow2 int)
    let hi := round32 (mkRat b.2 (2 ^ p) * pow2 int)
    if lo = hi then lo else exp2Try int n d k (p + 64)

/-- exp2 of 07 Table 07-10 on an FP32 pattern. -/
def exp2F (x : Nat) : Nat :=
  if fp32.isNaN x then nan32
  else if fp32.isInf x then (if fp32.sign x then 0 else inf32)
  else
    let v := fp32.val x
    if 129 ≤ v then inf32 else if v < -200 then 0
    else
      let i := v.floor
      let f := v - i
      if f.num = 0 then round32 (pow2 i) else exp2Try i f.num.natAbs f.den 16 64

/-- Bounds of e ^ -a for a = n / d not negative, as rationals, at precision p: 2 ^ (-a / ln 2). -/
def expNegBounds (p n d : Nat) : Rat × Rat :=
  let l := ln2Low p
  let ilo := n * 2 ^ p / (d * (l + p + 2))
  -- a = i ln 2 + r with i taken from the upper bound of ln 2, so r is not negative
  let i := ilo
  let rlo := (n * 2 ^ p / d) - i * (l + p + 2)
  let rhi := (n * 2 ^ p / d + 1) - i * l
  let b := expBounds p (min rlo (2 ^ p)) (min rhi (2 ^ p))
  (mkRat (2 ^ p) b.2 * pow2 (-(i : Int)), mkRat (2 ^ p) b.1 * pow2 (-(i : Int)))

/-- SiLU at working precision p, growing until both bounds round alike. -/
def siluTry (v : Rat) : Nat → Nat → Nat
  | 0, p =>
    let b := expNegBounds p v.num.natAbs v.den
    round32 (if 0 ≤ v.num then v / (1 + b.1) else v * b.1 / (1 + b.1))
  | k + 1, p =>
    let b := expNegBounds p v.num.natAbs v.den
    let g (e : Rat) : Nat := round32 (if 0 ≤ v.num then v / (1 + e) else v * e / (1 + e))
    if g b.1 = g b.2 then g b.1 else siluTry v k (p + 64)

/-- SiLU of 07 Table 07-10 on an FP32 pattern: x ÷ (1 + e^−x). -/
def siluF (x : Nat) : Nat :=
  if fp32.isNaN x then nan32
  else if fp32.isInf x then (if fp32.sign x then 0 else inf32)
  else
    let v := fp32.val x
    if v.num = 0 then 0 else
    -- below −200 the magnitude is under half the least subnormal
    if v < -200 then 0x80000000 else siluTry v 16 64

/-- GELU of 07 Table 07-10 on an FP32 pattern. -/
def geluF (x : Nat) : Nat :=
  if fp32.isNaN x then nan32
  else if fp32.isInf x then (if fp32.sign x then 0 else inf32)
  else
    let v := fp32.val x
    if v ≤ -2 then 0 else if 2 ≤ v then x
    else round32 (v / 2 + mkRat 3 8 * v * v - mkRat 1 32 * (v * v * v * v))

/-- ReLU of 07 Table 07-10 on an FP32 pattern. -/
def reluF (x : Nat) : Nat :=
  if fp32.isNaN x then nan32 else if fp32.sign x || fp32.mag x = 0 then 0 else x

/-- The activation that ACT selects (07 R218). -/
def activate (act x : Nat) : Nat :=
  match act with
  | 0 => if fp32.isNaN x then nan32 else x
  | 1 => reluF x
  | 2 => geluF x
  | 3 => siluF x
  | _ => exp2F x

/-- qmax of a narrow OUT_FMT (07 R192): 2 INT4, 3 INT8, 4 FP8-E4M3, 5 FP8-E5M2. -/
def qmaxOf (fmt : Nat) : Rat := if fmt = 2 then 7 else if fmt = 3 then 127 else if fmt = 4 then 448 else 57344

/-- A value rounded to a narrow format's grid extended without bound (07 R192): the rounded value. -/
def roundGrid (fmt : Nat) (x : Rat) : Rat :=
  if fmt = 2 ∨ fmt = 3 then (roundInt x : Rat)
  else if x.num = 0 then 0
  else
    let f := if fmt = 4 then e4m3 else e5m2
    let n := x.num.natAbs
    let top : Int := if fmt = 4 then 5 else 13
    let q := min (f.quantum n x.den) top
    let v := (scaleRound n x.den q : Rat) * pow2 q
    if x.num < 0 then -v else v

/-- The code of a value on a narrow format's grid, within ±qmax. -/
def gridCode (fmt : Nat) (v : Rat) : Nat :=
  if fmt = 2 then unsgn 4 (roundInt v) else if fmt = 3 then unsgn 8 (roundInt v)
  else
    let f := if fmt = 4 then e4m3 else e5m2
    if v.num = 0 then 0 else
    let n := v.num.natAbs
    let q := f.quantum n v.den
    f.withSign (decide (v.num < 0)) ((q - (1 - (f.bias : Int) - f.fBits)).toNat * 2 ^ f.fBits + scaleRound n v.den q)

/-- The value of a stationary code (07 Table 07-2): 0 INT4, 1 INT8, 2 FP8-E4M3, 3 FP8-E5M2, 4 BF16, 5 FP32. -/
def codeX (fmt code : Nat) : XVal :=
  match fmt with
  | 0 => .fin (sgn 4 code : Rat) false
  | 1 => .fin (sgn 8 code : Rat) false
  | 2 => e4m3.xval (code % 256)
  | 3 => e5m2.xval (code % 256)
  | 4 => bf16.xval (code % 65536)
  | _ => fp32.xval (code % 2 ^ 32)

/-- Is a code the escape pattern of its format (03 Table 03-1)? -/
def isEscape (fmt code : Nat) : Bool := if fmt = 0 then code == 8 else decide (fmt ≤ 3) && code == 0x80

/-- Code c of a packed row (03 Table 03-1; 2 and 4 bytes for BF16 and FP32). -/
def codeAt (fmt : Nat) (bs : Bytes) (c : Nat) : Nat :=
  match fmt with
  | 0 => (if c % 2 = 0 then leAt bs (c / 2) 1 % 16 else leAt bs (c / 2) 1 / 16)
  | 4 => leAt bs (2 * c) 2
  | 5 => leAt bs (4 * c) 4
  | _ => leAt bs c 1

/-- Bytes of n codes. -/
def codeBytes (fmt n : Nat) : Nat := if fmt = 0 then n / 2 else if fmt = 4 then 2 * n else if fmt = 5 then 4 * n else n

/-- All codes of a packed row. -/
def codesOf (fmt : Nat) (bs : Bytes) (n : Nat) : List Nat := (List.range n).map (codeAt fmt bs)

/-- Two INT4 codes to the byte. -/
def packNibbles : List Nat → Bytes
  | a :: b :: r => BitVec.ofNat 8 (a % 16 + 16 * (b % 16)) :: packNibbles r
  | [a] => [BitVec.ofNat 8 (a % 16)]
  | [] => []

/-- Codes packed as 03 Table 03-1 gives. -/
def packCodes (fmt : Nat) (cs : List Nat) : Bytes :=
  if fmt = 0 then packNibbles cs else (cs.map (toLe (if fmt = 4 then 2 else if fmt = 5 then 4 else 1))).flatten

/-- The score key of 03 R74: a lower key is a better candidate. -/
def scoreKey (u : Nat) : Nat :=
  if fp32.isNaN u then 0xFFFFFFFF
  else
    let u := if u = 0x80000000 then 0 else u
    if u.testBit 31 then 0xFFFFFFFF - u else u + 0x80000000

end Sys2Proof.Machine
end

