-- ==== Sys2Proof/Machine/Place.lean ====
section
/-! DEFINITION. Where logical tiles lie (01 R21, 12 R342, 18 R502): the physical place d × 272 + r × 17 + c. -/

namespace Sys2Proof.Machine

/-- The place of a logical tile at manufacture (01 R21). -/
def homePlace (t : Nat) : Nat := (t / 256) * 272 + (t % 256 / 16) * 17 + t % 16

/-- A place as d × 1,024 + r × 32 + c (12 R342). -/
def placeCode (p : Nat) : Nat := (p / 272) * 1024 + (p % 272 / 17) * 32 + p % 17

/-- The place of a logical tile in force (01 R21). -/
def Module.placeOf (m : Module) (t : Nat) : Nat := mGetD m.health.map t (homePlace t)

/-- The logical tile at a place. -/
def Module.logicalAt (m : Module) (p : Nat) : Option Nat := (List.range 512).find? (fun t => m.placeOf t == p)

/-- The place is a spare position of column 16. -/
def spareCol (p : Nat) : Bool := p % 17 == 16

/-- Physical row of a place. -/
def placeRow (p : Nat) : Nat := p % 272 / 17

/-- A spare place may stand in for a logical tile (01 R21). -/
def mayStandIn (p t : Nat) : Bool :=
  spareCol p && p / 272 == t / 256 && (if t / 256 = 0 then true else if 256 ≤ t ∧ t < 272 then placeRow p == 0 else placeRow p != 0)

/-- Idle, usable spares that may stand in for a logical tile, those that a pending cut-over will take apart. -/
def Module.idleSpares (m : Module) (t : Nat) : List Nat :=
  let taken := ((m.schedule ++ m.health.waiting).filter (fun a => a.kind == 4 && a.part / 2 ^ 48 == 0)).map (fun a => a.part % 2 ^ 16)
  (List.range 544).filter (fun p => mayStandIn p t && (m.logicalAt p).isNone && !m.health.failed.contains p && !taken.contains p)

/-- The spare that a tile cut-over takes: the tile's own physical row first, else the lowest row (18 R500). -/
def Module.chooseSpare (m : Module) (t : Nat) : Option Nat :=
  let l := m.idleSpares t
  match l.find? (fun p => placeRow p == placeRow (m.placeOf t)) with
  | some p => some p
  | none => l.head?

/-- Places from a starting place on, in ascending physical order around the module, until n logical tiles are met;
failed places are skipped (18 R502). Answers the logical tiles met and the next place. -/
def Module.bistFrom (m : Module) : Nat → Nat → Nat → List Nat × Nat
  | 0, p, _ => ([], p)
  | k + 1, p, n =>
    if n = 0 then ([], p)
    else if m.health.failed.contains p then m.bistFrom k ((p + 1) % 544) n
    else match m.logicalAt p with
      | none => m.bistFrom k ((p + 1) % 544) n
      | some t =>
        let r := m.bistFrom k ((p + 1) % 544) (n - 1)
        (t :: r.1, r.2)

/-- The idle spares that the rotation passes on the way: they are tested too, at no budget cost (18 R502). -/
def Module.bistSpares (m : Module) : Nat → Nat → Nat → List Nat
  | 0, _, _ => []
  | k + 1, p, n =>
    if n = 0 then []
    else if m.health.failed.contains p then m.bistSpares k ((p + 1) % 544) n
    else if (m.logicalAt p).isSome then m.bistSpares k ((p + 1) % 544) (n - 1)
    else p :: m.bistSpares k ((p + 1) % 544) n

/-- The place at which the self-tests of the k-th frame after the current one begin. -/
def Module.bistStart (m : Module) : Nat → Nat
  | 0 => m.health.bist
  | k + 1 => (m.bistFrom 544 (m.bistStart k) (m.cfg 0x6000 0x07)).2

/-- The logical tiles that frame n reserves self-tests on (18 R502). -/
def Module.bistTiles (m : Module) (n : Nat) : List Nat :=
  (m.bistFrom 544 (m.bistStart (n - m.clock.sfc)) (m.cfg 0x6000 0x07)).1

end Sys2Proof.Machine
end

