-- ==== Sys2Proof/Machine/Addr.lean ====
section
/-! DEFINITION. The global address map (12 R340 to R342, 07 R211), reads and writes of local memory, and poisoned
bursts (12 R362). -/

namespace Sys2Proof.Machine

/-- Bytes of a slice (12 R343). -/
def sliceBytes : Nat := 6291456

/-- Where a global address lies (12 Tables 12-1 and 12-2). -/
inductive Loc where
  /-- LPDDR5X, local offset. -/
  | lpddr (off : Nat)
  /-- slice of a logical tile, byte. -/
  | slice (tile off : Nat)
  /-- the share of the Leat journal in a slice: reads 0, takes no write, and faults a stream command (15 R435). -/
  | journal (tile off : Nat)
  /-- Vat window of a logical tile, window offset. -/
  | vat (tile off : Nat)
  /-- tile control of a logical tile, offset. -/
  | ctl (tile off : Nat)
  /-- Pattern Book mirror, byte. -/
  | book (off : Nat)
  /-- another module: device and the whole address. -/
  | remote (device addr : Nat)
  /-- no memory answers. -/
  | unmapped
  deriving DecidableEq, Repr

/-- Where a local offset lies. -/
def Module.locateLocal (m : Module) (off : Nat) : Loc :=
  if off < m.lpddrUsable then .lpddr off
  else if 0x040000000000 ≤ off ∧ off < 0x040100000000 then
    let x := off - 0x040000000000
    let t := x / 0x800000
    let o := x % 0x800000
    if o < 0x600000 then (if 256 ≤ t ∧ t < 272 ∧ 0x200000 ≤ o then .journal t o else .slice t o) else if o < 0x700000 then .vat t (o - 0x600000) else .ctl t (o - 0x700000)
  else if 0x050000000000 ≤ off ∧ off < 0x050001000000 then .book (off - 0x050000000000)
  else .unmapped

/-- Where a global address lies as seen by this module: device field 511 and its own number name itself (12 R340). -/
def Module.locate (m : Module) (a : Nat) : Loc :=
  let a := a % 2 ^ 64
  let d := a / 2 ^ 55
  if d = 511 ∨ d = m.device then m.locateLocal (a % 2 ^ 55)
  else if 256 ≤ d then .unmapped else .remote d a

/-- The kind of a place and the piece of it that an access must stay within. -/
def Loc.piece : Loc → Nat × Nat
  | .lpddr _ => (0, 0)
  | .slice t _ => (1, t)
  | .journal t _ => (7, t)
  | .vat t _ => (2, t)
  | .ctl t _ => (3, t)
  | .book _ => (4, 0)
  | .remote d _ => (5, d)
  | .unmapped => (6, 0)

/-- Where n bytes from a global address lie: unmapped where they leave the piece they begin in. -/
def Module.locateN (m : Module) (a n : Nat) : Loc :=
  let l := m.locate a
  if n ≤ 1 ∨ l.piece = (m.locate (a + n - 1)).piece then l else .unmapped

/-! ## The Vat window and tile control (07 R211, 12 R342) -/

/-- A byte of the Vat window. -/
def Tile.vatByte (x : Tile) (o : Nat) : Byte :=
  if o < 0x40000 then memRead x.vat o
  else if o < 0x40800 then
    BitVec.ofNat 8 ((List.range 4).foldl (fun a i => a + mGetD x.vstate (4 * (o - 0x40000) + i) 0 * 4 ^ i) 0)
  else if 0x41000 ≤ o ∧ o < 0x41200 then
    BitVec.ofNat 8 (mGetD x.slots ((o - 0x41000) / 8) 0 / 256 ^ ((o - 0x41000) % 8))
  else 0

/-- Write a byte of the Vat window; the slot descriptors are read only (07 R211). -/
def Tile.putVatByte (x : Tile) (o : Nat) (b : Byte) : Tile :=
  if o < 0x40000 then { x with vat := memWrite x.vat o b }
  else if o < 0x40800 then
    { x with vstate := (List.range 4).foldl (fun l i => mPutZ l (4 * (o - 0x40000) + i) (b.toNat / 4 ^ i % 4) 0) x.vstate }
  else x

/-- 1.0 in FP32. -/
def one32 : Nat := 0x3F800000

/-- A byte of tile control (12 Table 12-3). -/
def Module.ctlByte (m : Module) (t o : Nat) : Byte :=
  let x := m.tile t
  BitVec.ofNat 8 (
    if o < 0x100 then mGetD x.events (o / 4) 0 / 256 ^ (o % 4)
    else if 0x1000 ≤ o ∧ o < 0x1004 then (placeCode (m.placeOf t) * 65536 + t) / 256 ^ (o - 0x1000)
    else if 0x1004 ≤ o ∧ o < 0x1008 then m.health.epoch / 256 ^ (o - 0x1004)
    else if 0x10000 ≤ o ∧ o < 0x20000 then
      mGetD x.scales ((o - 0x10000) / 0x4000 * 4096 + (o - 0x10000) % 0x4000 / 4) one32 / 256 ^ (o % 4)
    else if 0x20000 ≤ o ∧ o < 0x20010 then mGetD x.alphas ((o - 0x20000) / 4) one32 / 256 ^ (o % 4)
    else 0)

/-- A 32-bit register with one byte replaced. -/
def putByte32 (v i : Nat) (b : Byte) : Nat := leNat ((toLe 4 v).set i b)

/-- Write a byte of tile control: only the channel-scale register file takes it. -/
def Tile.putCtlByte (x : Tile) (o : Nat) (b : Byte) : Tile :=
  if 0x10000 ≤ o ∧ o < 0x20000 then
    let k := (o - 0x10000) / 0x4000 * 4096 + (o - 0x10000) % 0x4000 / 4
    { x with scales := mPutZ x.scales k (putByte32 (mGetD x.scales k one32) (o % 4) b) one32 }
  else if 0x20000 ≤ o ∧ o < 0x20010 then
    let k := (o - 0x20000) / 4
    { x with alphas := mPutZ x.alphas k (putByte32 (mGetD x.alphas k one32) (o % 4) b) one32 }
  else x

/-- Write bytes one after another with a function of offset and byte. -/
def putBytes (f : Tile → Nat → Byte → Tile) : Tile → Nat → Bytes → Tile
  | x, _, [] => x
  | x, o, b :: r => putBytes f (f x o b) (o + 1) r

/-! ## Local reads and writes -/

/-- Bytes of the slice of a tile. -/
def Module.sliceRead (m : Module) (t o n : Nat) : Bytes := memReadN (m.tile t).slice o n

/-- Write the slice of a tile. -/
def Module.sliceWrite (m : Module) (t o : Nat) (bs : Bytes) : Module :=
  m.onTile t (fun x => { x with slice := memWriteN x.slice o bs })

/-- Poisoned bursts among n bytes of LPDDR5X from an offset (12 R362). -/
def Module.poisonIn (m : Module) (off n : Nat) : List Nat :=
  m.mem.poison.filter (fun b => decide (64 * b < off + n ∧ off < 64 * b + 64))

/-- Bytes of LPDDR5X. -/
def Module.lpRead (m : Module) (off n : Nat) : Bytes := memReadN m.mem.lpddr off n

/-- Write LPDDR5X: a poisoned burst that the write covers whole is poisoned no longer (12 R362). -/
def Module.lpWrite (m : Module) (off : Nat) (bs : Bytes) : Module :=
  { m with mem := { m.mem with
      lpddr := memWriteN m.mem.lpddr off bs
      poison := m.mem.poison.filter (fun b => !decide (off ≤ 64 * b ∧ 64 * b + 64 ≤ off + bs.length)) } }

/-- Make n bytes of LPDDR5X 0. -/
def Module.lpClear (m : Module) (off n : Nat) : Module :=
  { m with mem := { m.mem with
      lpddr := memClear m.mem.lpddr off n
      poison := m.mem.poison.filter (fun b => !decide (off ≤ 64 * b ∧ 64 * b + 64 ≤ off + n)) } }

/-- The local bytes of a place, and whether poisoned data is among them. -/
def Module.readLoc (m : Module) (l : Loc) (n : Nat) : Bytes × Bool :=
  match l with
  | .lpddr o => (m.lpRead o n, !(m.poisonIn o n).isEmpty)
  | .slice t o => (m.sliceRead t o n, false)
  | .vat t o => ((List.range n).map (fun i => (m.tile t).vatByte (o + i)), false)
  | .ctl t o => ((List.range n).map (fun i => m.ctlByte t (o + i)), false)
  | _ => (zeros n, false)

/-- Write local bytes; the Pattern Book mirror and unmapped places take none. -/
def Module.writeLoc (m : Module) (l : Loc) (bs : Bytes) : Module :=
  match l with
  | .lpddr o => m.lpWrite o bs
  | .slice t o => m.sliceWrite t o bs
  | .vat t o => m.onTile t (fun x => putBytes Tile.putVatByte x o bs)
  | .ctl t o => m.onTile t (fun x => putBytes Tile.putCtlByte x o bs)
  | _ => m

/-- Count poisoned bursts that a read of LPDDR5X delivers (12 Table 12-8 POISONED_READS). -/
def Module.countPoison (m : Module) (l : Loc) (n : Nat) : Module :=
  match l with
  | .lpddr o => m.count 0x4000 0x14 (m.poisonIn o n).length
  | _ => m

/-- The FP32 value at a byte of a slice. -/
def Module.slice32 (m : Module) (t o : Nat) : Nat := leNat (m.sliceRead t o 4)

/-! ## Event counters (08 R239, R240) -/

/-- A counter is reserved by an armed stream of the tile; 48 to 63 belong to firmware (08 R239, R250). -/
def Module.evtReserved (m : Module) (t e : Nat) : Bool :=
  decide (48 ≤ e) || m.streams.sets.any (fun p =>
    armHasTileH p.2.header t && decide (fld p.2.header 229 224 ≤ e ∧ e < fld p.2.header 229 224 + fld p.2.header 235 230))
where
  /-- tile range of an arm descriptor header. -/
  armHasTileH (h t : Nat) : Bool := decide (fld h 40 32 ≤ t ∧ t ≤ fld h 49 41)

/-- Change a counter: OP 0 adds modulo 2^32, OP 1 sets; an unreserved counter ignores the change (08 R237, R239). -/
def Module.evtChange (m : Module) (t e op v : Nat) : Module :=
  if m.evtReserved t e then
    m.onTile t (fun x => { x with events := mPutZ x.events e (if op = 0 then (mGetD x.events e 0 + v) % 2 ^ 32 else v % 2 ^ 32) 0 })
  else m

/-- A SIGNAL reaches a tile: one that finds its counter unreserved is counted (08 R239). -/
def Module.signalTile (m : Module) (t e op v : Nat) : Module :=
  if m.evtReserved t e then m.evtChange t e op v else m.count 0x3100 0x10 1

/-- A counter has reached a target (08 R240). -/
def evtReached (c target : Nat) : Bool := decide ((c + 2 ^ 32 - target % 2 ^ 32) % 2 ^ 32 < 2 ^ 31)

/-- Unspecified bytes, from free values (08 R259, log 2). -/
def Module.freeBytes (m : Module) (n : Nat) : Module × Bytes := (m.drawn, toLe n (m.freeBits (8 * n)))

end Sys2Proof.Machine
end

