-- ==== Sys2Proof/Machine/Vat.lean ====
section
/-! DEFINITION. The Vat (07 R205 to R213), the matrix array (07 R193 to R204, R214), and the epilogue (07 R216 to
R222), as functions of operand bits. -/

namespace Sys2Proof.Machine

/-! ## Slots and accumulators (07 R205 to R208) -/

/-- BASE_BLOCK of a slot descriptor (07 Table 07-5). -/
def slotBlock (d : Nat) : Nat := fld d 10 0
/-- M of a slot descriptor; 0 for a reserved code. -/
def slotM (d : Nat) : Nat := [1, 8, 16, 32, 64].getD (fld d 18 16) 0
/-- N of a slot descriptor. -/
def slotN (d : Nat) : Nat := if d.testBit 19 then 64 else 32
/-- Vat format. -/
def slotVat (d : Nat) : Bool := d.testBit 20
/-- VALID. -/
def slotValid (d : Nat) : Bool := d.testBit 21
/-- STATE_BASE. -/
def slotState (d : Nat) : Nat := fld d 47 40
/-- Bytes of one accumulator. -/
def slotSize (d : Nat) : Nat := if slotVat d then 40 else 4
/-- Blocks that a slot covers. -/
def slotBlocks (d : Nat) : Nat := ceilDiv (slotSize d * slotM d * slotN d) 128
/-- State units that a slot covers. -/
def slotUnits (d : Nat) : Nat := if slotVat d then ceilDiv (slotM d * slotN d) 32 else 0

/-- Byte of accumulator i = m × N + n of a slot (07 R208). -/
def accOff (d i : Nat) : Nat := slotBlock d * 128 + slotSize d * i
/-- State index of accumulator i of a slot. -/
def accState (d i : Nat) : Nat := slotState d * 32 + i

/-- Accumulator i of a Vat-format slot. -/
def Tile.acc (x : Tile) (d i : Nat) : Acc :=
  ⟨sgn 320 (memLe x.vat (accOff d i) 40), mGetD x.vstate (accState d i) 0⟩

/-- Replace accumulator i of a Vat-format slot. -/
def Tile.putAcc (x : Tile) (d i : Nat) (a : Acc) : Tile :=
  { x with vat := memPutLe x.vat (accOff d i) 40 (unsgn 320 a.v), vstate := mPutZ x.vstate (accState d i) a.st 0 }

/-- Accumulator i of an FP32 slot. -/
def Tile.acc32 (x : Tile) (d i : Nat) : Nat := memLe x.vat (accOff d i) 4

/-- Replace accumulator i of an FP32 slot. -/
def Tile.putAcc32 (x : Tile) (d i v : Nat) : Tile := { x with vat := memPutLe x.vat (accOff d i) 4 v }

/-- The value an accumulator is read as (07 R207, R217). -/
def Tile.accX (x : Tile) (d i : Nat) : XVal := if slotVat d then (x.acc d i).xval else fp32.xval (x.acc32 d i)

/-- A 320-bit operand added at a window offset of a Vat window: the Vat-format accumulator there (07 R212). -/
def Tile.vatAdd (x : Tile) (o : Nat) (operand : Bytes) : Tile :=
  { x with vat := memPutLe x.vat o 40 (memLe x.vat o 40 + leNat (operand.take 40)) }

/-! ## The matrix array -/

/-- Columns per issue h (07 Table 07-2). -/
def mmaCols (fmt : Nat) : Nat := if fmt = 0 then 64 else 32
/-- Clocks per pass i. -/
def mmaIssue (fmt : Nat) : Nat := if fmt = 4 then 4 else 1
/-- Block load L. -/
def mmaLoad (fmt : Nat) : Nat := if fmt = 4 then 8 else 4

/-- A product of a streamed value and a code; +0 at an escape (07 R195, R196, R214). -/
def mmaProd (fmt : Nat) (esc : Bool) (a code : Nat) : XVal :=
  if esc && isEscape fmt code then .fin 0 false else (bf16.xval a).mul (codeX fmt code)

/-- Position of the lowest set bit of a positive number, within k bits. -/
def lowBit : Nat → Nat → Nat
  | 0, _ => 0
  | k + 1, n => if n % 2 = 1 then 0 else 1 + lowBit k (n / 2)

/-- The window of a product in EXACT (07 R200); none for zero, non-finite, and multiples of 2 ^ 320. -/
def windowOf (x : XVal) : Option Nat :=
  match x with
  | .fin v _ =>
    let n := (toVat v).natAbs
    if n = 0 then none
    else
      let a := lowBit 1024 n
      if a < 320 then some (a / 30) else none
  | _ => none

/-- A product as EXACT adds it, a whole number of Vat units (07 R200, R201). -/
def exactTerm (x : XVal) : XVal :=
  match x with
  | .fin v s => .fin (vatVal (toVat v)) s
  | y => y

/-- Chunk sums of one output in CHUNK and TREE (07 R203, R204). -/
def chunkSums (ps : List XVal) : List Nat := (chunks 32 ps).map (fun l => tree (l.map (fun p => p.round fp32)))

/-- The contribution of a command to a Vat-format accumulator, without escapes (07 Table 07-7). -/
def mmaInto (mode : Nat) (a : Acc) (ps : List XVal) : Acc :=
  if mode = 1 then (ps.map exactTerm).foldl Acc.add a
  else if mode = 2 then ((chunkSums ps).map fp32.xval).foldl Acc.add a
  else a.add (fp32.xval (tree (chunkSums ps)))

/-- Escape terms of one output: the streamed values at the column's escapes with its side values (07 R214). -/
def escapeTerms (fmt : Nat) (as codes sides : List Nat) : List XVal :=
  ((escPairs fmt as codes).zip sides).map (fun p => (bf16.xval p.1).mul (fp32.xval p.2))
where
  /-- streamed values at escape codes, in ascending k. -/
  escPairs (fmt : Nat) (as codes : List Nat) : List Nat := ((as.zip codes).filter (fun p => isEscape fmt p.2)).map (·.1)

/-- Add escape terms, each rounded on its own (07 R214). -/
def addEscapes (a : Acc) (ts : List XVal) : Acc := ts.foldl Acc.add a

/-- Operands of an MMA, as bits. -/
structure MmaIn where
  mode : Nat
  fmt : Nat
  esc : Bool
  overwrite : Bool
  /-- M rows of streamed BF16 values. -/
  rows : List (List Nat)
  /-- N columns: codes and side values. -/
  cols : List (List Nat × List Nat)
  deriving DecidableEq, Repr

/-- Products of output (m, n). -/
def MmaIn.prods (i : MmaIn) (row : List Nat) (col : List Nat × List Nat) : List XVal :=
  (row.zip col.1).map (fun p => mmaProd i.fmt i.esc p.1 p.2)

/-- Write one output of an MMA (07 R210, R214). -/
def MmaIn.put (i : MmaIn) (d : Nat) (x : Tile) (k : Nat) (row : List Nat) (col : List Nat × List Nat) : Tile :=
  let ps := i.prods row col
  if slotVat d then
    let a := if i.overwrite then Acc.zero else x.acc d k
    let a := mmaInto i.mode a ps
    x.putAcc d k (if i.esc then addEscapes a (escapeTerms i.fmt row col.1 col.2) else a)
  else
    let t := tree (chunkSums ps)
    x.putAcc32 d k (if i.overwrite then t else add32 (x.acc32 d k) t)

/-- The outputs of an MMA with their index, row and column. -/
def MmaIn.outs (i : MmaIn) (d : Nat) : List (Nat × List Nat × (List Nat × List Nat)) :=
  ((i.rows.zip (List.range i.rows.length)).map (fun r =>
    (i.cols.zip (List.range i.cols.length)).map (fun c => (r.2 * slotN d + c.2, r.1, c.1)))).flatten

/-- The whole effect of an MMA on its slot. -/
def MmaIn.run (i : MmaIn) (d : Nat) (x : Tile) : Tile := (i.outs d).foldl (fun x o => i.put d x o.1 o.2.1 o.2.2) x

/-- Distinct windows among products, at least one pass (07 R201). -/
def passesOf (ps : List XVal) : Nat := max 1 (dedup (ps.filterMap windowOf)).length

/-- The passes of each issue, block by block, an issue being one row of a block (07 R197, R201). -/
def MmaIn.passes (i : MmaIn) : List (List Nat) :=
  let k := (i.rows.headD []).length / 32
  ((List.range k).map (fun j => (chunks (mmaCols i.fmt) i.cols).map (fun g =>
    i.rows.map (fun r =>
      if i.mode ≠ 1 then 1
      else passesOf ((g.map (fun c => ((r.drop (32 * j)).take 32).zip ((c.1.drop (32 * j)).take 32))).flatten.map
        (fun p => mmaProd i.fmt i.esc p.1 p.2)))))).flatten

/-- Escapes in the columns. -/
def MmaIn.escapes (i : MmaIn) : Nat := if i.esc then i.cols.foldl (fun a c => a + (c.1.filter (isEscape i.fmt)).length) 0 else 0

/-- Clocks of an MMA (07 R197, R214). -/
def MmaIn.clocks (i : MmaIn) (passes : List (List Nat)) : Nat :=
  8 + mmaLoad i.fmt + passes.foldl (fun a b => a + max (mmaLoad i.fmt) (mmaIssue i.fmt * b.foldl (· + ·) 0)) 0
  + ceilDiv (i.rows.length * i.escapes) 4

/-- The clock figure of an MMA, with 11 passes in EXACT (08 R253). -/
def mmaFigure (fmt mode m n k escClocks : Nat) : Nat :=
  8 + mmaLoad fmt + k * ceilDiv n (mmaCols fmt) * max (mmaLoad fmt) (mmaIssue fmt * (if mode = 1 then 11 else 1) * m) + escClocks

/-! ## The epilogue -/

/-- Steps of an EPI: its control word and vectors. -/
structure EpiIn where
  ctl : Nat
  rowV : Nat → Nat
  colV : Nat → Nat
  biasV : Nat → Nat
  colS : Nat → Nat
  narrowK : Nat → Nat
  alpha : Nat

/-- OUT_FMT of a control word. -/
def epiFmt (c : Nat) : Nat := fld c 39 36
/-- SLOT_COUNT. -/
def epiCount (c : Nat) : Nat := fld c 12 6
/-- Channel index of output column n (07 Table 07-9). -/
def epiChan (c n : Nat) : Nat := 32 * fld c 19 13 + n

/-- y3 of one output, FP32 (07 R217). -/
def EpiIn.y3 (e : EpiIn) (a : XVal) (m c : Nat) : Nat :=
  let r := if e.ctl.testBit 25 then fp32.xval (e.rowV m) else .fin 1 false
  let k := match fld e.ctl 27 26 with
    | 1 => fp32.xval (e.colV c)
    | 2 => fp32.xval (e.colS c)
    | _ => .fin 1 false
  let y1 := ((a.mul r).mul k).round fp32
  let y2 := if e.ctl.testBit 24 then add32 y1 (e.biasV c) else y1
  activate (fld e.ctl 35 32) y2

/-- A row narrowed: scale, codes, side values, clamped codes, fallback, non-finite (07 R220, R221). -/
structure Narrow where
  scale : Nat
  codes : List Nat
  sides : List Nat
  clamped : Nat
  fallback : Bool
  bad : Bool
  deriving DecidableEq, Repr

/-- The escape pattern of an OUT_FMT. -/
def escapeCode (fmt : Nat) : Nat := if fmt = 2 then 8 else 0x80

/-- Absolute value of a rational. -/
def absR (x : Rat) : Rat := if x < 0 then -x else x

/-- Codes clamped to ±qmax, and how many were. -/
def clampCodes (fmt : Nat) (vs : List Rat) : List Nat × Nat :=
  let q := qmaxOf fmt
  (vs.map (fun v => gridCode fmt (if q < v then q else if v < -q then -q else v)), (vs.filter (fun v => decide (q < absR v))).length)

/-- α in force: 1.0 for ALPHA_ONE or NaN, else clamped into 0.5 to 1.0 (07 R220). -/
def alphaUsed (one : Bool) (a : Nat) : Rat :=
  if one || fp32.isNaN a then 1
  else if fp32.isInf a then (if fp32.sign a then mkRat 1 2 else 1)
  else
    let v := fp32.val a
    if v < mkRat 1 2 then mkRat 1 2 else if 1 < v then 1 else v

/-- α lies outside 0.5 to 1.0 and is clamped. -/
def alphaClamped (one : Bool) (a : Nat) : Bool :=
  !one && !fp32.isNaN a && (fp32.isInf a || decide (fp32.val a < mkRat 1 2 ∨ 1 < fp32.val a))

/-- Narrow one row: y3 and K of each channel (07 R220, R221). -/
def narrowRow (fmt : Nat) (escape : Bool) (alpha : Rat) (ys ks : List Nat) : Narrow :=
  let q := qmaxOf fmt
  let kOk (k : Nat) := fp32.isFin k && !fp32.sign k && fp32.mag k != 0
  let zs := (ys.zip ks).map (fun p => if fp32.isFin p.1 && kOk p.2 then (if fp32.mag p.1 = 0 then 0 else round32 (fp32.val p.1 / fp32.val p.2)) else nan32)
  if zs.any (fun z => !fp32.isFin z) then ⟨nan32, ys.map (fun _ => 0), [], 0, false, true⟩
  else
    let zr := zs.map fp32.val
    let mx := zr.foldl (fun a z => if a < absR z then absR z else a) 0
    let s := round32 (alpha * mx / q)
    if mx.num = 0 ∨ s = 0 then ⟨0, ys.map (fun _ => 0), [], 0, false, false⟩
    else
      let vs := zr.map (fun z => roundGrid fmt (z / fp32.val s))
      let out (v : Rat) := decide (q < absR v)
      if escape ∧ (vs.filter out).length ≤ 63 then
        let sides := ((zr.zip vs).filter (fun p => out p.2)).map (fun p => round32 (p.1 / fp32.val s))
        ⟨s, vs.map (fun v => if out v then escapeCode fmt else gridCode fmt v), sides, 0, false, false⟩
      else
        let s := if escape then round32 (mx / q) else s
        let vs := if escape then zr.map (fun z => roundGrid fmt (z / fp32.val s)) else vs
        let r := clampCodes fmt vs
        ⟨s, r.1, [], r.2, escape, false⟩

/-- NORM2 of a narrowed row under R71 with CS = K (07 R220). -/
def Narrow.norm2 (r : Narrow) (fmt : Nat) (ks : List Nat) : Nat :=
  if r.bad then nan32
  else
    let fmtB := fmt - 2
    let go := (r.codes.zip ks).foldl (fun (acc : Rat × List Nat) p =>
      let v : Rat × List Nat := if r.sides.isEmpty || !isEscape fmtB p.1 then
          (match codeX fmtB p.1 with
            | .fin x _ => x
            | _ => 0, acc.2)
        else (fp32.val (acc.2.headD 0), acc.2.drop 1)
      let x := fp32.val r.scale * fp32.val p.2 * v.1
      (acc.1 + x * x, v.2)) (0, r.sides)
    round32 go.1

/-- The 16-byte row header of a narrowed row; SIDE_OFFSET is 0 (03 Table 03-2). -/
def Narrow.header (r : Narrow) (fmt : Nat) (ks : List Nat) : Bytes :=
  toLe 16 (put r.scale 32 0 + put (r.norm2 fmt ks) 32 32 + put r.sides.length 6 82)

/-- Clocks of an EPI (07 R222). -/
def epiClocks (m w : Nat) (factor : Bool) (x : Nat) : Nat := 8 + ceilDiv (m * w) 32 * (if factor then 2 else 1) + ceilDiv x 4

end Sys2Proof.Machine
end

