-- ==== Sys2Proof/Machine/TableOps.lean ====
section
/-! DEFINITION. Embedding tables as data (10 R280 to R283, R291, R295, R296): descriptors, rows, owners, exact pooled
sums, hot rows and access counts. -/

namespace Sys2Proof.Machine

/-! ## Table descriptor (10 Table 10-1), 512 bits as a number -/

/-- ROWS_BASE. -/
def tabBase (d : Nat) : Nat := fld d 511 448
/-- REM_BASE. -/
def tabRemBase (d : Nat) : Nat := fld d 447 384
/-- INDEX_LIMIT. -/
def tabLimit (d : Nat) : Nat := fld d 383 320
/-- SEED. -/
def tabSeed (d : Nat) : Nat := fld d 319 256
/-- ROWS. -/
def tabRows (d : Nat) : Nat := fld d 255 216
/-- REM_ROWS. -/
def tabRemRows (d : Nat) : Nat := fld d 215 184
/-- TABLE_SCALE. -/
def tabScale (d : Nat) : Nat := fld d 183 152
/-- VERSION. -/
def tabVersion (d : Nat) : Nat := fld d 151 120
/-- FIRST_DEVICE. -/
def tabFirst (d : Nat) : Nat := fld d 95 88
/-- DIM. -/
def tabDim (d : Nat) : Nat := 32 * fld d 87 80
/-- MODULES. -/
def tabModules (d : Nat) : Nat := fld d 79 71
/-- HASH_BITS. -/
def tabHashBits (d : Nat) : Nat := fld d 63 56
/-- BLOCK_BITS. -/
def tabBlockBits (d : Nat) : Nat := fld d 55 51
/-- ROW_FMT. -/
def tabFmt (d : Nat) : Nat := fld d 50 48
/-- SCALE_MODE 1. -/
def tabScaleMode (d : Nat) : Bool := d.testBit 47
/-- ROW_MODE. -/
def tabMode (d : Nat) : Nat := fld d 46 45
/-- COMPOSE_OP 1: product. -/
def tabProduct (d : Nat) : Bool := d.testBit 44
/-- COMBINE 1: Vat-format partial sums. -/
def tabCombine (d : Nat) : Bool := d.testBit 43
/-- TABLE. -/
def tabNumber (d : Nat) : Nat := fld d 5 0

/-- A field breaks Table 10-1 or R282. -/
def tabOk (d : Nat) : Bool :=
  decide (tabBase d % 4096 = 0 ∧ 1 ≤ tabLimit d ∧ 1 ≤ tabRows d ∧ 1 ≤ tabVersion d ∧ 32 ≤ tabDim d ∧ tabDim d ≤ 4096)
  && fld d 119 96 == 0 && fld d 70 64 == 0 && fld d 42 6 == 0
  && decide (1 ≤ tabModules d ∧ tabModules d ≤ 256 ∧ tabFirst d + tabModules d ≤ 256) && decide (tabBlockBits d ≤ 20) && decide (tabFmt d ≤ 5)
  && (decide (2 ≤ tabFmt d) || !tabScaleMode d)
  && (if tabScaleMode d then fp32.isFin (tabScale d) && !fp32.sign (tabScale d) && fp32.mag (tabScale d) != 0 else tabScale d == 0)
  && (match tabMode d with
    | 0 => decide (tabLimit d ≤ tabRows d)
    | 1 => decide (tabSeed d % 2 = 1 ∧ 1 ≤ tabHashBits d ∧ tabHashBits d ≤ 40 ∧ tabRows d = 2 ^ tabHashBits d)
    | 2 => decide (tabRemBase d % 4096 = 0 ∧ 1 ≤ tabRemRows d ∧ tabLimit d ≤ tabRemRows d * tabRows d)
    | _ => false)
  && (tabMode d == 1 || (tabSeed d == 0 && tabHashBits d == 0))
  && (tabMode d == 2 || (tabRemBase d == 0 && tabRemRows d == 0 && !tabProduct d))

/-- A row has a 16-byte header (10 R281). -/
def tabHasHeader (d : Nat) : Bool := decide (2 ≤ tabFmt d) && !tabScaleMode d

/-- The code format of a ROW_FMT, as codeX numbers them. -/
def rowCodeFmt (f : Nat) : Nat := [5, 4, 1, 0, 2, 3].getD f 5

/-- Bytes of the codes of a row of a ROW_FMT. -/
def rowCodeBytes (f dim : Nat) : Nat := codeBytes (rowCodeFmt f) dim

/-- Row stride (10 R281). -/
def tabStride (d : Nat) : Nat := (if tabHasHeader d then 16 else 0) + rowCodeBytes (tabFmt d) (tabDim d)

/-- Bytes of the local row region (10 R284). -/
def tabRegionBytes (d : Nat) : Nat :=
  ceilDiv (ceilDiv (tabRows d) (2 ^ tabBlockBits d)) (tabModules d) * 2 ^ tabBlockBits d * tabStride d

/-- Bytes of the remainder table. -/
def tabRemBytes (d : Nat) : Nat := if tabMode d = 2 then tabRemRows d * tabStride d else 0

/-- Descriptors that agree in every field but ROWS_BASE, REM_BASE and VERSION (10 R299). -/
def tabSameMapping (a b : Nat) : Bool :=
  let z (d : Nat) := d - put (tabBase d) 64 448 - put (tabRemBase d) 64 384 - put (tabVersion d) 32 120
  z a == z b

/-! ## From index to row to owner (10 R282, R283) -/

/-- The null index. -/
def nullIndex : Nat := 2 ^ 64 - 1

/-- An index is valid. -/
def tabValid (d x : Nat) : Bool := x != nullIndex && decide (x < tabLimit d)

/-- Row number ρ of a valid index; the quotient row of a composed table. -/
def tabRow (d x : Nat) : Nat :=
  match tabMode d with
  | 1 => (x * tabSeed d) % 2 ^ 64 >>> (64 - tabHashBits d)
  | 2 => x / tabRemRows d
  | _ => x

/-- Block of a row. -/
def tabBlock (d r : Nat) : Nat := r / 2 ^ tabBlockBits d
/-- Owner module of a row. -/
def tabOwnerDev (d r : Nat) : Nat := tabFirst d + tabBlock d r % tabModules d
/-- Owner tile of a row. -/
def tabOwnerTile (d r : Nat) : Nat := tabBlock d r / tabModules d % 512
/-- Row index within the owner module's region. -/
def tabLocalRow (d r : Nat) : Nat := tabBlock d r / tabModules d * 2 ^ tabBlockBits d + r % 2 ^ tabBlockBits d
/-- Local LPDDR5X address of a row on its owner module. -/
def tabRowAddr (d r : Nat) : Nat := tabBase d + tabLocalRow d r * tabStride d

/-! ## Decoded values (10 R281, R282) -/

/-- Decoded values of a row of a ROW_FMT whose narrow codes carry a scale. -/
def decodeCodes (f dim scale : Nat) (codes : Bytes) : List XVal :=
  (codesOf (rowCodeFmt f) codes dim).map (fun c =>
    let v := codeX (rowCodeFmt f) c
    if f < 2 then v else (fp32.xval scale).mul v)

/-- Decoded values of a stored row. -/
def tabDecode (d : Nat) (row : Bytes) : List XVal :=
  let s := if tabHasHeader d then leAt row 0 4 else tabScale d
  decodeCodes (tabFmt d) (tabDim d) s (if tabHasHeader d then row.drop 16 else row)

/-- A composed vector from the remainder row and the quotient row: exact, rounded once to FP32 (10 R282). -/
def tabCompose (d : Nat) (rem quo : List XVal) : List XVal :=
  (rem.zip quo).map (fun p => fp32.xval ((if tabProduct d then p.1.mul p.2 else p.1.add p.2).round fp32))

/-- A row that a hot area holds. -/
def Tile.hotRow (x : Tile) (table version row : Nat) : Option HotRow :=
  x.hot.find? (fun h => h.table == table && h.version == version && h.row == row)

/-- The decoded or composed value of a valid index, read at a tile: a row of its hot area, else LPDDR5X. -/
def Module.tabValue (m : Module) (tile d x : Nat) : List XVal :=
  let r := tabRow d x
  let quo := tabDecode d (match (m.tile tile).hotRow (tabNumber d) (tabVersion d) r with
    | some h => h.data
    | none => m.lpRead (tabRowAddr d r) (tabStride d))
  if tabMode d = 2 then
    tabCompose d (tabDecode d (m.lpRead (tabRemBase d + x % tabRemRows d * tabStride d) (tabStride d))) quo
  else quo

/-- Add weighted values to accumulators, element by element (10 R291). -/
def poolAdd (as : List Acc) (w : Nat) (vs : List XVal) : List Acc :=
  (as.zip vs).map (fun p => p.1.add ((fp32.xval w).mul p.2))

/-- The value an accumulator rounds to, FP32. -/
def Acc.round32 (a : Acc) : Nat := a.xval.round fp32

/-! ## Access counts (10 R296) -/

/-- The multipliers K_i. -/
def countK : List Nat := [0x8F1B3C5D7A29E64B, 0xB4E1925AC37D0F19, 0xD23C6A871F5B49E5, 0xE7A905D3B68C2F71]

/-- The counter of row i of the sketch for a table row. -/
def countSlot (i table row : Nat) : Nat := i * 4096 + ((row * 64 + table + 1) * countK.getD i 0) % 2 ^ 64 >>> 52

/-- The estimate of a row: the least of its four counters. -/
def Tile.estimate (x : Tile) (table row : Nat) : Nat :=
  listMin 0 ((List.range 4).map (fun i => mGetD x.counts (countSlot i table row) 0))

/-- The candidate that an entering row replaces: least estimate, then greatest (T, ρ). -/
def worstCand (l : List (Nat × Nat × Nat)) : Option (Nat × Nat × Nat) :=
  l.foldl (fun (w : Option (Nat × Nat × Nat)) c => match w with
    | none => some c
    | some b => if c.2.2 < b.2.2 ∨ (c.2.2 = b.2.2 ∧ (b.1 < c.1 ∨ (b.1 = c.1 ∧ b.2.1 < c.2.1))) then some c else some b) none

/-- Count n occurrences of a row at its owner tile. -/
def Tile.countRow (x : Tile) (table row n : Nat) : Tile :=
  let x := { x with counts := (List.range 4).foldl (fun l i =>
    let k := countSlot i table row
    mPutZ l k (satAdd 32 (mGetD l k 0) n) 0) x.counts }
  let e := x.estimate table row
  let same (c : Nat × Nat × Nat) := c.1 == table && c.2.1 == row
  if x.cands.any same then { x with cands := x.cands.map (fun c => if same c then (table, row, e) else c) }
  else if x.cands.length < 1024 then { x with cands := x.cands ++ [(table, row, e)] }
  else match worstCand x.cands with
    | some w => if w.2.2 < e then { x with cands := x.cands.map (fun c => if c == w then (table, row, e) else c) } else x
    | none => x

/-- A table of the module. -/
def Module.table (m : Module) (t : Nat) : Table := mGetD m.tables.tables t {}

/-- Change a table. -/
def Module.onTable (m : Module) (t : Nat) (f : Table → Table) : Module :=
  { m with tables := { m.tables with tables := mPut m.tables.tables t (f (m.table t)) } }

/-- Ranges of the row regions and remainder tables of the active versions: base and bytes (10 R301). -/
def Module.tableRanges (m : Module) : List (Nat × Nat) :=
  (m.tables.tables.map (fun p => match p.2.active with
    | some d => [(tabBase d, tabRegionBytes d), (tabRemBase d, tabRemBytes d)]
    | none => [])).flatten

/-- Ranges of the staged versions whose switch is due at the next tick or later in this frame's successor: write
protected (10 R286). -/
def Module.protectedRanges (m : Module) : List (Nat × Nat) :=
  (m.schedule.map (fun a =>
    if a.kind = 6 ∧ a.target ≤ m.clock.sfc + 1 then match (m.table (a.arg / 2 ^ 32)).staged with
      | some d => [(tabBase d, tabRegionBytes d), (tabRemBase d, tabRemBytes d)]
      | none => []
    else [])).flatten

/-- n bytes from an offset meet a range. -/
def meetsRange (rs : List (Nat × Nat)) (off n : Nat) : Bool := rs.any (fun r => decide (0 < r.2) && decide (off < r.1 + r.2 ∧ r.1 < off + n))

/-- Bytes from lo to hi are covered by copies that each take some bytes to a destination, k of them at most counted. -/
def loadsFill (ls : List (Nat × Nat × Nat)) : Nat → Nat → Nat → Bool
  | 0, lo, hi => decide (hi ≤ lo)
  | k + 1, lo, hi =>
    if hi ≤ lo then true
    else match ls.find? (fun l => decide (l.2.1 ≤ lo ∧ lo < l.2.1 + l.1)) with
      | some l => loadsFill ls k (l.2.1 + l.1) hi
      | none => false

/-- At most 64 loads cover the whole row region and the remainder table (17 R487). -/
def Table.loadsCover (x : Table) (d : Nat) : Bool :=
  decide (x.loads.length ≤ 64) && loadsFill x.loads 64 (tabBase d) (tabBase d + tabRegionBytes d)
    && loadsFill x.loads 64 (tabRemBase d) (tabRemBase d + tabRemBytes d)

/-- Something other than TABLE_LOAD wrote n bytes from an offset of LPDDR5X: the restore records it meets are invalid,
and those of the staged versions will be (17 R487). -/
def Module.regionTouched (m : Module) (off n : Nat) : Module :=
  { m with tables := { m.tables with tables := m.tables.tables.map (fun p =>
      let hits (d : Option Nat) : Bool := match d with
        | some d => meetsRange [(tabBase d, tabRegionBytes d), (tabRemBase d, tabRemBytes d)] off n
        | none => false
      (p.1, { p.2 with
        touched := p.2.touched || hits p.2.staged
        restoreOk := p.2.restoreOk && !hits p.2.active })) } }

/-- n bytes from an offset lie within a range. -/
def inRange (rs : List (Nat × Nat)) (off n : Nat) : Bool := rs.any (fun r => decide (r.1 ≤ off ∧ off + n ≤ r.1 + r.2))

end Sys2Proof.Machine
end

