-- ==== Sys2Proof/Machine/JobOps.lean ====
section
/-! DEFINITION. Reduction jobs as data (11 R303 to R311, R316 to R321): configurations, layouts, GFX64 operands, the
memory-side and link-side adders, ring cells and digests. -/

namespace Sys2Proof.Machine

/-! ## Configuration (11 Tables 11-1 and 11-2) -/

/-- The 128-byte header as a number. -/
def jobHdr (b : Bytes) : Nat := leAt b 0 128
/-- JOB. -/
def jobNum (b : Bytes) : Nat := fld (jobHdr b) 5 0
/-- N_M. -/
def jobMembers (b : Bytes) : Nat := fld (jobHdr b) 407 399
/-- TENSOR_COUNT. -/
def jobTensors (b : Bytes) : Nat := fld (jobHdr b) 415 408
/-- PAIRS. -/
def jobPairs (b : Bytes) : Nat := fld (jobHdr b) 423 416
/-- r. -/
def jobRing (b : Bytes) : Nat := fld (jobHdr b) 431 424
/-- c. -/
def jobCompute (b : Bytes) : Nat := fld (jobHdr b) 439 432
/-- F. -/
def jobFrac (b : Bytes) : Nat := fld (jobHdr b) 447 440
/-- OVERFLOW_POLICY. -/
def jobPolicy (b : Bytes) : Bool := (jobHdr b).testBit 448
/-- NOTIFY_EVT. -/
def jobNotifyEvt (b : Bytes) : Nat := fld (jobHdr b) 455 450
/-- NOTIFY_TILE. -/
def jobNotifyTile (b : Bytes) : Nat := fld (jobHdr b) 464 456
/-- DONE_EVT. -/
def jobDoneEvt (b : Bytes) : Nat := fld (jobHdr b) 470 465
/-- DONE_TILE. -/
def jobDoneTile (b : Bytes) : Nat := fld (jobHdr b) 479 471
/-- DONE_TARGET. -/
def jobDoneTarget (b : Bytes) : Nat := fld (jobHdr b) 511 480
/-- SEED. -/
def jobSeed (b : Bytes) : Nat := fld (jobHdr b) 575 512
/-- SHARD_ELEMS. -/
def jobShard (b : Bytes) : Nat := fld (jobHdr b) 639 576
/-- JOB_BASE. -/
def jobBase (b : Bytes) : Nat := fld (jobHdr b) 703 640
/-- STATUS_ADDR. -/
def jobStatusAddr (b : Bytes) : Nat := fld (jobHdr b) 767 704
/-- LANES. -/
def jobLanes (b : Bytes) : Nat := 1 + 2 * jobPairs b

/-- Member entry p (11 R308). -/
def jobEntry (b : Bytes) (p : Nat) : Nat := leAt b (128 + 4 * p) 4
/-- DEVICE of ring position p. -/
def jobDev (b : Bytes) (p : Nat) : Nat := fld (jobEntry b p) 7 0
/-- PAIR of ring position p. -/
def jobPair (b : Bytes) (p : Nat) : Nat := fld (jobEntry b p) 23 16
/-- ROLE of ring position p. -/
def jobRole (b : Bytes) (p : Nat) : Nat := fld (jobEntry b p) 25 24
/-- Lane of ring position p. -/
def jobLane (b : Bytes) (p : Nat) : Nat := if jobRole b p = 0 then 0 else jobRole b p + 2 * jobPair b p
/-- Ring position of a device. -/
def jobPos (b : Bytes) (d : Nat) : Option Nat := (List.range (jobMembers b)).find? (fun p => jobDev b p == d)

/-- Tensor descriptor i as a number. -/
def jobTensor (b : Bytes) (i : Nat) : Nat := leAt b (128 + 4 * jobMembers b + 64 * i) 64
/-- KIND of a tensor: 0 DENSE, 1 LOWRANK, 2 SPARSE. -/
def tenKind (t : Nat) : Nat := fld t 197 196
/-- PARAM_BF16. -/
def tenBf16 (t : Nat) : Bool := t.testBit 199
/-- UPDATE. -/
def tenUpdate (t : Nat) : Nat := fld t 201 200
/-- OWNER. -/
def tenOwner (t : Nat) : Nat := fld t 210 202
/-- SLOTS_LOG2. -/
def tenSlots (t : Nat) : Nat := fld t 215 211
/-- TABLE. -/
def tenTable (t : Nat) : Nat := fld t 221 216
/-- EVERY_N. -/
def tenEvery (t : Nat) : Nat := fld t 231 222
/-- RANK. -/
def tenRank (t : Nat) : Nat := fld t 239 232
/-- m. -/
def tenM (t : Nat) : Nat := fld t 263 240
/-- n. -/
def tenN (t : Nat) : Nat := fld t 287 264
/-- η. -/
def tenLr (t : Nat) : Nat := fld t 319 288
/-- ELEMS. -/
def tenElems (t : Nat) : Nat := fld t 383 320
/-- ELEM_BASE. -/
def tenBase (t : Nat) : Nat := fld t 447 384
/-- PARAM_ADDR. -/
def tenParam (t : Nat) : Nat := fld t 511 448

/-- Tensors of a kind with their table index. -/
def jobOfKind (b : Bytes) (k : Nat) : List (Nat × Nat) :=
  ((List.range (jobTensors b)).map (fun i => (i, jobTensor b i))).filter (fun p => tenKind p.2 == k)

/-- The job has two-phase steps (11 R313). -/
def jobTwoPhase (b : Bytes) : Bool := !(jobOfKind b 1).isEmpty
/-- D - S. -/
def jobSpan (b : Bytes) : Nat := jobCompute b + jobRing b * (if jobTwoPhase b then 2 else 1)
/-- FACTOR_ELEMS (11 R309). -/
def jobFactorElems (b : Bytes) : Nat := (jobOfKind b 1).foldl (fun a p => a + tenRank p.2 * (tenM p.2 + tenN p.2)) 0

/-- DIM of a table's active version. -/
def Module.tableDim (m : Module) (t : Nat) : Nat := match (m.table t).active with
  | some d => tabDim d
  | none => 0

/-- Stride of a keyed entry (11 R310). -/
def keyedStride (dim : Nat) : Nat := 64 * ceilDiv (8 + 8 * dim) 64

/-- Sizes of the regions of the job buffer, in R310 order. -/
def Module.jobSizes (m : Module) (b : Bytes) : List Nat :=
  [jobLanes b * jobShard b * 8, jobLanes b * jobFactorElems b * 8]
  ++ ((jobOfKind b 1).map (fun p => let t := p.2
      [tenM t * tenN t * 8, tenM t * tenN t * 4, tenM t * tenN t * 4, tenN t * tenRank t * 2, tenN t * tenRank t * 2])).flatten
  ++ ((jobOfKind b 2).map (fun p => let n := 2 ^ tenSlots p.2 * keyedStride (m.tableDim (tenTable p.2))
      [n, n, n])).flatten

/-- Running offsets of regions rounded up to 4,096 bytes, and the whole size. -/
def regionOffsets : Nat → List Nat → List Nat
  | o, [] => [o]
  | o, n :: r => o :: regionOffsets (o + roundUp n 4096) r

/-- Offsets of the regions from JOB_BASE, in R310 order; the last is the size of the buffer. -/
def Module.jobOffsets (m : Module) (b : Bytes) : List Nat := regionOffsets 0 (m.jobSizes b)

/-- Bytes of the job buffer. -/
def Module.jobBytes (m : Module) (b : Bytes) : Nat := (m.jobOffsets b).getLastD 0

/-- Local address of region k of the layout. -/
def Module.jobRegion (m : Module) (b : Bytes) (k : Nat) : Nat := jobBase b + (m.jobOffsets b).getD k 0

/-- First layout index of a LOWRANK tensor: GRAD, two error buffers, two warm buffers. -/
def lowIndex (b : Bytes) (i : Nat) : Nat := 2 + 5 * ((jobOfKind b 1).findIdx (fun p => p.1 == i))
/-- First layout index of a SPARSE tensor: two hold areas, owner area. -/
def sparseIndex (b : Bytes) (i : Nat) : Nat := 2 + 5 * (jobOfKind b 1).length + 3 * ((jobOfKind b 2).findIdx (fun p => p.1 == i))

/-- Address of an element of a dense lane. -/
def Module.denseAddr (m : Module) (b : Bytes) (lane e : Nat) : Nat := m.jobRegion b 0 + (lane * jobShard b + e) * 8
/-- Address of an element of a factor lane. -/
def Module.factorAddr (m : Module) (b : Bytes) (lane e : Nat) : Nat := m.jobRegion b 1 + (lane * jobFactorElems b + e) * 8
/-- First factor element of a LOWRANK tensor (11 Table 11-2). -/
def factorBase (b : Bytes) (i : Nat) : Nat := tenBase (jobTensor b i)

/-- A job. -/
def Module.job (m : Module) (j : Nat) : Job := mGetD m.jobs.jobs j {}
/-- Change a job. -/
def Module.onJob (m : Module) (j : Nat) (f : Job → Job) : Module :=
  { m with jobs := { m.jobs with jobs := mPut m.jobs.jobs j (f (m.job j)) } }

/-- This module's ring position in a job. -/
def Module.ownPos (m : Module) (b : Bytes) : Nat := (jobPos b m.device).getD 0
/-- This module's lane. -/
def Module.ownLane (m : Module) (b : Bytes) : Nat := jobLane b (m.ownPos b)

/-- Is a member of a job present: itself, or in cascade frames? -/
def Module.present (m : Module) (d : Nat) : Bool := d == m.device || m.cascade.member d

/-- The next present ring position after p (11 R308, R324). -/
def Module.ringNext (m : Module) (b : Bytes) (p : Nat) : Nat :=
  let n := jobMembers b
  (((List.range n).map (fun i => (p + 1 + i) % n)).find? (fun q => m.present (jobDev b q))).getD p

/-- The device of this module's ring successor. -/
def Module.ringSucc (m : Module) (b : Bytes) : Nat := jobDev b (m.ringNext b (m.ownPos b))

/-- Frame C of the current step. -/
def Job.close (j : Job) : Nat := j.start + jobCompute j.config
/-- Deadline D of the current step. -/
def Job.deadline (j : Job) : Nat := j.start + jobSpan j.config

/-! ## GFX64 (11 R303 to R305) -/

/-- An exact value converted: the 64-bit pattern, saturated, non-finite (11 R304). -/
def gfxOf (f : Nat) (x : XVal) : Nat × Bool × Bool :=
  match x with
  | .fin v _ =>
    let g := roundInt (v * pow2 f)
    let top : Int := 2 ^ 63 - 1
    if top < g then (unsgn 64 top, true, false) else if g < -top then (unsgn 64 (-top), true, false) else (unsgn 64 g, false, false)
  | _ => (0, false, true)

/-- The exact value of a GFX64 pattern. -/
def gfxVal (f g : Nat) : Rat := (sgn 64 g : Rat) * pow2 (-(f : Int))

/-- Count conversions of a job (11 R317). -/
def Module.countConv (m : Module) (j sat non : Nat) : Module :=
  ((m.onJob j (fun x => { x with satCount := satAdd 32 x.satCount sat, nonCount := satAdd 32 x.nonCount non })).count 0x3300 0x10 sat).count
    0x3300 0x11 non

/-! ## Memory-side adders (11 R318, R319, 12 R360, R362) -/

/-- Add a GFX64 operand into a word of LPDDR5X. A poisoned word discards it, reads 0 from then on, and counts one
non-finite element. -/
def Module.msaAdd (m : Module) (j off v : Nat) : Module :=
  if (m.poisonIn off 8).isEmpty then
    (m.lpWrite off (toLe 8 (leNat (m.lpRead off 8) + v))).count 0x3300 0x18 1
  else
    let m := m.lpWrite off (zeros 8)
    let m := { m with mem := { m.mem with poison := m.mem.poison.filter (fun b => b != off / 64) } }
    (m.countConv j 0 1).count 0x4000 0x14 1

/-- The empty key. -/
def emptyKey : Nat := 2 ^ 64 - 1

/-- First slot of a key (11 R319). -/
def keySlot (log2 key : Nat) : Nat := ((key + 1) * 0x9E3779B97F4A7C15) % 2 ^ 64 >>> (64 - log2)

/-- Probe for a key or the empty key: the slot, and how many lines were read. -/
def Module.keyProbe (m : Module) (base stride log2 key : Nat) : Nat → Nat → Nat → Option Nat × Nat
  | 0, _, n => (none, n)
  | k + 1, h, n =>
    let x := leNat (m.lpRead (base + h * stride) 8)
    if x = key ∨ x = emptyKey then (some h, n + 1) else m.keyProbe base stride log2 key k ((h + 1) % 2 ^ log2) (n + 1)

/-- A keyed add of values from element first on: the module, whether the row was taken, and key lines read. -/
def Module.msaKeyed (m : Module) (j base stride log2 key first : Nat) (vals : List Nat) : Module × Bool × Nat :=
  match m.keyProbe base stride log2 key (2 ^ log2) (keySlot log2 key) 0 with
  | (none, n) => (m.count 0x3300 0x12 1, false, n)
  | (some h, n) =>
    let a := base + h * stride
    let m := if leNat (m.lpRead a 8) = key then m else m.lpWrite a (toLe 8 key)
    (((vals.zip (List.range vals.length)).foldl (fun (m : Module) v => m.msaAdd j (a + 8 + 8 * (first + v.2)) v.1) m), true, n)

/-- Make a keyed area empty: every key empty, every value 0. -/
def Module.clearArea (m : Module) (base stride log2 : Nat) : Module :=
  (List.range (2 ^ log2)).foldl (fun (m : Module) h => m.lpWrite (base + h * stride) (toLe 8 emptyKey)) (m.lpClear base (2 ^ log2 * stride))

/-- Keyed add into a hold area or the owner area of a SPARSE tensor; a dropped row sets the overflow mark of the area
(11 R319). -/
def Module.sparseAdd (m : Module) (j i : Nat) (owner : Bool) (key first : Nat) (vals : List Nat) : Module × Nat :=
  let x := m.job j
  let t := jobTensor x.config i
  let k := sparseIndex x.config i + (if owner then 2 else 1 - x.bufCopy)
  let r := m.msaKeyed j (m.jobRegion x.config k) (keyedStride (m.tableDim (tenTable t))) (tenSlots t) key first vals
  (if r.2.1 then r.1 else r.1.onJob j (fun x => if owner then { x with ownerOverflow := true } else { x with holdOverflow := true }), r.2.2)

/-! ## Ring cells and digests (11 R320, R321, R336; encoding log 35) -/

/-- Add the payload of a data cell to the SENT digest. -/
def Job.sent (x : Job) (pay : Bytes) : Job :=
  { x with digestNow := { x.digestNow with sentBytes := (x.digestNow.sentBytes + pay.length) % 2 ^ 64, sentCrc := crc64 x.digestNow.sentCrc pay } }

/-- Add the payload of a data cell to the RECEIVED digest. -/
def Job.received (x : Job) (pay : Bytes) : Job :=
  { x with digestNow := { x.digestNow with recvBytes := (x.digestNow.recvBytes + pay.length) % 2 ^ 64, recvCrc := crc64 x.digestNow.recvCrc pay } }

/-- Send a data cell of a job to the ring successor. hi is the ARG above the job number. -/
def Module.sendRing (m : Module) (j hi : Nat) (pay : Bytes) : Module :=
  let pay := fit pay 256
  let m := (m.onJob j (fun x => x.sent pay)).count 0x3300 0x19 1
  (m.sendTo (m.ringSucc (m.job j).config) 18 (put j 6 0 + put hi 42 6) pay).1

/-- ARG of a dense line: line address in [32:0], destination device in [40:33], bit 41 clear. -/
def ringDenseArg (device addr : Nat) : Nat := put (addr / 256) 33 0 + put device 8 33

/-- Forward a line to the successor (11 R320). -/
def Module.forwardLine (m : Module) (l : Line) : Module :=
  if l.keyed then
    let vs := l.values.map (·.2)
    m.sendRing l.job (2 ^ 41) (toLe 1 1 ++ toLe 1 l.device ++ toLe 1 l.lane ++ toLe 1 l.tensor ++ toLe 2 vs.length ++ toLe 2 l.first
      ++ toLe 8 l.addr ++ (vs.map (toLe 8)).flatten)
  else m.sendRing l.job (ringDenseArg l.device l.addr) (((List.range 32).map (fun i => toLe 8 (mGetD l.values i 0))).flatten)

/-- The port whose LSA a job's operands leave by. -/
def Module.ringPort (m : Module) (b : Bytes) : Option Nat := m.cascade.route m.device m.device (m.ringSucc b)

/-- Two operands meet in one line. -/
def Line.sameAs (a b : Line) : Bool :=
  a.port == b.port && a.job == b.job && a.device == b.device && a.addr == b.addr && a.keyed == b.keyed && a.tensor == b.tensor
    && a.lane == b.lane && a.first == b.first

/-- Add the elements of a line to another. -/
def Line.merge (a b : Line) : Line :=
  { a with values := b.values.foldl (fun l v => mPut l v.1 ((mGetD l v.1 0 + v.2) % 2 ^ 64)) a.values }

/-- An operand or an arriving line enters the combine buffer of a port (11 R320). -/
def Module.lsaTake (m : Module) (l : Line) : Module :=
  match m.jobs.lines.find? (fun x => x.sameAs l) with
  | some _ => { m with jobs := { m.jobs with lines := m.jobs.lines.map (fun x => if x.sameAs l then x.merge l else x) } }
  | none =>
    let here := m.jobs.lines.filter (fun x => x.port == l.port)
    let m := if here.length < 4096 then m else match here.head? with
      | none => m
      | some old => ({ m with jobs := { m.jobs with lines := m.jobs.lines.erase old } }.forwardLine old).count 0x3300 0x17 1
    { m with jobs := { m.jobs with lines := m.jobs.lines ++ [l] } }

/-- Flush every line of a job (11 R322). -/
def Module.flushLines (m : Module) (j : Nat) : Module :=
  let ls := m.jobs.lines.filter (fun x => x.job == j)
  let m := { m with jobs := { m.jobs with lines := m.jobs.lines.filter (fun x => x.job != j) } }
  ls.foldl Module.forwardLine m

/-- Deliver a line at this module: to its MSAs when it is the destination, else into the next combine buffer. -/
def Module.takeLine (m : Module) (l : Line) : Module :=
  if l.device = m.device then
    if l.keyed then (m.sparseAdd l.job l.tensor true l.addr l.first (l.values.map (·.2))).1
    else l.values.foldl (fun (m : Module) v => m.msaAdd l.job (l.addr + 8 * v.1) v.2) m
  else match m.ringPort (m.job l.job).config with
    | some p => m.lsaTake { l with port := p }
    | none => m

/-! ## Accumulate writes of a job (11 R315, R316, R318) -/

/-- What a job address names on the sending module. -/
inductive JobPlace where
  /-- a dense element: device and local address in lane 0. -/
  | dense (device addr : Nat)
  /-- GRAD of a LOWRANK tensor: local address. -/
  | grad (addr : Nat)
  /-- the hold area of a SPARSE tensor, by table index. -/
  | hold (tensor : Nat)
  deriving DecidableEq, Repr

/-- The job place of a global address, if it is one (11 R316, R319). -/
def Module.jobPlace (m : Module) (j a : Nat) : Option JobPlace :=
  let x := m.job j
  let b := x.config
  let a := a % 2 ^ 64
  let d := if a / 2 ^ 55 = 511 then m.device else a / 2 ^ 55
  let off := a % 2 ^ 55
  if x.state ≠ 2 then none
  else if (jobPos b d).isSome && decide (jobBase b ≤ off ∧ off + 8 ≤ jobBase b + 8 * jobShard b) then some (.dense d off)
  else if d ≠ m.device then none
  else match (jobOfKind b 1).find? (fun p =>
      let g := m.jobRegion b (lowIndex b p.1)
      decide (g ≤ off ∧ off + 8 ≤ g + 8 * tenM p.2 * tenN p.2)) with
    | some _ => some (.grad off)
    | none => ((jobOfKind b 2).find? (fun p =>
        off == m.jobRegion b (sparseIndex b p.1) || off == m.jobRegion b (sparseIndex b p.1 + 1))).map (fun p => .hold p.1)

/-- A job accumulate write that a tile issues now comes after tick C of the step (11 R315). -/
def Module.jobLate (m : Module) (j : Nat) : Bool := decide ((m.job j).close ≤ m.clock.sfc)

/-- A late write: acknowledged, discarded, counted. -/
def Module.lateWrite (m : Module) (j : Nat) : Module := (m.onJob j (fun x => { x with late := true })).count 0x3300 0x0F 1

/-- An 8-byte accumulate write of a job from a tile of this module (11 R316, R318, R320). -/
def Module.jobWrite (m : Module) (j : Nat) (pl : JobPlace) (v : Nat) : Module :=
  if m.jobLate j then m.lateWrite j
  else
    let b := (m.job j).config
    match pl with
    | .grad off => m.msaAdd j off v
    | .dense d off =>
      let a := off + m.ownLane b * jobShard b * 8
      m.takeLine { port := 0, job := j, device := d, addr := a / 256 * 256, lane := m.ownLane b, values := [(a % 256 / 8, v)] }
    | .hold _ => m

/-- A keyed row of a tile of this module into a hold area: the module and key lines read (11 R319). -/
def Module.jobKeyed (m : Module) (j tensor row : Nat) (vals : List Nat) : Module × Nat :=
  if m.jobLate j then (m.lateWrite j, 0)
  else m.sparseAdd j tensor false (row * 256 + m.ownLane (m.job j).config) 0 vals

end Sys2Proof.Machine
end

