-- ==== Sys2Proof/Machine/Operands.lean ====
section
/-! DEFINITION. The operands of tile streams: arm descriptors (08 Table 08-12) and the fields of the 32-byte stream
commands (08 Tables 08-2 to 08-11). -/

namespace Sys2Proof.Machine

/-! ## Arm descriptor header (08 Table 08-12), 512 bits as a number -/

/-- STREAM_ID. -/
def armId (h : Nat) : Nat := fld h 31 0
/-- FIRST_TILE. -/
def armFirst (h : Nat) : Nat := fld h 40 32
/-- LAST_TILE. -/
def armLast (h : Nat) : Nat := fld h 49 41
/-- CONTEXT. -/
def armCtx (h : Nat) : Nat := fld h 52 50
/-- PERSISTENT. -/
def armPersistent (h : Nat) : Bool := h.testBit 53
/-- FRAME_BOUND. -/
def armFrameBound (h : Nat) : Bool := h.testBit 54
/-- KEEP_COUNTERS. -/
def armKeep (h : Nat) : Bool := h.testBit 55
/-- TOWER. -/
def armTower (h : Nat) : Bool := h.testBit 56
/-- CMD_BASE. -/
def armCmdBase (h : Nat) : Nat := fld h 127 64
/-- CMD_STRIDE. -/
def armCmdStride (h : Nat) : Nat := fld h 159 128
/-- CMD_COUNT. -/
def armCmdCount (h : Nat) : Nat := fld h 175 160
/-- SLICE_BYTES. -/
def armSlice (h : Nat) : Nat := fld h 223 192
/-- EVT_FIRST. -/
def armEvtFirst (h : Nat) : Nat := fld h 229 224
/-- EVT_COUNT. -/
def armEvtCount (h : Nat) : Nat := fld h 235 230
/-- SLOT_FIRST. -/
def armSlotFirst (h : Nat) : Nat := fld h 241 236
/-- SLOT_COUNT. -/
def armSlotCount (h : Nat) : Nat := fld h 248 242
/-- WEIR_FIRST. -/
def armWeirFirst (h : Nat) : Nat := fld h 263 256
/-- WEIR_COUNT. -/
def armWeirCount (h : Nat) : Nat := fld h 272 264
/-- STAGE_LINES. -/
def armStageLines (h : Nat) : Nat := fld h 275 273
/-- E2E_CREDITS. -/
def armCredits (h : Nat) : Nat := fld h 280 276
/-- GRANT_CLOCKS. -/
def armGrantClocks (h : Nat) : Nat := fld h 319 288
/-- GRANT_BYTES. -/
def armGrantBytes (h : Nat) : Nat := fld h 383 320
/-- LPDDR_BASE. -/
def armLpBase (h : Nat) : Nat := fld h 447 384
/-- LPDDR_BYTES. -/
def armLpBytes (h : Nat) : Nat := fld h 511 448

/-- The set's tile range holds a tile. -/
def armHasTile (h t : Nat) : Bool := decide (armFirst h ≤ t ∧ t ≤ armLast h)

/-! ## Stream commands (08 Tables 08-2 to 08-11), 256 bits as a number -/

/-- OPCODE. -/
def cmdOp (c : Nat) : Nat := fld c 7 0
/-- DEP. -/
def cmdDep (c : Nat) : Bool := c.testBit 17
/-- DEP_EVT. -/
def cmdDepEvt (c : Nat) : Nat := fld c 23 18
/-- DONE. -/
def cmdDone (c : Nat) : Bool := c.testBit 25
/-- DONE_EVT. -/
def cmdDoneEvt (c : Nat) : Nat := fld c 31 26
/-- DEP_COUNT. -/
def cmdDepCount (c : Nat) : Nat := fld c 63 32

/-- The opcodes of Table 08-3. -/
def opcodes : List Nat := [0x01, 0x02, 0x03, 0x10, 0x11, 0x20, 0x21, 0x22, 0x23, 0x24, 0x25, 0x30, 0x31, 0x32, 0x3F]

/-- The fields that are reserved in a command, as pairs of bits; the header's are bit 24 and bits 16 to 8. -/
def cmdReserved (op : Nat) : List (Nat × Nat) :=
  [(24, 24), (16, 8)] ++ (match op with
    | 0x01 => [(255, 247), (223, 192)]
    | 0x02 => [(255, 252), (191, 190), (251, 248)]
    | 0x03 => [(255, 252), (191, 191)]
    | 0x10 => [(255, 163)]
    | 0x11 => [(255, 255), (191, 190), (127, 108), (95, 94), (87, 84)]
    | 0x20 => [(255, 158), (127, 116)]
    | 0x21 => [(255, 121)]
    | 0x22 => [(255, 103)]
    | 0x23 => [(255, 224), (191, 164)]
    | 0x24 => [(255, 192), (127, 83)]
    | 0x25 => [(255, 182), (127, 126)]
    | 0x30 => [(255, 168)]
    | 0x31 => [(255, 65)]
    | _ => [(255, 64)])

/-- BASE of an address operand. -/
def addrBase (a : Nat) : Nat := fld a 63 60
/-- OFFSET of an address operand. -/
def addrOff (a : Nat) : Nat := fld a 59 0

end Sys2Proof.Machine
end

