-- ==== Sys2Proof/Machine/Keccak.lean ====
section
/-! DEFINITION. SHAKE256 of FIPS 202, which the digests of 03 R88, 06 R181, 11 R333, 16 R467, 17 R490 and 18 R512 use.
A lane is a number below 2 ^ 64; the state is 25 lanes, lane (x, y) at place x + 5 y. -/

namespace Sys2Proof.Machine

/-- Rotation of a 64-bit lane to the left. -/
def rotl64 (v n : Nat) : Nat := (v <<< n) % 2 ^ 64 ||| (v >>> (64 - n))

/-- Rotation offsets of the rho step, by lane place. -/
def keccakRho : List Nat :=
  [0, 1, 62, 28, 27, 36, 44, 6, 55, 20, 3, 10, 43, 25, 39, 41, 45, 15, 21, 8, 18, 2, 61, 56, 14]

/-- Round constants of the iota step. -/
def keccakRc : List Nat :=
  [0x0000000000000001, 0x0000000000008082, 0x800000000000808A, 0x8000000080008000, 0x000000000000808B,
   0x0000000080000001, 0x8000000080008081, 0x8000000000008009, 0x000000000000008A, 0x0000000000000088,
   0x0000000080008009, 0x000000008000000A] ++
  [0x000000008000808B, 0x800000000000008B, 0x8000000000008089, 0x8000000000008003, 0x8000000000008002,
   0x8000000000000080, 0x000000000000800A, 0x800000008000000A, 0x8000000080008081, 0x8000000000008080,
   0x0000000080000001, 0x8000000080008008]

/-- One round of the permutation. -/
def keccakRound (a : List Nat) (rc : Nat) : List Nat :=
  let ln (l : List Nat) (x y : Nat) := l.getD (x % 5 + 5 * (y % 5)) 0
  let c := (List.range 5).map (fun x => nxor (ln a x 0) (nxor (ln a x 1) (nxor (ln a x 2) (nxor (ln a x 3) (ln a x 4)))))
  let d := (List.range 5).map (fun x => nxor (c.getD ((x + 4) % 5) 0) (rotl64 (c.getD ((x + 1) % 5) 0) 1))
  let t := (List.range 25).map (fun i => nxor (a.getD i 0) (d.getD (i % 5) 0))
  -- B[y][2x + 3y] is the rotated A[x][y], so B at (x, y) comes from A at (x + 3y, x)
  let b := (List.range 25).map (fun i =>
    let x := i % 5
    let y := i / 5
    let s := (x + 3 * y) % 5 + 5 * x
    rotl64 (t.getD s 0) (keccakRho.getD s 0))
  let e := (List.range 25).map (fun i =>
    let x := i % 5
    let y := i / 5
    nxor (ln b x y) ((nxor (ln b (x + 1) y) (2 ^ 64 - 1)) &&& ln b (x + 2) y))
  e.set 0 (nxor (e.getD 0 0) rc)

/-- The permutation: 24 rounds. -/
def keccakF (a : List Nat) : List Nat := keccakRc.foldl keccakRound a

/-- A block of 136 bytes added into the state. -/
def keccakXor (a : List Nat) (blk : Bytes) : List Nat :=
  (List.range 25).map (fun i => nxor (a.getD i 0) (if i < 17 then leAt blk (8 * i) 8 else 0))

/-- The padded message of SHAKE256: suffix 1111, then 10*1. -/
def shakePad (msg : Bytes) : Bytes :=
  let z := 136 - (msg.length + 1) % 136
  let z := if z = 136 then 0 else z
  if z = 0 then msg ++ [0x9F] else msg ++ [0x1F] ++ zeros (z - 1) ++ [0x80]

/-- Output blocks of 136 bytes. -/
def shakeSqueeze : Nat → List Nat → Bytes
  | 0, _ => []
  | k + 1, a => ((a.take 17).map (toLe 8)).flatten ++ shakeSqueeze k (keccakF a)

/-- The first n bytes of SHAKE256 over a message. -/
def shake256 (msg : Bytes) (n : Nat) : Bytes :=
  let a := (chunks 136 (shakePad msg)).foldl (fun a blk => keccakF (keccakXor a blk)) (List.replicate 25 0)
  (shakeSqueeze (ceilDiv n 136) a).take n

/-- The first 8 bytes of SHAKE256 over a key: its identifier (03 R89, 16 Table 16-6). -/
def keyId (key : Bytes) : Bytes := shake256 key 8

end Sys2Proof.Machine
end

