-- ==== Sys2Proof/Machine/Image.lean ====
section
/-! DEFINITION. The Lot image: its header, sections and records (03 R81 to R92), its verification (03 R90) and the
placement of its lists (03 R93 to R96). -/

namespace Sys2Proof.Machine

/-! ## Fixed header (03 Table 03-5) -/

/-- LOT_NUMBER. -/
def imgLot (b : Bytes) : Nat := leAt b 12 4
/-- PARENT_LOT. -/
def imgParent (b : Bytes) : Nat := leAt b 16 4
/-- SHARD_INDEX. -/
def imgShard (b : Bytes) : Nat := leAt b 20 2
/-- SHARD_COUNT. -/
def imgShards (b : Bytes) : Nat := leAt b 22 2
/-- DIM. -/
def imgDim (b : Bytes) : Nat := leAt b 24 2
/-- METRIC. -/
def imgMetric (b : Bytes) : Nat := leAt b 26 1
/-- CODE_FORMAT. -/
def imgFormat (b : Bytes) : Nat := leAt b 27 1
/-- SKETCH_BITS. -/
def imgSketch (b : Bytes) : Nat := leAt b 28 2
/-- GRAPH_DEGREE. -/
def imgDegree (b : Bytes) : Nat := leAt b 30 1
/-- ENTRY_COUNT. -/
def imgEntries (b : Bytes) : Nat := leAt b 31 1
/-- LIST_COUNT. -/
def imgLists (b : Bytes) : Nat := leAt b 32 4
/-- ITEM_COUNT. -/
def imgItems (b : Bytes) : Nat := leAt b 36 8
/-- SPILL_COUNT. -/
def imgSpills (b : Bytes) : Nat := leAt b 44 8
/-- IMAGE_BYTES. -/
def imgBytes (b : Bytes) : Nat := leAt b 52 8
/-- SECTION_COUNT. -/
def imgSections (b : Bytes) : Nat := leAt b 60 1
/-- LOAD_BYTES. -/
def imgLoadBytes (b : Bytes) : Nat := leAt b 72 8
/-- The digest field. -/
def imgDigest (b : Bytes) : Bytes := sub b 640 64

/-- Code bytes of a row (03 Table 03-1). -/
def imgCodeBytes (b : Bytes) : Nat := codeBytes (imgFormat b) (imgDim b)
/-- R, the row stride (03 R70). -/
def imgRow (b : Bytes) : Nat := 16 + imgCodeBytes b
/-- C, the centroid record (03 R72). -/
def imgCent (b : Bytes) : Nat := roundUp (16 + imgCodeBytes b + 3 * imgDegree b) 64
/-- S, the list record (03 R84). -/
def recordBytes (sketchBits : Nat) : Nat := roundUp (sketchBits / 8 + 16) 16
/-- S of an image. -/
def imgRec (b : Bytes) : Nat := recordBytes (imgSketch b)

/-- A section-table entry in use: type, offset, length. -/
structure Sec where
  typ : Nat
  off : Nat
  len : Nat
  deriving DecidableEq, Repr

/-- The section-table entries in use (03 Table 03-6). -/
def imgSecs (b : Bytes) : List Sec :=
  (List.range (imgSections b)).map (fun i => ⟨leAt b (128 + 32 * i + 16) 1, leAt b (128 + 32 * i) 8, leAt b (128 + 32 * i + 8) 8⟩)

/-- The section of a type. -/
def imgSec (b : Bytes) (t : Nat) : Option Sec := (imgSecs b).find? (fun s => s.typ == t)

/-- Does the image hold a section? -/
def imgHas (b : Bytes) (t : Nat) : Bool := (imgSec b t).isSome

/-- Offset of a section, 0 where it is absent. -/
def imgOff (b : Bytes) (t : Nat) : Nat := match imgSec b t with
  | some s => s.off
  | none => 0

/-- The little-endian number in n bytes at offset o of a section. -/
def secLe (b : Bytes) (t o n : Nat) : Nat := leAt b (imgOff b t + o) n

/-- n bytes at offset o of a section. -/
def secSub (b : Bytes) (t o n : Nat) : Bytes := sub b (imgOff b t + o) n

/-! ## Records -/

/-- PRI_FIRST of a list (03 Table 03-9). -/
def imgPriFirst (b : Bytes) (l : Nat) : Nat := secLe b 1 (32 * l) 8
/-- PRI_COUNT of a list. -/
def imgPriCount (b : Bytes) (l : Nat) : Nat := secLe b 1 (32 * l + 8) 4
/-- SEC_FIRST of a list. -/
def imgSecFirst (b : Bytes) (l : Nat) : Nat := secLe b 1 (32 * l + 16) 8
/-- SEC_COUNT of a list. -/
def imgSecCount (b : Bytes) (l : Nat) : Nat := secLe b 1 (32 * l + 24) 4
/-- Record bytes rb of a list (03 R93). -/
def imgListBytes (b : Bytes) (l : Nat) : Nat := (imgPriCount b l + imgSecCount b l) * imgRec b

/-- The first 16 bytes of record i of a record region (4 primary, 5 secondary), as a number. -/
def imgRecHead (b : Bytes) (t i : Nat) : Nat := secLe b t (imgRec b * i) 16
/-- ORDINAL of a record. -/
def imgRecOrd (b : Bytes) (t i : Nat) : Nat := fld (imgRecHead b t i) 34 0
/-- ATTR of a record. -/
def imgRecAttr (b : Bytes) (t i : Nat) : Nat := fld (imgRecHead b t i) 127 64
/-- SKETCH of a record. -/
def imgRecSketch (b : Bytes) (t i : Nat) : Nat := secLe b t (imgRec b * i + 16) (imgSketch b / 8)

/-- Offset of the row of an ordinal in the image. -/
def imgRowOff (b : Bytes) (o : Nat) : Nat := imgOff b 7 + imgRow b * o
/-- ROW_SCALE. -/
def imgRowScale (b : Bytes) (o : Nat) : Nat := leAt b (imgRowOff b o) 4
/-- NORM2. -/
def imgRowNorm (b : Bytes) (o : Nat) : Nat := leAt b (imgRowOff b o + 4) 4
/-- ESC_COUNT. -/
def imgRowEsc (b : Bytes) (o : Nat) : Nat := fld (leAt b (imgRowOff b o) 16) 87 82
/-- SIDE_OFFSET. -/
def imgRowSide (b : Bytes) (o : Nat) : Nat := fld (leAt b (imgRowOff b o) 16) 127 88
/-- The codes of a row. -/
def imgRowCodes (b : Bytes) (o : Nat) : List Nat := codesOf (imgFormat b) (sub b (imgRowOff b o + 16) (imgCodeBytes b)) (imgDim b)
/-- The side list of a row. -/
def imgSideList (b : Bytes) (o : Nat) : List Nat :=
  (List.range (imgRowEsc b o)).map (fun i => secLe b 8 (imgRowSide b o + 4 * i) 4)
/-- Item key of an ordinal. -/
def imgKey (b : Bytes) (o : Nat) : Nat := secLe b 11 (8 * o) 8
/-- Channel scales. -/
def imgScales (b : Bytes) : List Nat := (List.range (imgDim b)).map (fun c => secLe b 9 (4 * c) 4)
/-- Projection element P[j][c] (03 R67). -/
def imgProj (b : Bytes) (j c : Nat) : Int := sgn 8 (secLe b 10 (j * imgDim b + c) 1)

/-- Offset of a centroid record. -/
def imgCentOff (b : Bytes) (l : Nat) : Nat := imgOff b 2 + imgCent b * l
/-- ROW_SCALE of a centroid. -/
def imgCentScale (b : Bytes) (l : Nat) : Nat := leAt b (imgCentOff b l) 4
/-- NORM2 of a centroid. -/
def imgCentNorm (b : Bytes) (l : Nat) : Nat := leAt b (imgCentOff b l + 4) 4
/-- DEGREE of a centroid. -/
def imgCentDegree (b : Bytes) (l : Nat) : Nat := fld (leAt b (imgCentOff b l) 16) 69 64
/-- Codes of a centroid. -/
def imgCentCodes (b : Bytes) (l : Nat) : List Nat := codesOf (imgFormat b) (sub b (imgCentOff b l + 16) (imgCodeBytes b)) (imgDim b)
/-- Adjacency slot i of a centroid. -/
def imgAdj (b : Bytes) (l i : Nat) : Nat := leAt b (imgCentOff b l + 16 + imgCodeBytes b + 3 * i) 3
/-- Valid neighbours of a centroid, in slot order. -/
def imgNeigh (b : Bytes) (l : Nat) : List Nat := (List.range (imgCentDegree b l)).map (imgAdj b l)
/-- Entry points, in order. -/
def imgEntryPoints (b : Bytes) : List Nat := (List.range (imgEntries b)).map (fun i => secLe b 3 (4 * i) 4)

/-! ## Verification (03 Table 03-11) -/

/-- Every number below n passes a test. -/
def allBelow (n : Nat) (p : Nat → Bool) : Bool := (List.range n).all p

/-- Bytes from offset lo up to hi are zero. -/
def zeroRange (b : Bytes) (lo hi : Nat) : Bool := allZero ((b.drop lo).take (hi - lo))

/-- An FP32 value is finite and positive. -/
def posFinite (x : Nat) : Bool := fp32.isFin x && !fp32.sign x && fp32.mag x != 0

/-- A ROW_SCALE is finite, and either +0 or positive (03 Table 03-2). -/
def scaleOk (x : Nat) : Bool := fp32.isFin x && !fp32.sign x

/-- A code is finite where its format is FP8 (03 R68). -/
def codeFinite (fmt code : Nat) : Bool := if fmt = 2 then e4m3.isFin code else if fmt = 3 then e5m2.isFin code else true

/-- BAD_HEADER does not hold. -/
def imgHeaderOk (b : Bytes) : Bool :=
  decide (imgLot b ≠ 0 ∧ imgLot b ≠ 0xFFFFFFFF) && decide (1 ≤ imgShards b ∧ imgShards b ≤ 256 ∧ imgShard b < imgShards b)
  && decide (32 ≤ imgDim b ∧ imgDim b ≤ 4096 ∧ imgDim b % 32 = 0) && decide (imgMetric b ≤ 2) && decide (imgFormat b ≤ 3)
  && [64, 128, 256, 512, 1024].contains (imgSketch b) && decide (1 ≤ imgDegree b ∧ imgDegree b ≤ 32)
  && decide (1 ≤ imgLists b ∧ imgLists b ≤ 16777216) && decide (1 ≤ imgEntries b ∧ imgEntries b ≤ 16 ∧ imgEntries b ≤ imgLists b)
  && decide (imgItems b ≤ 2 ^ 35) && decide (imgSpills b ≤ imgItems b) && decide (5 ≤ imgSections b ∧ imgSections b ≤ 14)
  && zeroRange b 10 12 && zeroRange b 61 64 && zeroRange b 80 128 && zeroRange b 704 4096
  && allBelow 16 (fun i => zeroRange b (128 + 32 * i + (if i < imgSections b then 17 else 0)) (160 + 32 * i))

/-- Sum of ESC_COUNT over the ordinals below n. -/
def imgEscSum (b : Bytes) (n : Nat) : Nat := (List.range n).foldl (fun a o => a + imgRowEsc b o) 0

/-- The size of a section (03 Table 03-7); section 8 is asked for apart. -/
def secSize (b : Bytes) (t : Nat) : Nat :=
  match t with
  | 1 => imgLists b * 32
  | 2 => imgLists b * imgCent b
  | 3 => imgEntries b * 4
  | 4 => imgItems b * imgRec b
  | 5 => imgSpills b * imgRec b
  | 6 => imgSpills b * 16
  | 7 => imgItems b * imgRow b
  | 8 => 4 * imgEscSum b (imgItems b)
  | 9 => imgDim b * 4
  | 10 => imgSketch b * imgDim b
  | 11 => imgItems b * 8
  | 12 => imgLists b * 8
  | 13 => imgLists b * 4
  | _ => 3325

/-- Sections in ascending TYPE without overlap from an offset, with zeros between them. -/
def secLayout (b : Bytes) : Nat → Nat → List Sec → Bool
  | _, pos, [] => decide (pos ≤ b.length) && zeroRange b pos b.length
  | prev, pos, s :: r =>
    decide (prev < s.typ ∧ s.typ ≤ 14) && decide (s.off % 4096 = 0) && decide (pos ≤ s.off) && decide (s.off + s.len ≤ b.length)
    && zeroRange b pos s.off && secLayout b s.typ (s.off + s.len) r

/-- BAD_SECTION does not hold. -/
def imgSectionsOk (b : Bytes) : Bool :=
  decide (imgBytes b = b.length) && secLayout b 0 4096 (imgSecs b)
  && [1, 2, 3, 4, 5, 6, 7, 9, 10, 11].all (fun t => imgHas b t == decide (0 < secSize b t))
  && (imgSecs b).all (fun s => s.typ == 8 || decide (s.len = secSize b s.typ ∧ 0 < s.len))
  && (imgHas b 8 == decide (0 < secSize b 8)) && ((imgSecs b).all (fun s => s.typ != 8 || s.len == secSize b 8))
  && decide (imgLoadBytes b = ((imgSecs b).filter (fun s => s.typ != 14)).foldl (fun a s => a + s.len) 0)
  && (!imgHas b 13 || allBelow (imgLists b) (fun l => fld (secLe b 13 (4 * l) 4) 30 9 == 0))

/-- BAD_LIST_TABLE does not hold, from list l on with the running sums. -/
def listTableOk (b : Bytes) : Nat → Nat → Nat → Nat → Bool
  | 0, _, p, s => decide (p = imgItems b ∧ s = imgSpills b)
  | n + 1, l, p, s =>
    decide (imgPriFirst b l = p ∧ imgSecFirst b l = s ∧ imgPriCount b l < 2 ^ 28 ∧ imgSecCount b l < 2 ^ 28)
    && secLe b 1 (32 * l + 12) 4 == 0 && secLe b 1 (32 * l + 28) 4 == 0
    && listTableOk b n (l + 1) (p + imgPriCount b l) (s + imgSecCount b l)

/-- BAD_GRAPH does not hold for one centroid. -/
def centroidOk (b : Bytes) (l : Nat) : Bool :=
  decide (imgCentDegree b l ≤ imgDegree b)
  && allBelow (imgDegree b) (fun i => if i < imgCentDegree b l then decide (imgAdj b l i < imgLists b) else imgAdj b l i == 0)
  && (imgCentCodes b l).all (fun c => !isEscape (imgFormat b) c && codeFinite (imgFormat b) c)
  && fld (leAt b (imgCentOff b l) 16) 127 70 == 0 && scaleOk (imgCentScale b l)
  && zeroRange b (imgCentOff b l + 16 + imgCodeBytes b + 3 * imgDegree b) (imgCentOff b l + imgCent b)

/-- BAD_GRAPH does not hold. -/
def imgGraphOk (b : Bytes) : Bool :=
  allBelow (imgLists b) (centroidOk b) && (imgEntryPoints b).all (fun e => decide (e < imgLists b))

/-- The list that owns record i of a region: its primary list (4) or the list whose secondary span holds it (5). -/
def imgListOf (b : Bytes) (t i : Nat) : Nat :=
  ((List.range (imgLists b)).find? (fun l =>
    let f := if t = 4 then imgPriFirst b l else imgSecFirst b l
    let n := if t = 4 then imgPriCount b l else imgSecCount b l
    decide (f ≤ i ∧ i < f + n))).getD 0

/-- Ordinals of the second records. -/
def imgSecOrds (b : Bytes) : List Nat := (List.range (imgSpills b)).map (imgRecOrd b 5)

/-- Reserved and padding bits of a record are zero. -/
def recReservedOk (b : Bytes) (t i : Nat) : Bool :=
  let h := imgRecHead b t i
  fld h 63 40 == 0 && fld h 37 35 == 0
  && zeroRange b (imgOff b t + imgRec b * i + 16 + imgSketch b / 8) (imgOff b t + imgRec b * (i + 1))

/-- BAD_RECORD does not hold. -/
def imgRecordsOk (b : Bytes) : Bool :=
  let so := imgSecOrds b
  allBelow (imgItems b) (fun i =>
    let h := imgRecHead b 4 i
    recReservedOk b 4 i && fld h 34 0 == i && !h.testBit 38 && (h.testBit 39 == so.contains i))
  && allBelow (imgSpills b) (fun i =>
    let h := imgRecHead b 5 i
    let o := fld h 34 0
    recReservedOk b 5 i && decide (o < imgItems b) && h.testBit 38 && !h.testBit 39 && so.count o == 1
    && imgListOf b 4 o != imgListOf b 5 i && imgRecSketch b 5 i == imgRecSketch b 4 o && imgRecAttr b 5 i == imgRecAttr b 4 o)

/-- BAD_SPILL_MAP does not hold, from entry i on. -/
def imgSpillMapOk (b : Bytes) : Bool :=
  allBelow (imgSpills b) (fun i =>
    let o := secLe b 6 (16 * i) 8
    let x := secLe b 6 (16 * i + 8) 8
    (i == 0 || decide (secLe b 6 (16 * (i - 1)) 8 < o)) && decide (x < imgSpills b) && imgRecOrd b 5 x == o)

/-- BAD_ROW does not hold, for n ordinals from o with the running side offset. -/
def rowsOk (b : Bytes) : Nat → Nat → Nat → Bool
  | 0, _, _ => true
  | n + 1, o, side =>
    let cs := imgRowCodes b o
    ((cs.filter (isEscape (imgFormat b))).length == imgRowEsc b o) && imgRowSide b o == side
    && cs.all (codeFinite (imgFormat b)) && fld (leAt b (imgRowOff b o) 16) 81 64 == 0
    && rowsOk b n (o + 1) (side + 4 * imgRowEsc b o)

/-- BAD_VALUE does not hold. -/
def imgValuesOk (b : Bytes) : Bool :=
  allBelow (imgItems b) (fun o => scaleOk (imgRowScale b o) && imgKey b o != 2 ^ 64 - 1)
  && (imgScales b).all posFinite
  && allBelow (secSize b 8 / 4) (fun i => fp32.isFin (secLe b 8 (4 * i) 4))

/-- Where the digest ends (03 R88). -/
def imgDigestEnd (b : Bytes) : Nat := match imgSec b 14 with
  | some s => s.off
  | none => imgBytes b

/-- The digest computed over the image (03 R88). -/
def imgComputeDigest (b : Bytes) : Bytes := shake256 (splice (b.take (imgDigestEnd b)) 640 (zeros 64)) 64

/-- The signature verifies under the owner key (03 R89). -/
def imgSignatureOk (b owner : Bytes) : Bool :=
  !owner.isEmpty && secSub b 14 0 8 == keyId owner && allZero (secSub b 14 8 8)
  && Config.mldsaVerify owner (imgDigest b) [] (secSub b 14 16 3309)

/-! ## Placement (03 R93 to R96) -/

/-- cap[t] for a SLICE_RESERVE_BYTES (03 R93, 12 R343). -/
def capOf (reserve t : Nat) : Nat := 6291456 - (if 256 ≤ t ∧ t < 272 then 4194304 else 0) - reserve

/-- The tile with the greatest cap[t] less load[t], the lowest on ties (03 R94). -/
def emptiest (caps loads : List Nat) : Nat :=
  let room (t : Nat) : Int := (caps.getD t 0 : Int) - loads.getD t 0
  (List.range 512).foldl (fun best t => if room best < room t then t else best) 0

/-- Owners of the lists of a Lot without a plan, from list l on (03 R94). -/
def placeOwners (b : Bytes) (caps : List Nat) : Nat → Nat → List Nat → List Nat
  | 0, _, _ => []
  | n + 1, l, loads =>
    let t := emptiest caps loads
    t :: placeOwners b caps n (l + 1) (loads.set t (loads.getD t 0 + imgCent b + imgListBytes b l))

/-- A placement: owners, resident flags, whether the graph is resident, and whether a list marked resident failed to fit. -/
structure Placed where
  owner : List Nat
  resident : List Bool
  graph : Bool
  overflow : Bool
  deriving DecidableEq, Repr

/-- The final loop of R94: charge capacity in ascending list number. -/
def placeResident (b : Bytes) (owner : List Nat) (want : Nat → Option Bool) : Nat → Nat → List Nat → List Bool × Bool
  | 0, _, _ => ([], false)
  | n + 1, l, free =>
    let t := owner.getD l 0
    let rb := imgListBytes b l
    let fits := decide (rb ≤ free.getD t 0)
    let res := match want l with
      | some w => w && fits
      | none => fits
    let r := placeResident b owner want n (l + 1) (if res then free.set t (free.getD t 0 - rb) else free)
    (res :: r.1, r.2 || (want l == some true && !fits))

/-- The placement of an image (03 R94, R95). -/
def placeImage (b : Bytes) (caps : List Nat) : Placed :=
  let n := imgLists b
  let plan := imgHas b 13
  let word (l : Nat) := secLe b 13 (4 * l) 4
  let owner := if plan then (List.range n).map (fun l => fld (word l) 8 0) else placeOwners b caps n 0 (List.replicate 512 0)
  let owned (t : Nat) := (owner.filter (· == t)).length
  let graph := allBelow 512 (fun t => decide (imgCent b * owned t ≤ caps.getD t 0))
  let free := (List.range 512).map (fun t => caps.getD t 0 - (if graph then imgCent b * owned t else 0))
  let want (l : Nat) : Option Bool := if plan then some ((word l).testBit 31) else none
  let r := placeResident b owner want n 0 free
  ⟨owner, r.1, graph, r.2⟩

/-- The lowest failing verification code, 0 when every check passes (03 R90). -/
def imgVerify (b owner : Bytes) (requireSig residentRequired : Bool) (p : Placed) : Nat :=
  if leAt b 0 8 ≠ 0x0000544F4C324E46 then 1
  else if leAt b 8 2 ≠ 1 then 2
  else if !imgHeaderOk b then 3
  else if !imgSectionsOk b then 4
  else if !listTableOk b (imgLists b) 0 0 0 then 5
  else if !imgGraphOk b then 6
  else if !imgRecordsOk b then 7
  else if !imgSpillMapOk b then 8
  else if !rowsOk b (imgItems b) 0 0 then 9
  else if !imgValuesOk b then 10
  else if imgComputeDigest b ≠ imgDigest b then 11
  else if requireSig && !imgHas b 14 then 12
  else if imgHas b 14 && !imgSignatureOk b owner then 13
  else if p.overflow then 14
  else if residentRequired && p.resident.any (fun r => !r) then 15
  else 0

end Sys2Proof.Machine
end

