-- ==== Sys2Proof/Machine/Query.lean ====
section
/-! DEFINITION. What a query computes, apart from when it runs: the message and its checks (04 R101 to R105), filters
(05 R137 to R139), preparation and probe (04 R123 to R126), the scan of a tile (05 R134, R140 to R142), scores and
final selection (05 R146 to R152), the result (05 R153) and the cascade merge (05 R158 to R161). -/

namespace Sys2Proof.Machine

/-! ## Filters (05) -/

/-- Term i of a filter, 128 bits (05 Table 05-2). -/
def filterTerm (f : Bytes) (i : Nat) : Nat := leAt f (8 + 16 * i) 16

/-- A term of a filter is well formed (05 R139). -/
def termOk (t : Nat) : Bool :=
  let hi := fld t 29 24
  let lo := fld t 21 16
  decide (hi ≤ 62) && decide (lo ≤ hi) && decide (fld t 127 64 < 2 ^ (hi - lo + 1)) && decide (1 ≤ fld t 3 0 ∧ fld t 3 0 ≤ 5)
  && fld t 63 30 == 0 && fld t 23 22 == 0 && fld t 15 10 == 0 && fld t 7 4 == 0

/-- A filter of a stated length is malformed (05 R139). -/
def filterMalformed (f : Bytes) (len : Nat) : Bool :=
  let h := leAt f 0 8
  let n := fld h 7 0
  let c := fld h 15 8
  let ts := (List.range n).map (filterTerm f)
  !(decide (1 ≤ n ∧ n ≤ 63) && decide (1 ≤ c ∧ c ≤ 63) && decide (len = 8 + 16 * n) && fld h 63 16 == 0
    && ts.all termOk && ((ts.filter (fun t => t.testBit 9)).length == c) && (ts.getD (n - 1) 0).testBit 9)

/-- The outcome of a term on an attribute word (05 R138). -/
def termHolds (t word : Nat) : Bool :=
  let f := fld word (fld t 29 24) (fld t 21 16)
  let a := fld t 127 64
  let r := match fld t 3 0 with
    | 1 => f == a
    | 2 => decide (f ≤ a)
    | 3 => decide (a ≤ f)
    | 4 => (f &&& a) != 0
    | _ => (f &&& a) == a
  r != t.testBit 8

/-- Does any clause hold? cur is the outcome of the clause so far (05 R137). -/
def clausesHold (word : Nat) : Bool → List Nat → Bool
  | _, [] => false
  | cur, t :: r =>
    let v := cur && termHolds t word
    if t.testBit 9 then v || clausesHold word true r else clausesHold word v r

/-- Does an attribute word pass a filter? The empty filter passes every word (05 R134). -/
def filterPass (f : Bytes) (word : Nat) : Bool :=
  f.isEmpty || clausesHold word true ((List.range (leAt f 0 1)).map (filterTerm f))

/-! ## Message header (04 Table 04-1) -/

/-- OPCODE of any message (13 R380). -/
def msgOp (b : Bytes) : Nat := leAt b 0 1
/-- COUNT. -/
def msgCount (b : Bytes) : Nat := leAt b 4 1
/-- INPUT_KIND. -/
def msgKind (b : Bytes) : Nat := leAt b 6 1
/-- FILTER_SEL. -/
def msgFilterSel (b : Bytes) : Nat := leAt b 7 1
/-- METRIC. -/
def msgMetric (b : Bytes) : Nat := leAt b 8 1
/-- ARITH. -/
def msgArith (b : Bytes) : Nat := leAt b 9 1
/-- TOWER. -/
def msgTower (b : Bytes) : Nat := leAt b 11 1
/-- K. -/
def msgK (b : Bytes) : Nat := leAt b 12 2
/-- PROBE. -/
def msgProbe (b : Bytes) : Nat := leAt b 14 2
/-- RERANK. -/
def msgRerank (b : Bytes) : Nat := leAt b 16 2
/-- INPUT_ELEMS. -/
def msgElems (b : Bytes) : Nat := leAt b 18 2
/-- FILTER_BYTES. -/
def msgFilterBytes (b : Bytes) : Nat := leAt b 20 2
/-- SEARCH_WIDTH. -/
def msgWidth (b : Bytes) : Nat := leAt b 22 2
/-- WIDEN. -/
def msgWiden (b : Bytes) : Nat := leAt b 24 2
/-- RESULT_SLOT. -/
def msgSlot (b : Bytes) : Nat := leAt b 28 4

/-- Bytes of the filter area (04 R102). -/
def msgFilterArea (b : Bytes) : Nat := if msgFilterSel b = 2 then roundUp (msgFilterBytes b) 64 else 0
/-- Bytes of one input without its padding. -/
def msgInputRaw (b : Bytes) : Nat := msgElems b * (if msgKind b = 1 then 4 else 2)
/-- Bytes of one input (04 R102). -/
def msgInputBytes (b : Bytes) : Nat := roundUp (msgInputRaw b) 64
/-- The inline filter. -/
def msgFilter (b : Bytes) : Bytes := sub b 64 (msgFilterBytes b)
/-- Input i of the message. -/
def msgInput (b : Bytes) (i : Nat) : Bytes := sub b (64 + msgFilterArea b + i * msgInputBytes b) (msgInputRaw b)

/-- Slots of a message: the first and how many (04 R105). -/
def msgSlots (b : Bytes) : Nat × Nat :=
  (msgSlot b, if msgOp b ≠ 2 ∧ 1 ≤ msgCount b ∧ msgCount b ≤ 64 then msgCount b else 1)

/-- The module discards the message (04 R105). -/
def msgDiscarded (b : Bytes) (slots : Nat) : Bool :=
  decide (b.length < 64) || decide (slots < (msgSlots b).1 + (msgSlots b).2)

/-- Reserved bits of the header are zero (04 Table 04-1). -/
def msgReservedOk (b : Bytes) : Bool :=
  zeroRange b 1 4 && zeroRange b 5 6 && zeroRange b 10 11 && zeroRange b 26 28 && zeroRange b 32 64

/-- Rule 1 of R104: the message is malformed. -/
def msgMalformed (b : Bytes) (setDefaults : Bool) : Bool :=
  !(msgReservedOk b && (msgOp b == (if setDefaults then 2 else 1)) && decide (msgKind b ≤ 1) && decide (msgArith b ≤ 3)
    && decide (msgMetric b ≤ 4) && decide (msgFilterSel b ≤ 2)
    && (if setDefaults then msgCount b == 0 else decide (1 ≤ msgCount b ∧ msgCount b ≤ 64))
    && b.length == 64 + msgFilterArea b + msgCount b * msgInputBytes b
    && zeroRange b (64 + (if msgFilterSel b = 2 then msgFilterBytes b else 0)) (64 + msgFilterArea b)
    && (List.range (msgCount b)).all (fun i =>
      let o := 64 + msgFilterArea b + i * msgInputBytes b
      zeroRange b (o + msgInputRaw b) (o + msgInputBytes b)))

/-- K_MAX of a session (13 R377). -/
def Session.kMax (x : Session) : Nat := if x.typ = 1 then min 1024 ((x.slotBytes - 64) / 16) else 0

/-- A SET_DEFAULTS message holds an invalid field (04 R103). -/
def defaultsInvalid (b : Bytes) (kMax : Nat) : Bool :=
  msgMalformed b true || decide (min 1024 kMax < msgK b) || decide (1024 < msgProbe b) || decide (4096 < msgRerank b)
  || decide (1024 < msgWidth b) || (decide (1024 < msgWiden b) && msgWiden b != 0xFFFF)
  || (decide (15 < msgTower b) && msgTower b != 0xFF)
  || (msgFilterSel b == 2 && filterMalformed (msgFilter b) (msgFilterBytes b))

/-! ## Effective parameters (04 R101) -/

/-- The value of a field: header, else override, else the 0x2100 entry in force; header 0 is the default. -/
def effective (hdr : Nat) (ov : List (Nat × Nat)) (bit dflt : Nat) : Nat := if hdr ≠ 0 then hdr else mGetD ov bit dflt

/-- The effective parameters of a message with a session's overrides, under the defaults in force. -/
def Module.paramsOf (m : Module) (b : Bytes) (ov : List (Nat × Nat)) (fl : Option Bytes) : Params :=
  let w := if msgWiden b = 0xFFFF then 0 else if msgWiden b ≠ 0 then msgWiden b else mGetD ov 3 (m.cfg 0x2100 0x04)
  { k := effective (msgK b) ov 0 (m.cfg 0x2100 0x01)
    p := effective (msgProbe b) ov 1 (m.cfg 0x2100 0x02)
    c := effective (msgRerank b) ov 2 (m.cfg 0x2100 0x03)
    pw := w
    width := effective (msgWidth b) ov 4 (m.cfg 0x2100 0x05)
    arith := effective (msgArith b) ov 5 (m.cfg 0x2100 0x06)
    metric := effective (msgMetric b) ov 6 (m.cfg 0x2100 0x07)
    tower := effective (msgTower b) ov 7 (m.cfg 0x2100 0x08)
    filter := if msgFilterSel b = 1 then [] else if msgFilterSel b = 2 then msgFilter b
              else match fl with
                | some f => f
                | none => m.cfgBytes 0x2100 0x09 0 }

/-- The length that the effective filter is judged by (05 R139). -/
def effectiveFilterLen (b : Bytes) (p : Params) : Nat := if msgFilterSel b = 2 then msgFilterBytes b else p.filter.length

/-- Widened probe count, p where widening is off (04 R112). -/
def Params.pWide (p : Params) : Nat := if p.pw = 0 then p.p else p.pw

/-- E of Table 04-4. -/
def Params.pool (p : Params) : Nat := max p.width p.pWide

/-- Effective values in range and in relation (04 R104 rule 3, 13 R378). -/
def Params.inRange (p : Params) (kMax : Nat) : Bool :=
  decide (1 ≤ p.k ∧ p.k ≤ 1024 ∧ p.k ≤ kMax) && decide (1 ≤ p.p ∧ p.p ≤ 1024) && decide (1 ≤ p.c ∧ p.c ≤ 4096)
  && (p.pw == 0 || decide (p.p ≤ p.pw ∧ p.pw ≤ 1024)) && decide (1 ≤ p.width ∧ p.width ≤ 1024)
  && (decide (1 ≤ p.tower ∧ p.tower ≤ 15) || p.tower == 0xFF) && decide (p.k ≤ p.c)
  && decide (1 ≤ p.arith ∧ p.arith ≤ 3) && decide (1 ≤ p.metric ∧ p.metric ≤ 4)

/-- Tower descriptor of tower number i (04 Table 04-6). -/
def Module.tower (m : Module) (i : Nat) : Bytes := sub (m.cfgBytes 0x2100 0x10 0) (32 * (i - 1)) 32
/-- FRAMES of a tower descriptor. -/
def towerFrames (d : Bytes) : Nat := leAt d 12 1
/-- OUT_DIM of a tower descriptor. -/
def towerOutDim (d : Bytes) : Nat := leAt d 8 2
/-- STREAM_ID of a tower descriptor. -/
def towerStream (d : Bytes) : Nat := leAt d 4 4
/-- QUERY_BYTES of a tower descriptor. -/
def towerBytes (d : Bytes) : Nat := leAt d 16 4
/-- QUERY_CLOCKS of a tower descriptor. -/
def towerQueryClocks (d : Bytes) : Nat := leAt d 20 4
/-- BASE_CLOCKS of a tower descriptor. -/
def towerBaseClocks (d : Bytes) : Nat := leAt d 24 4

/-- A query that names a tower keeps its conditions (04 R122). -/
def towerOk (d : Bytes) (kind elems dim depth : Nat) : Bool :=
  (leAt d 0 4).testBit 0 && leAt d 13 1 == kind && decide (elems ≤ leAt d 14 2) && towerOutDim d == dim
  && decide (towerFrames d ≤ max 1 (depth - 2))

/-- The BF16 values of an input. -/
def inputBf16 (inp : Bytes) (n : Nat) : List Nat := (List.range n).map (fun i => leAt inp (2 * i) 2)

/-- Rule 3 of R104 does not match a query: its parameters, metric, tower or input, and filter stand. -/
def queryOk (img : Bytes) (p : Params) (kMax kind elems : Nat) (inp desc : Bytes) (depth flen : Nat) (inline : Bool) : Bool :=
  p.inRange kMax && (p.metric == 1 || p.metric == imgMetric img + 2)
  && (if p.tower = 0xFF then kind == 0 && elems == imgDim img else towerOk desc kind elems (imgDim img) depth)
  && (kind == 1 || (inputBf16 inp elems).all bf16.isFin)
  && ((p.filter.isEmpty && !inline) || !filterMalformed p.filter flen)

/-! ## Preparation (04 R123 to R125) -/

/-- Exact sum of squares. -/
def sumSq (xs : List Rat) : Rat := xs.foldl (fun a x => a + x * x) 0

/-- The COS normalisation of one value: a rational and the FP32 reciprocal root (04 R123). -/
def normOne (s : Rat) (rho : Nat) (x : Rat) : Rat :=
  if fp32.isInf rho then
    let r := fp32.val (fp32.roundSqrt (x * x / s))
    if x < 0 then -r else r
  else fp32.val (round32 (x * fp32.val rho))

/-- The query input after any COS normalisation (04 R123). -/
def normalise (cos : Bool) (xs : List Rat) : List Rat :=
  let s := sumSq xs
  if !cos || s.num == 0 then xs else xs.map (normOne s (fp32.roundSqrt (1 / s)))

/-- A prepared query: BF16 values, Q2 and sketch. -/
structure Prepared where
  q : List Nat
  q2 : Nat
  sketch : Nat
  deriving DecidableEq, Repr

/-- Exact sum Σ a_c × b_c. -/
def dotR : List Rat → List Rat → Rat
  | a :: r, b :: s => a * b + dotR r s
  | _, _ => 0

/-- Bit j of the sketch of values (04 R125). -/
def sketchBit (img : Bytes) (xs : List Rat) (j : Nat) : Bool :=
  decide (0 < dotR xs ((List.range (imgDim img)).map (fun c => (imgProj img j c : Rat))))

/-- A number with given bits. -/
def bitsNat (n : Nat) (f : Nat → Bool) : Nat := (List.range n).foldl (fun a j => if f j then a + 2 ^ j else a) 0

/-- Preparation of an input of exact values; none where a q_c is infinite (04 R124). -/
def prepare (img : Bytes) (xs : List Rat) : Option Prepared :=
  let ys := normalise (imgMetric img == 2) xs
  let q := (ys.zip (imgScales img)).map (fun p => round16 (p.1 * fp32.val p.2))
  if q.any (fun x => !bf16.isFin x) then none
  else
    let qv := q.map bf16.val
    some ⟨q, round32 (sumSq ys), bitsNat (imgSketch img) (sketchBit img qv)⟩

/-! ## Scores (05 R146, R147) -/

/-- p_c rounded to FP32; +0 at an escape (05 R146). -/
def prodRound (fmt q code : Nat) : Nat :=
  if isEscape fmt code then 0 else ((bf16.xval q).mul (codeX fmt code)).round fp32

/-- D_ord in the Vat (05 Table 05-3): 1 EXACT, 2 CHUNK, 3 TREE. -/
def ordSum (arith fmt : Nat) (q codes : List Nat) : Acc :=
  let qc := q.zip codes
  if arith = 1 then
    accSum (qc.map (fun p => if isEscape fmt p.2 then .fin 0 false else (bf16.xval p.1).mul (codeX fmt p.2)))
  else
    let chunkSums := (chunks 32 qc).map (fun l => tree (l.map (fun p => prodRound fmt p.1 p.2)))
    if arith = 2 then accSum (chunkSums.map fp32.xval) else accSum [fp32.xval (tree chunkSums)]

/-- The query values at the escape codes, in order. -/
def escapeQ (fmt : Nat) (q codes : List Nat) : List Nat := ((q.zip codes).filter (fun p => isEscape fmt p.2)).map (·.1)

/-- D of R146: the ordinary sum and every escape term. -/
def scoreSum (arith fmt : Nat) (q codes sides : List Nat) : Acc :=
  ((escapeQ fmt q codes).zip sides).foldl (fun a p => a.add ((bf16.xval p.1).mul (fp32.xval p.2))) (ordSum arith fmt q codes)

/-- The score of a row or centroid (05 R146, R147). -/
def scoreOf (metric arith fmt : Nat) (q : List Nat) (q2 scale norm2 : Nat) (codes sides : List Nat) : Nat :=
  let t := ((fp32.xval scale).mul (scoreSum arith fmt q codes sides).xval).round fp32
  if metric ≠ 1 then t
  else if fp32.isFin q2 && fp32.isFin norm2 && fp32.isFin t then
    round32 (fp32.val q2 + fp32.val norm2 - 2 * fp32.val t)
  else
    let s := add32 q2 norm2
    if fp32.isFin t then add32 s 0 else if fp32.isNaN t then nan32 else add32 s (neg32 t)

/-- The score key of a score under a metric (03 R73, R74). -/
def metricKey (metric score : Nat) : Nat := scoreKey (if metric = 1 then score else neg32 score)

/-- Score key of a centroid, in CHUNK arithmetic (04 R126, 05 R148). -/
def centroidKey (img : Bytes) (q : List Nat) (q2 l : Nat) : Nat :=
  metricKey (imgMetric img)
    (scoreOf (imgMetric img) 2 (imgFormat img) q q2 (imgCentScale img l) (imgCentNorm img l) (imgCentCodes img l) [])

/-- Score of a row in a query's mode. -/
def rowScore (img : Bytes) (arith : Nat) (q : List Nat) (q2 o : Nat) : Nat :=
  scoreOf (imgMetric img) arith (imgFormat img) q q2 (imgRowScale img o) (imgRowNorm img o) (imgRowCodes img o) (imgSideList img o)

/-! ## The coarse probe (04 R126) -/

/-- A list of the pool: score key, number, expanded. -/
structure PoolEntry where
  key : Nat
  num : Nat
  done : Bool
  deriving DecidableEq, Repr

/-- Insert into a pool of at most e lists (04 R126). -/
def poolInsert (e : Nat) (pool : List PoolEntry) (key num : Nat) : List PoolEntry :=
  (insertBy (fun a b => decide (a.key < b.key ∨ a.key = b.key ∧ a.num ≤ b.num)) ⟨key, num, false⟩ pool).take e

/-- Visit lists that are not yet visited. -/
def visitAll (key : Nat → Nat) (e : Nat) : List Nat → List Nat × List PoolEntry → List Nat × List PoolEntry
  | [], s => s
  | l :: r, (vis, pool) =>
    if vis.contains l then visitAll key e r (vis, pool)
    else visitAll key e r (l :: vis, poolInsert e pool (key l) l)

/-- Mark a list expanded. -/
def markDone (n : Nat) (pool : List PoolEntry) : List PoolEntry := pool.map (fun x => if x.num = n then { x with done := true } else x)

/-- Up to n expansions: the lists scored, and the pool (04 R126). -/
def expand (key : Nat → Nat) (neigh : Nat → List Nat) (e : Nat) : Nat → List Nat × List PoolEntry → List Nat × List PoolEntry
  | 0, s => s
  | n + 1, (vis, pool) =>
    match pool.find? (fun x => !x.done) with
    | none => (vis, pool)
    | some x => expand key neigh e n (visitAll key e (neigh x.num) (vis, markDone x.num pool))

/-- The coarse probe of a prepared query: the lists whose centroids it scored, and its pool (04 R126). -/
def probePool (img : Bytes) (q : List Nat) (q2 : Nat) (p : Params) : List Nat × List PoolEntry :=
  let key := centroidKey img q q2
  let e := p.pool
  expand key (imgNeigh img) e e (visitAll key e (imgEntryPoints img) ([], []))

/-- The visit set of a prepared query (04 R126). -/
def probe (img : Bytes) (q : List Nat) (q2 : Nat) (p : Params) : List Nat := ((probePool img q q2 p).2.take p.pWide).map (·.num)

/-! ## Attribute words (03 R76, R78) -/

/-- The word of an ordinal of a Lot as it stands now. -/
def LotData.word (l : LotData) (o : Nat) : Nat := mGetD l.words o (imgRecAttr l.bytes 4 o)

/-- The word of an ordinal as it stood at the tick of frame a (03 R78). -/
def attrAt (hist : List OldWord) (l : LotData) (o a : Nat) : Nat :=
  match hist.find? (fun h => h.lot == l.number && h.ordinal == o && decide (a < h.tick)) with
  | some h => h.old
  | none => l.word o

/-! ## The scan (05) -/

/-- The records of a list in pass order: region and index (05 R134). -/
def listRecords (img : Bytes) (l : Nat) : List (Nat × Nat) :=
  ((List.range (imgPriCount img l)).map (fun i => (4, imgPriFirst img l + i)))
  ++ ((List.range (imgSecCount img l)).map (fun i => (5, imgSecFirst img l + i)))

/-- LKEY of a record for a query sketch (05 R134, R140). -/
def recordKey (img : Bytes) (sketch t i : Nat) : Nat :=
  popcount (imgSketch img) (nxor sketch (imgRecSketch img t i)) * 2 ^ 35 + imgRecOrd img t i

/-- The candidates of a list for a query, and how many of its records its filter stopped (05 R134). -/
def listCands (hist : List OldWord) (l : LotData) (sketch a : Nat) (filter : Bytes) (num : Nat) : List Nat × Nat :=
  (listRecords l.bytes num).foldl (fun (acc : List Nat × Nat) r =>
    let w := attrAt hist l (imgRecOrd l.bytes r.1 r.2) a
    if w.testBit 63 then acc
    else if !filterPass filter w then (acc.1, acc.2 + 1)
    else (acc.1 ++ [recordKey l.bytes sketch r.1 r.2], acc.2)) ([], 0)

/-- The C smallest distinct keys of a union (05 R141, R144). -/
def mergeKeys (c : Nat) (a b : List Nat) : List Nat := (dedup (sortBy (fun x y => decide (x ≤ y)) (a ++ b))).take c

/-- Lists of a query's visit set that a tile owns, with whether they are of the base tier, in ascending list number
(04 R128, 05 R133). -/
def tileLists (l : LotData) (visit : List Nat) (p tile : Nat) : List (Nat × Bool) :=
  sortBy (fun x y => decide (x.1 ≤ y.1))
    (((visit.zip (List.range visit.length)).filter (fun x => l.owner.getD x.1 0 == tile)).map (fun x => (x.1, decide (x.2 < p))))

/-- A tile's local sets of a query, base and widening, and the records its filter stopped (05 R141). -/
def localSets (hist : List OldWord) (l : LotData) (q : Query) (tile : Nat) : List Nat × List Nat × Nat :=
  (tileLists l q.visit q.params.p tile).foldl (fun (acc : List Nat × List Nat × Nat) x =>
    let r := listCands hist l q.sketch q.attrFrame q.params.filter x.1
    if x.2 then (mergeKeys q.params.c acc.1 r.1, acc.2.1, acc.2.2 + r.2)
    else (acc.1, mergeKeys q.params.c acc.2.1 r.1, acc.2.2 + r.2)) ([], [], 0)

/-- Second records that a query's scan reads on a tile (05 R141). -/
def secondRecords (l : LotData) (q : Query) (tile : Nat) : Nat :=
  (tileLists l q.visit q.params.p tile).foldl (fun n x => n + imgSecCount l.bytes x.1) 0

/-- Q_W (04 R113). -/
def queriesPerPass (w : Nat) : Nat := 16384 / w

/-- For one member of a group in one pass: the records at which an entry goes to its tail, given its set before the
pass (05 R142, log 31). -/
def tailMoves (lp c : Nat) : List (Option Nat) → List Nat → List Bool
  | [], _ => []
  | none :: r, s => false :: tailMoves lp c r s
  | some k :: r, s =>
    if s.contains k then false :: tailMoves lp c r s
    else
      let s' := mergeKeys c s [k]
      (decide (lp < c ∧ lp ≤ s.length) && s'.contains k) :: tailMoves lp c r s'

/-! ## Final selection (05 R149 to R152) -/

/-- A member of a re-rank set with what it is ordered by. -/
structure Scored where
  score : Nat
  skey : Nat
  key : Nat
  ordinal : Nat
  dist : Nat
  device : Nat
  shard : Nat
  deriving DecidableEq, Repr

/-- The order of R149 and R160: score key, item key, device, ordinal. -/
def Scored.le (a b : Scored) : Bool :=
  decide (a.skey < b.skey ∨ a.skey = b.skey ∧ (a.key < b.key ∨ a.key = b.key ∧
    (a.device < b.device ∨ a.device = b.device ∧ a.ordinal ≤ b.ordinal)))

/-- A member of the re-rank set, by its LKEY. -/
def scoreMember (img : Bytes) (arith : Nat) (q : List Nat) (q2 device lkey : Nat) : Scored :=
  let o := lkey % 2 ^ 35
  let s := rowScore img arith q q2 o
  ⟨s, metricKey (imgMetric img) s, imgKey img o, o, lkey / 2 ^ 35, device, imgShard img⟩

/-- The mass function on a score (05 R152): FP32 bits. -/
def massFn (f beta score : Nat) : Nat :=
  if f = 0 then (if fp32.isNaN score then nan32 else score)
  else exp2F (((fp32.xval beta).mul (fp32.xval score)).round fp32)

/-- Masses of a set as counts and an exact sum: NaN, +infinity, -infinity, Vat integer (05 R152, R161). -/
structure MassSum where
  nan : Int
  pos : Int
  neg : Int
  sum : Int
  deriving DecidableEq, Repr

/-- Add one f value. -/
def MassSum.add (a : MassSum) (f : Nat) : MassSum :=
  if fp32.isNaN f then { a with nan := a.nan + 1 }
  else if fp32.isInf f then (if fp32.sign f then { a with neg := a.neg + 1 } else { a with pos := a.pos + 1 })
  else { a with sum := a.sum + toVat (fp32.val f) }

/-- Masses of a list of f values. -/
def massSum (fs : List Nat) : MassSum := fs.foldl MassSum.add ⟨0, 0, 0, 0⟩

/-- One set less another (05 R161). -/
def MassSum.minus (a b : MassSum) : MassSum := ⟨a.nan - b.nan, a.pos - b.pos, a.neg - b.neg, a.sum - b.sum⟩

/-- Two sets together. -/
def MassSum.plus (a b : MassSum) : MassSum := ⟨a.nan + b.nan, a.pos + b.pos, a.neg + b.neg, a.sum + b.sum⟩

/-- The FP32 mass (05 R152). -/
def MassSum.bits (a : MassSum) : Nat :=
  if 0 < a.nan ∨ (0 < a.pos ∧ 0 < a.neg) then nan32
  else if 0 < a.pos then inf32 else if 0 < a.neg then ninf32 else round32 (vatVal a.sum)

/-- What a selection gives (05 R149 to R152). -/
structure Selection where
  returned : List Scored
  ties : Nat
  kth : Nat
  deriving DecidableEq, Repr

/-- Final selection of the best k of an ordered set (05 R149, R150). -/
def selectBest (k : Nat) (ordered : List Scored) : Selection :=
  let r := ordered.take k
  let kth := match r.getLast? with
    | some x => x.skey
    | none => 0xFFFFFFFF
  ⟨r, if r.isEmpty then 0 else ((ordered.drop k).filter (fun x => x.skey == kth)).length, kth⟩

/-! ## Result records (05 R153 to R155) -/

/-- A result entry (05 Table 05-4). -/
def entryBytes (e : Scored) (tied : Bool) : Bytes :=
  toLe 8 e.key ++ toLe 4 e.score ++ toLe 2 e.dist ++ toLe 1 e.shard ++ toLe 1 (1 + put (b2n tied) 1 2)

/-- An invalid entry (05 R151). -/
def invalidEntry : Bytes := toLe 8 (2 ^ 64 - 1) ++ zeros 8

/-- A result summary (05 Table 05-5). -/
def summaryBytes (status arith : Nat) (widened : Bool) (reranked count ties kth selected residual lot admSfc missing : Nat) : Bytes :=
  toLe 8 (put status 4 0 + put (b2n widened) 1 7 + put arith 2 8 + put (min reranked 65535) 16 16 + put count 16 32
    + put (min ties 65535) 16 48)
  ++ toLe 4 kth ++ toLe 4 selected ++ toLe 4 residual ++ toLe 4 lot ++ toLe 8 admSfc ++ toLe 32 missing

/-- A completion without entries (05 R154). -/
def bareCompletion (status lot admSfc : Nat) : Bytes := toLe 20 status ++ toLe 4 lot ++ toLe 8 admSfc ++ zeros 32

/-- The entries of a result, k positions (05 R151, R153). -/
def entriesBytes (k : Nat) (sel : Selection) : Bytes :=
  (sel.returned.map (fun e => entryBytes e (decide (0 < sel.ties) && e.skey == sel.kth))).flatten
  ++ (List.replicate (k - sel.returned.length) invalidEntry).flatten

/-- The re-rank set of a query and whether it is widened (05 R145). -/
def Query.rerankSet (q : Query) : List Nat × Bool :=
  if q.params.pw = 0 ∨ q.params.k ≤ q.base.length then (q.base, false)
  else (mergeKeys q.params.c q.base q.wide, true)

/-- The ordered, scored re-rank set (05 R149). -/
def Query.scored (q : Query) (img : Bytes) (device : Nat) : List Scored :=
  sortBy Scored.le (q.rerankSet.1.map (scoreMember img q.params.arith q.q q.q2 device))

/-- The status of a result with entries (05 R155). -/
def resultStatus (deferred partial_ : Bool) (count k : Nat) : Nat :=
  if deferred then 3 else if partial_ then 2 else if count < k then 1 else 0

/-- A local query's whole completion (05 R153). -/
def Query.result (q : Query) (img : Bytes) (device : Nat) : Bytes :=
  let ord := q.scored img device
  let sel := selectBest q.params.k ord
  let f (x : Scored) := massFn q.massF q.beta x.score
  let s := massSum (sel.returned.map f)
  let r := massSum ((ord.drop q.params.k).map f)
  summaryBytes (resultStatus q.deferred false sel.returned.length q.params.k) q.params.arith q.rerankSet.2 ord.length
    sel.returned.length sel.ties sel.kth s.bits r.bits q.lot q.admSfc 0 ++ entriesBytes q.params.k sel

/-! ## Shard answers and the cascade merge (05 R156 to R161) -/

/-- A shard answer: header and candidate records (05 Tables 05-6 and 05-7). -/
def Query.answer (q : Query) (img : Bytes) (device status : Nat) : Bytes :=
  let ord := q.scored img device
  let sel := selectBest q.params.k ord
  let t := massSum (ord.map (fun x => massFn q.massF q.beta x.score))
  toLe 8 (put status 4 0 + put (b2n q.rerankSet.2) 1 4 + put t.neg.toNat 13 11 + put t.pos.toNat 13 24 + put t.nan.toNat 13 37)
  ++ toLe 1 device ++ toLe 1 (imgShard img) ++ toLe 2 sel.returned.length ++ toLe 2 ord.length ++ toLe 2 (min sel.ties 65535)
  ++ toLe 4 q.tag ++ toLe 4 q.lot ++ toLe 40 (unsgn 320 t.sum)
  ++ (sel.returned.map (fun e => entryBytes e false ++ toLe 8 e.ordinal)).flatten

/-- An answer without candidates: BUSY, BAD_REQUEST, NO_LOT or FAULT. -/
def bareAnswer (status device shard tag lot : Nat) : Bytes :=
  toLe 8 status ++ toLe 1 device ++ toLe 1 shard ++ zeros 6 ++ toLe 4 tag ++ toLe 4 lot ++ zeros 40

/-- The candidates of a held answer. -/
def Answer.cands (a : Answer) (metric : Nat) : List Scored :=
  (List.range (a.recs.length / 24)).map (fun i =>
    let o := 24 * i
    let s := leAt a.recs (o + 8) 4
    ⟨s, metricKey metric s, leAt a.recs o 8, fld (leAt a.recs (o + 16) 8) 34 0, leAt a.recs (o + 12) 2, a.device, leAt a.recs (o + 14) 1⟩)

/-- STATUS of an answer. -/
def Answer.status (a : Answer) : Nat := leAt a.header 0 1 % 16
/-- LOT of an answer. -/
def Answer.lot (a : Answer) : Nat := leAt a.header 20 4
/-- The masses of an answer over its whole re-rank set. -/
def Answer.mass (a : Answer) : MassSum :=
  let w := leAt a.header 0 8
  ⟨(fld w 49 37 : Nat), (fld w 36 24 : Nat), (fld w 23 11 : Nat), sgn 320 (leAt a.header 24 40)⟩

/-- The entry module accepts an answer (05 R158). -/
def Answer.acceptable (a : Answer) (lot : Nat) : Bool := decide (a.status ≤ 1) && a.lot == lot

/-- The answer taken for a shard index: the acceptable one from the lowest device (05 R158). -/
def answerFor (as : List Answer) (lot s : Nat) : Option Answer :=
  (as.filter (fun a => a.shard == s && a.acceptable lot)).foldl (fun (best : Option Answer) a =>
    match best with
    | none => some a
    | some b => if a.device < b.device then some a else best) none

/-- The merged completion of a cascade query from the answers at hand, and how many shards are missing
(05 R159 to R161). -/
def Query.merged (q : Query) (metric shards : Nat) (as : List Answer) : Bytes × Nat :=
  let got := (List.range shards).filterMap (answerFor as q.lot)
  let miss := (List.range shards).filter (fun s => (answerFor as q.lot s).isNone)
  let all := sortBy Scored.le ((got.map (fun a => a.cands metric)).flatten)
  let sel := selectBest q.params.k all
  let f (x : Scored) := massFn q.massF q.beta x.score
  let s := massSum (sel.returned.map f)
  let total : MassSum := got.foldl (fun (a : MassSum) x => a.plus x.mass) ⟨0, 0, 0, 0⟩
  let localTies := got.foldl (fun n a =>
    let cs := a.cands metric
    if cs.length = q.params.k ∧ (cs.getLast?.map (·.skey)) = some sel.kth then n + leAt a.header 14 2 else n) 0
  let ties := if sel.returned.isEmpty then 0 else sel.ties + localTies
  let sel := { sel with ties := ties }
  (summaryBytes (resultStatus q.deferred (decide (0 < miss.length)) sel.returned.length q.params.k) q.params.arith
     (got.any (fun a => (leAt a.header 0 1).testBit 4)) (got.foldl (fun n a => n + leAt a.header 12 2) 0)
     sel.returned.length ties sel.kth s.bits (total.minus s).bits q.lot q.admSfc (bitsNat 256 (fun i => miss.contains i))
   ++ entriesBytes q.params.k sel, miss.length)

end Sys2Proof.Machine
end

