-- ==== Sys2Proof/Machine/Weir.lean ====
section
/-! DEFINITION. The Weir unit (09 R262 to R270), the SKE pass of a stream (05 R134, R140 to R142, 08 R235), and winner
records (09 R271 to R276). -/

namespace Sys2Proof.Machine

/-! ## Entries and runs -/

/-- KEY of a Weir entry (09 Table 09-1). -/
def entKey (e : Nat) : Nat := fld e 127 32
/-- The tie field KEY[95:64]. -/
def entTie (e : Nat) : Nat := fld e 127 96
/-- All ones: not a candidate. -/
def noEntry : Nat := 2 ^ 128 - 1

/-- DUP_KEEP of a run header (09 Table 09-2). -/
def hdrDupKeep (h : Nat) : Bool := h.testBit 0
/-- SRC8. -/
def hdrSrc8 (h : Nat) : Bool := h.testBit 4
/-- NEGATE. -/
def hdrNegate (h : Nat) : Bool := h.testBit 5
/-- MASS_F. -/
def hdrMassF (h : Nat) : Nat := fld h 7 6
/-- KEEP. -/
def hdrKeep (h : Nat) : Nat := fld h 76 64
/-- BETA. -/
def hdrBeta (h : Nat) : Nat := fld h 127 96

/-- The f value of a candidate (09 R270). -/
def entMass (h e : Nat) : Nat :=
  let k := entTie e
  let u := if 0x80000000 ≤ k then k % 0x80000000 else 0xFFFFFFFF - k
  massFn (hdrMassF h - 1) (hdrBeta h) (if hdrNegate h then neg32 u else u)

/-- Count a candidate of a run (09 R268, R270). -/
def Run.counted (r : Run) (e : Nat) : Run :=
  let r := { r with offered := satAdd 32 r.offered 1 }
  if hdrMassF r.header = 0 then r
  else
    let f := entMass r.header e
    if fp32.isNaN f then { r with nans := satAdd 32 r.nans 1 }
    else if fp32.isInf f then (if fp32.sign f then { r with negInf := satAdd 32 r.negInf 1 } else { r with posInf := satAdd 32 r.posInf 1 })
    else { r with total := unsgn 320 ((r.total : Int) + toVat (fp32.val f)) }

/-- Place an entry after every entry whose KEY is not greater. -/
def placeEntry (e : Nat) : List Nat → List Nat
  | [] => [e]
  | x :: r => if entKey x ≤ entKey e then x :: placeEntry e r else e :: x :: r

/-- The tie field of the height of a full run. -/
def heightTie (l : List Nat) : Nat := entTie (l.getLast?.getD 0)

/-- Insert one candidate (09 R264, R269): the run, and an entry that is left out and goes to a tail. -/
def Run.insert (r : Run) (e : Nat) : Run × Option Nat :=
  if entKey e = 2 ^ 96 - 1 then (r, none)
  else
    let full := decide (r.keep ≤ r.entries.length)
    let top := entKey (r.entries.getLast?.getD 0)
    let twin := r.entries.any (fun x => entKey x == entKey e)
    if full && (decide (top < entKey e) || (twin && hdrDupKeep r.header && top == entKey e)) then
      ({ r.counted e with ties := if entTie e = heightTie r.entries then r.ties + 1 else r.ties }, some e)
    else if twin && !hdrDupKeep r.header then ({ r with dups := satAdd 32 r.dups 1 }, none)
    else
      let l := placeEntry e r.entries
      if !full then ({ r.counted e with entries := l }, none)
      else
        let kept := l.take r.keep
        let t := if heightTie kept = heightTie r.entries then r.ties + 1 else 0
        ({ r.counted e with entries := kept, ties := t }, l.getLast?)

/-- Insert candidates in source order. -/
def Run.insertAll (r : Run) (es : List Nat) : Run := es.foldl (fun r e => (r.insert e).1) r

/-- Two spans of lists meet. -/
def spansMeet (a n b k : Nat) : Bool := decide (a < b + k ∧ b < a + n)

/-- The live run of a span; none where none is live. -/
def findRun (l : List Run) (wl wc : Nat) : Option Run := l.find? (fun r => r.wlist == wl && r.wcount == wc)

/-- A span overlaps a live run without matching it (09 R263). -/
def spanClash (l : List Run) (wl wc : Nat) : Bool :=
  l.any (fun r => spansMeet wl wc r.wlist r.wcount && !(r.wlist == wl && r.wcount == wc))

/-- Replace the run of a span. -/
def putRun (l : List Run) (r : Run) : List Run := l.filter (fun x => !(x.wlist == r.wlist && x.wcount == r.wcount)) ++ [r]

/-- An empty run of a span under a header. -/
def newRun (wl wc h : Nat) : Run := { wlist := wl, wcount := wc, header := h, keep := hdrKeep h }

/-- A well-formed run header for a span: reserved bits zero, MASS_F below 3 (09 Table 09-2). -/
def hdrReservedOk (h : Nat) : Bool := fld h 95 77 == 0 && fld h 63 8 == 0 && fld h 3 1 == 0

/-- KEEP, MASS_F and BETA in range (09 R263, R265). -/
def hdrInRange (h wc : Nat) : Bool :=
  decide (1 ≤ hdrKeep h ∧ hdrKeep h ≤ 32 * wc) && hdrMassF h != 3 && (hdrMassF h != 2 || fp32.isFin (hdrBeta h))

/-! ## Draining (09 R268 to R270) -/

/-- Masses of the kept entries. -/
def Run.keptMass (r : Run) : MassSum := massSum (r.entries.map (entMass r.header))

/-- The mass record (09 Table 09-4). -/
def Run.massRecord (r : Run) : Bytes :=
  if hdrMassF r.header = 0 then zeros 64
  else
    let k := r.keptMass
    let all : MassSum := ⟨r.nans, r.posInf, r.negInf, sgn 320 r.total⟩
    let res := all.minus k
    toLe 4 0 ++ toLe 4 r.negInf ++ toLe 4 r.posInf ++ toLe 4 r.nans ++ toLe 4 { res with sum := wrapVat res.sum }.bits ++ toLe 4 k.bits
      ++ toLe 40 r.total

/-- What a WDRAIN writes (09 R268). -/
def Run.drain (r : Run) (mass : Bool) : Bytes :=
  let n := r.entries.length
  toLe 16 (put n 13 0 + put r.keep 13 16 + put r.dups 32 32 + put (if n < r.keep then 0 else min r.ties (2 ^ 32 - 1)) 32 64 + put r.offered 32 96)
  ++ (r.entries.map (toLe 16)).flatten ++ List.replicate (16 * (r.keep - n)) 255
  ++ (if mass then r.massRecord else [])

/-! ## The SKE pass of a stream (08 R235, 05 R142) -/

/-- The header of a run that an SKSCAN fixes: KEEP = 32 × WCOUNT, duplicates dropped, no mass (09 R266). -/
def scanHeader (wc : Nat) : Nat := put (32 * wc) 13 64

/-- One query of a group: sketch, filter, run, tail. -/
structure ScanQuery where
  sketch : Nat
  filter : Bytes
  run : Run
  tailCap : Nat
  tailOff : Nat
  tail : List Nat
  deriving DecidableEq, Repr

/-- A Weir entry of a 64-bit key. -/
def keyEntry (k : Nat) : Nat := put k 64 32

/-- An entry that the run left out goes to the tail, unless it is worse than the C-th best of run and tail together, C
being what the two hold (05 R142, log 31). -/
def ScanQuery.tailTakes (q : ScanQuery) (run : Run) (x : Nat) : Bool :=
  let real := q.tail.filter (fun k => k != 2 ^ 64 - 1)
  let set := dedup (sortBy (fun a b => decide (a ≤ b)) (real ++ run.entries.map (fun e => fld (entKey e) 63 0)))
  let c := run.keep + q.tailCap
  decide (0 < q.tailCap) && (decide (set.length < c) || decide (x ≤ set.getD (c - 1) 0))

/-- One record for one query: the query, whether an entry went to its tail, whether its filter stopped it. -/
def ScanQuery.meet (q : ScanQuery) (w rec : Nat) : ScanQuery × Bool × Bool :=
  let attr := fld rec 127 64
  if attr.testBit 63 then (q, false, false)
  else if !filterPass q.filter attr then (q, false, true)
  else
    let h := popcount w (nxor q.sketch (fld rec (127 + w) 128))
    let r := q.run.insert (keyEntry (h * 2 ^ 35 + fld rec 34 0))
    match r.2.map (fun e => fld (entKey e) 63 0) with
    | some x =>
      if q.tailTakes r.1 x then ({ q with run := r.1, tail := q.tail ++ [x] }, true, false)
      else ({ q with run := r.1 }, false, false)
    | none => ({ q with run := r.1 }, false, false)

/-- What a pass leaves: the queries, filtered records, stall clocks. -/
structure ScanOut where
  qs : List ScanQuery
  filtered : Nat
  stall : Nat
  deriving DecidableEq, Repr

/-- Stream records through a group (05 R134, R142). -/
def scanPass (w : Nat) : List Nat → ScanOut → ScanOut
  | [], s => s
  | r :: rest, s =>
    let rs := s.qs.map (fun q => q.meet w r)
    let e := (rs.filter (fun x => x.2.1)).length
    scanPass w rest ⟨rs.map (·.1), s.filtered + (rs.filter (fun x => x.2.2)).length, s.stall + (ceilDiv e 16 - 1)⟩

/-- The tail merge at the end of a pass (05 R142, 09 R266): the tail in ascending order, and the duplicates it held. -/
def ScanQuery.mergeTail (q : ScanQuery) : List Nat × Nat :=
  let kept := q.run.entries.map (fun e => fld (entKey e) 63 0)
  let real := q.tail.filter (fun k => k != 2 ^ 64 - 1)
  let fresh := (dedup real).filter (fun k => !kept.contains k)
  ((sortBy (fun a b => decide (a ≤ b)) fresh).take q.tailCap, real.length - fresh.length)

/-! ## Winner records (09 R271 to R275) -/

/-- Element bytes of FMT: 0 FP32, 1 BF16, 2 U32 key. -/
def winBytes (fmt : Nat) : Nat := if fmt = 1 then 2 else 4

/-- The comparable form of an element: NaN, or a number. -/
def winVal (fmt x : Nat) : XVal := if fmt = 2 then .fin (x : Rat) false else if fmt = 1 then bf16.xval x else fp32.xval x

/-- Is a strictly better than b under OP (0 ARGMAX, 1 MAX, 2 MIN), index apart (09 Table 09-6)? -/
def winBeats (op : Nat) (a b : XVal) : Bool :=
  let lt (x y : XVal) : Bool := match x, y with
    | .fin u _, .fin v _ => decide (u < v)
    | .inf true, .inf true => false
    | .inf true, _ => true
    | .inf false, _ => false
    | .fin _ _, .inf s => !s
    | _, _ => false
  match a, b with
  | .nan, .nan => false
  | .nan, _ => true
  | _, .nan => false
  | x, y => if op = 2 then lt x y else lt y x

/-- The winner of a row: its index, by the lowest index among equals. -/
def winRow (op fmt : Nat) : Nat → Option (Nat × Nat) → List Nat → Option (Nat × Nat)
  | _, best, [] => best
  | i, none, x :: r => winRow op fmt (i + 1) (some (i, x)) r
  | i, some (j, y), x :: r => winRow op fmt (i + 1) (if winBeats op (winVal fmt x) (winVal fmt y) then some (i, x) else some (j, y)) r

/-- VALUE of a winner record (09 Table 09-7). -/
def winValue (fmt x : Nat) : Nat := if fmt = 2 then x else if fmt = 1 then widen16 x else if fp32.isNaN x then nan32 else x

/-- A winner record. -/
def winRecord (index value : Nat) : Nat := 1 + put value 32 32 + put index 64 64

/-- VALID of a record. -/
def recValid (r : Nat) : Bool := r.testBit 0
/-- The comparable value of a record: a BF16 winner stands widened to FP32. -/
def recVal (fmt r : Nat) : XVal := winVal (if fmt = 2 then 2 else 0) (fld r 63 32)

/-- The better of a stored and an arriving record (09 R275). -/
def winCombine (op fmt stored arriving : Nat) : Nat :=
  if !recValid arriving then stored
  else if !recValid stored then arriving
  else
    let a := recVal fmt stored
    let b := recVal fmt arriving
    if winBeats op b a then arriving
    else if winBeats op a b then stored
    else if fld arriving 127 64 < fld stored 127 64 then arriving else stored

end Sys2Proof.Machine
end

