-- ==== Sys2Proof/Machine/StreamOps.lean ====
section
/-! DEFINITION. How a tile's stream engine issues a command of a user context (08 R226 to R230, R240, R246, R253),
what a stream fault does (08 R259), and remote operations of streams (14 R414, R415). -/

namespace Sys2Proof.Machine

/-! ## Stream sets and contexts -/

/-- A stream set. -/
def Module.streamSet (m : Module) (id : Nat) : StreamSet := mGetD m.streams.sets id {}

/-- Change a stream set. -/
def Module.onSet (m : Module) (id : Nat) (f : StreamSet → StreamSet) : Module :=
  { m with streams := { m.streams with sets := mMod m.streams.sets id f } }

/-- A context of a tile. -/
def Module.ctx (m : Module) (t k : Nat) : Ctx := mGetD (m.tile t).ctxs k {}

/-- Change a context that a set holds. -/
def Module.onCtx (m : Module) (t k : Nat) (f : Ctx → Ctx) : Module :=
  m.onTile t (fun x => { x with ctxs := mMod x.ctxs k f })

/-- The tiles of a set. -/
def StreamSet.tiles (s : StreamSet) : List Nat :=
  (List.range (armLast s.header + 1 - armFirst s.header)).map (fun i => armFirst s.header + i)

/-- Change the context of a set on each of its tiles. -/
def Module.onSetCtxs (m : Module) (s : StreamSet) (f : Ctx → Ctx) : Module :=
  s.tiles.foldl (fun (m : Module) t => m.onCtx t (armCtx s.header) f) m

/-- The next command of a context; none past the end of its list. -/
def Module.nextCmd (m : Module) (t k : Nat) : Option Nat :=
  let c := m.ctx t k
  if c.pc < armCmdCount (m.streamSet c.setId).header then some (leNat (m.sliceRead t (c.region + 32 * c.pc) 32)) else none

/-- Note dependence markers that are satisfied now: a target once reached is not tested again (08 R240). -/
def Module.settle (m : Module) (t : Nat) : Module :=
  [2, 3, 4, 5, 6, 7].foldl (fun (m : Module) k =>
    let c := m.ctx t k
    if c.state ≠ 1 ∨ c.depMet then m
    else match m.nextCmd t k with
      | none => m
      | some w =>
        if cmdDep w && !evtReached (mGetD (m.tile t).events (cmdDepEvt w) 0) (cmdDepCount w) then m
        else m.onCtx t k (fun c => { c with depMet := true, held := 0 })) m

/-- Change an event counter and note what it satisfies. -/
def Module.advance (m : Module) (t e op v : Nat) : Module := (m.evtChange t e op v).settle t

/-- A SIGNAL reaches a tile (08 R237, R239). -/
def Module.signal (m : Module) (t e op v : Nat) : Module := (m.signalTile t e op v).settle t

/-- Clocks and LPDDR5X bytes of a set's grant in frame n (08 R251): a TOWER set's grant is what gate 1 charged. -/
def Module.setGrant (m : Module) (id : Nat) (s : StreamSet) (n : Nat) : Nat × Nat :=
  if armTower s.header then
    let g : Ledger := mGetD m.search.ledger n {}
    (List.range 15).foldl (fun (a : Nat × Nat) i =>
      let d := m.tower (i + 1)
      if (leAt d 0 4).testBit 0 && towerStream d == id then
        g.towerQ.foldl (fun (a : Nat × Nat) p =>
          if p.1 / 16 = i + 1 ∧ p.2 ≠ 0 then
            (a.1 + towerBaseClocks d + towerQueryClocks d * ceilDiv p.2 512, a.2 + towerBytes d * p.2) else a) a
      else a) (0, 0)
  else (armGrantClocks s.header, armGrantBytes s.header)

/-! ## Faults (08 R259, R260) -/

/-- The 32 bytes of a stream status record (08 Table 08-15). -/
def statusRecord (id debt state code tile cmd sfc arm : Nat) : Bytes :=
  toLe 32 (put id 32 0 + put debt 32 32 + put state 8 80 + put code 8 88 + put tile 9 103 + put cmd 16 112 + put sfc 64 128 + put arm 64 192)

/-- The largest debt of a set over its tiles. -/
def Module.setDebt (m : Module) (s : StreamSet) : Nat := listMax (s.tiles.map (fun t => (m.ctx t (armCtx s.header)).debt))

/-- A stream fault of a set, found on a tile (08 R259). -/
def Module.faultSet (m : Module) (id t cmd code : Nat) : Module :=
  let s := m.streamSet id
  let m := m.onSetCtxs s (fun c => { c with state := 4, busy := 0 })
  let m := m.onSet id (fun s => { s with state := if s.state = 5 then 5 else 4, faultSfc := m.clock.sfc, faultCmd := cmd, faultTile := t, faultCode := code })
  let rec_ := statusRecord id (m.setDebt s) 4 code t cmd m.clock.sfc s.armSfc
  (({ m with streams := { m.streams with lastFault := rec_ } }).count 0x3100 0x0C 1).event 0x0005 1 (put code 8 0 + put t 9 16 + put id 32 32)

/-- A stream fault of a context. -/
def Module.streamFault (m : Module) (t k code : Nat) : Module :=
  let c := m.ctx t k
  m.faultSet c.setId t c.pc code

/-- The first code whose condition holds; 0 for none. -/
def firstFault : List (Bool × Nat) → Nat
  | [] => 0
  | (b, c) :: r => if b then c else firstFault r

/-! ## Addresses and rights (08 R229, R230, R246) -/

/-- The effective global address of an address operand (08 R229). -/
def Ctx.addr (c : Ctx) (a : Nat) : Nat :=
  ((if addrBase a = 0 then 0xFF80000000000000 else mGetD c.regs (addrBase a) 0) + addrOff a) % 2 ^ 64

/-- The slice byte of a slice offset. -/
def Ctx.at (c : Ctx) (soff : Nat) : Nat := c.region + 4 * soff

/-- A slice offset with its length stays within the region. -/
def Ctx.holds (c : Ctx) (soff len : Nat) : Bool := decide (4 * soff + len ≤ c.bytes)

/-- A place lies in the slice region of a tile of the set. -/
def Module.inSetSlice (m : Module) (s : StreamSet) (l : Loc) (n : Nat) : Bool :=
  match l with
  | .slice t o =>
    let c := m.ctx t (armCtx s.header)
    armHasTile s.header t && decide (c.region ≤ o ∧ o + n ≤ c.region + c.bytes)
  | _ => false

/-- A place lies in the tile's own slice region. -/
def Module.inOwnSlice (m : Module) (t k : Nat) (l : Loc) (n : Nat) : Bool :=
  match l with
  | .slice u o =>
    let c := m.ctx t k
    u == t && decide (c.region ≤ o ∧ o + n ≤ c.region + c.bytes)
  | _ => false

/-- A range of LPDDR5X lies in the set's own range. -/
def StreamSet.inLpddr (s : StreamSet) (o n : Nat) : Bool := decide (armLpBase s.header ≤ o ∧ o + n ≤ armLpBase s.header + armLpBytes s.header)

/-- The row regions and remainder tables of active and staged versions. -/
def Module.allTableRanges (m : Module) : List (Nat × Nat) :=
  m.tableRanges ++ (m.tables.tables.map (fun p => match p.2.staged with
    | some d => [(tabBase d, tabRegionBytes d), (tabRemBase d, tabRemBytes d)]
    | none => [])).flatten

/-- A set may read n bytes of a place (08 R246, 10 R301, log 36). -/
def Module.mayRead (m : Module) (s : StreamSet) (l : Loc) (n : Nat) : Bool :=
  match l with
  | .lpddr o => s.inLpddr o n || inRange m.tableRanges o n
  | .slice _ _ => m.inSetSlice s l n
  | .vat t _ => armHasTile s.header t
  | .ctl t _ => armHasTile s.header t
  | .remote _ _ => true
  | _ => false

/-- A set may write n bytes of a place (08 R246, 10 R301, log 36). -/
def Module.mayWrite (m : Module) (s : StreamSet) (l : Loc) (n : Nat) : Bool :=
  match l with
  | .lpddr o => s.inLpddr o n && !meetsRange m.allTableRanges o n
  | .slice _ _ => m.inSetSlice s l n
  | .vat t _ => armHasTile s.header t
  | .ctl t _ => armHasTile s.header t
  | .remote _ _ => true
  | _ => false

/-- Bytes of LPDDR5X in an access. -/
def Loc.lpBytes (l : Loc) (n : Nat) : Nat :=
  match l with
  | .lpddr _ => n
  | _ => 0

/-- A counter belongs to a set. -/
def StreamSet.hasEvt (s : StreamSet) (e : Nat) : Bool := decide (armEvtFirst s.header ≤ e ∧ e < armEvtFirst s.header + armEvtCount s.header)

/-- A span of Weir lists belongs to a set. -/
def StreamSet.hasLists (s : StreamSet) (wl wc : Nat) : Bool :=
  decide (armWeirFirst s.header ≤ wl ∧ wl + wc ≤ armWeirFirst s.header + armWeirCount s.header)

/-- A valid slot that the set has reserved. -/
def Module.slotUsable (m : Module) (s : StreamSet) (t i : Nat) : Bool :=
  decide (armSlotFirst s.header ≤ i ∧ i < armSlotFirst s.header + armSlotCount s.header) && slotValid (mGetD (m.tile t).slots i 0)

/-! ## Remote operations of a stream (14 R414, R415, 12 R359) -/

/-- Record an operation in flight under the next tags. -/
def Module.pushOp (m : Module) (op : RemoteOp) : Module :=
  { m with cascade := { m.cascade with ops := m.cascade.ops ++ [{ op with tag := m.cascade.nextTag, issued := m.clock.now }]
                                       nextTag := (m.cascade.nextTag + 1) % 2 ^ 48 } }

/-- Read n bytes of another module into the slice of a tile, in requests of at most 4,096 bytes and lines of 256; the
answer is false where no route leads there. -/
def Module.remoteRead (m : Module) (t k id dev addr n dest : Nat) : Module × Bool :=
  (List.range (ceilDiv n 4096)).foldl (fun (r : Module × Bool) i =>
    let len := min 4096 (n - 4096 * i)
    let pay := toLe 8 (addr + 4096 * i) ++ toLe 4 len ++ toLe 4 id
    let x := r.1.sendTo dev 6 r.1.cascade.nextTag pay
    let m := (List.range (ceilDiv len 256)).foldl (fun (m : Module) j =>
      (m.pushOp { kind := 3, device := dev, tile := t, ctx := k, streamId := id, cell := toLe 4 (min 256 (len - 256 * j))
                  dest := dest + 4096 * i + 256 * j }).onCtx t k (fun c => { c with busy := c.busy + 1 })) x.1
    (m.count 0x4000 0x12 len, r.2 && x.2)) (m, true)

/-- Send one cell of a stream to another module and wait for its DONE. -/
def Module.remoteSend (m : Module) (t k id dev typ kind : Nat) (pay : Bytes) : Module × Bool :=
  let x := m.sendTo dev typ m.cascade.nextTag pay
  ((x.1.pushOp { kind := kind, device := dev, tile := t, ctx := k, streamId := id, cell := pay }).onCtx t k (fun c => { c with busy := c.busy + 1 }), x.2)

/-- Write bytes to another module in cells of at most 240. -/
def Module.remoteWrite (m : Module) (t k id dev addr : Nat) (bs : Bytes) : Module × Bool :=
  ((chunks 240 bs).zip (List.range (ceilDiv bs.length 240))).foldl (fun (r : Module × Bool) p =>
    let x := r.1.remoteSend t k id dev 8 0 (toLe 8 (addr + 240 * p.2) ++ toLe 4 id ++ toLe 2 p.1.length ++ zeros 2 ++ p.1)
    (x.1.count 0x4000 0x13 p.1.length, r.2 && x.2)) (m, true)

/-- Vat operands for another module, at most 6 in a cell. -/
def Module.remoteVat (m : Module) (t k id dev addr : Nat) (bs : Bytes) : Module × Bool :=
  ((chunks 240 bs).zip (List.range (ceilDiv bs.length 240))).foldl (fun (r : Module × Bool) p =>
    let x := r.1.remoteSend t k id dev 9 1 (toLe 8 (addr + 240 * p.2) ++ toLe 4 id ++ toLe 1 0 ++ toLe 1 0 ++ toLe 2 (p.1.length / 40) ++ p.1)
    (x.1.count 0x4000 0x13 p.1.length, r.2 && x.2)) (m, true)

/-- Cells of a winner write under one tag: the header word, then the records (log 37). -/
def Module.remoteWinners (m : Module) (t k id dev addr hdr : Nat) (recs : Bytes) : Module × Bool :=
  let tag := m.cascade.nextTag
  let all := toLe 16 hdr ++ recs
  let r := ((chunks 240 all).zip (List.range (ceilDiv all.length 240))).foldl (fun (r : Module × Bool) p =>
    let x := r.1.sendTo dev 9 tag (toLe 8 addr ++ toLe 4 id ++ toLe 1 3 ++ toLe 1 p.2 ++ toLe 2 (p.1.length / 16) ++ p.1)
    (x.1.count 0x4000 0x13 p.1.length, r.2 && x.2)) (m, true)
  ((r.1.pushOp { kind := 7, device := dev, tile := t, ctx := k, streamId := id, cell := toLe 8 addr }).onCtx t k (fun c => { c with busy := c.busy + 1 }), r.2)

/-! ## Issuing and completing -/

/-- A command of a context has completed (08 R228): its DONE counter, and the next command. -/
def Module.finishCmd (m : Module) (t k : Nat) : Module :=
  match m.nextCmd t k with
  | none => m
  | some w =>
    let m := m.onCtx t k (fun c => { c with pc := c.pc + 1, depMet := false, held := 0, waitTick := none, busy := 0 })
    (if cmdDone w then m.evtChange t (cmdDoneEvt w) 0 1 else m).settle t

/-- Take clocks and LPDDR5X bytes from the grant; clocks beyond it are a debt (08 R253). -/
def Module.spend (m : Module) (t k clocks bytes : Nat) : Module :=
  let c := m.ctx t k
  (m.onCtx t k (fun c => { c with grant := c.grant - clocks, debt := c.debt + (clocks - c.grant) })).onSet c.setId
    (fun s => { s with bytesLeft := s.bytesLeft - bytes })

/-- What a command does when it runs. -/
structure CmdRun where
  m : Module
  /-- clocks it takes. -/
  clocks : Nat := 1
  /-- LPDDR5X bytes it moves. -/
  bytes : Nat := 0
  /-- a fault found during execution; 0 for none. -/
  fault : Nat := 0

/-- Common checks of a command: reserved fields, and counters of the set (08 Table 08-14). -/
def StreamSet.commonFault (s : StreamSet) (w : Nat) : Nat :=
  firstFault [
    (!opcodes.contains (cmdOp w), 1),
    ((cmdReserved (cmdOp w)).any (fun r => fld w r.1 r.2 != 0), 2),
    ((cmdDep w && !s.hasEvt (cmdDepEvt w)) || (cmdDone w && !s.hasEvt (cmdDoneEvt w)), 11)]

/-- The lesser of two fault codes, 0 standing for none. -/
def minFault (a b : Nat) : Nat := if a = 0 then b else if b = 0 then a else min a b

end Sys2Proof.Machine
end

