-- ==== Sys2Proof/WellFormed.lean ====
section
/-! DEFINITION. Which commands the world can send: what a link, a port or a sensor bus can carry. A command that is
not well formed is refused by name. -/

namespace Sys2Proof

open Sys2Proof.Machine

/-- TYPE of a cell (14 Table 14-2): bits [79:74] of its header. -/
def cellType (cell : Bytes) : Nat := fld (leAt cell 0 12) 79 74

/-- A cell of 272 bytes (14 R389) whose TYPE is the row's. -/
def cellOk (typ : Nat) (cell : Bytes) : Bool := cell.length == 272 && cellType cell == typ

/-- The operands are what the row's event can carry. -/
def Instr.wellFormed : Instr → Bool
  | .tick _ => true
  | .changeListClose => true
  | .deferLimitExpiry => true
  | .gate2 => true
  | .contribution _ _ _ => true
  | .rerank _ => true
  | .costIntervalClose => true
  | .query _ _ => true
  | .setDefaults _ _ => true
  | .attrWrite _ _ => true
  | .storeRead _ _ _ => true
  | .storeWrite _ _ => true
  | .rangeLockRelease _ _ => true
  | .storeDataFetched _ _ _ => true
  | .writeCacheDrain _ _ => true
  | .journalLimitUpdate _ _ cells => cells.length == 13
  | .powerFailIndication _ _ _ => true
  | .start _ _ _ _ => true
  | .mainPowerRise _ _ => true
  | .standbyLost _ => true
  | .rstL _ _ _ _ => true
  | .lpddrInitDone _ => true
  | .startupLotLoad _ => true
  | .startupLotSwitch _ => true
  | .masterStartupCheck _ _ => true
  | .tableRestore _ => true
  | .lockFallback _ => true
  | .moduleTimePersist _ => true
  | .ptpSync _ _ _ _ => true
  | .syncLoss _ => true
  | .holdoverLimitExceeded _ => true
  | .timeStep _ => true
  | .ppsIn _ _ => true
  | .beacon _ _ cell => cellOk 3 cell
  | .beaconMissing _ => true
  | .emergencyStep _ _ _ _ => true
  | .stepRestore _ => true
  | .thermalAlert _ temps => temps.length == 20
  | .thermalTrip _ temps _ => temps.length == 20
  | .move _ _ => true
  | .gather _ _ => true
  | .scatterAcc _ _ => true
  | .mma _ => true
  | .epi _ => true
  | .skscan _ => true
  | .wins _ => true
  | .wdrain _ => true
  | .argmax _ _ => true
  | .reduce _ _ => true
  | .pool _ => true
  | .signal _ _ => true
  | .wait _ => true
  | .rearm _ => true
  | .halt _ => true
  | .streamStalled _ _ => true
  | .eventCounterChange _ _ _ _ => true
  | .vatAccumulateWrite _ _ operand => operand.length == 40
  | .winnerWrite _ _ _ rows _ _ _ records => records.length == 16 * rows
  | .gfx64Add _ _ _ => true
  | .keyedAdd _ _ _ _ _ _ => true
  | .lsaCombine _ _ _ _ _ _ => true
  | .lookupOwnerPool _ => true
  | .lookupCombine _ => true
  | .lookupIncomplete => true
  | .hotRowRefresh => true
  | .reductionDeadline _ => true
  | .tokenCell _ _ cell => cellOk 19 cell
  | .ring _ _ cell => cellOk 18 cell
  | .lateVerdict _ _ verdict => verdict.length == 64
  | .abort _ _ cell => cellOk 20 cell
  | .batchOpen _ _ cell => cellOk 12 cell
  | .queryRecord _ _ cell => cellOk 13 cell
  | .batchEnd _ _ cell => cellOk 14 cell
  | .batchAccept _ _ _ => true
  | .towerOut _ _ cell => cellOk 15 cell
  | .towerOutLate _ => true
  | .answer _ _ cell => cellOk 16 cell
  | .cascadeMerge _ => true
  | .sched _ _ cell => cellOk 5 cell
  | .doneCell _ _ cell => cellOk 11 cell
  | .stateCell _ _ cell => cellOk 4 cell
  | .stateOriginate _ => true
  | .link _ _ cell => cellOk 1 cell
  | .delay _ _ cell => cellOk 2 cell
  | .delayInterval _ => true
  | .readReq _ _ cell => cellOk 6 cell
  | .readData _ _ cell => cellOk 7 cell
  | .writeCell _ _ cell => cellOk 8 cell
  | .acc _ _ cell => cellOk 9 cell
  | .remoteSignal _ _ cell => cellOk 10 cell
  | .lookup _ _ cell => cellOk 17 cell
  | .remoteTimeout _ => true
  | .gapNak _ _ => true
  | .replayTimeout _ _ => true
  | .reservedTypeCell _ _ cell => cell.length == 272 && decide (20 < cellType cell)
  | .laneLock _ _ _ => true
  | .laneLoss _ _ _ => true
  | .linkRetry _ _ => true
  | .laneCrcCheck _ => true
  | .rocePacket _ _ pkt => decide (pkt.payload.length ≤ 4096)
  | .ackDelayExpiry _ _ => true
  | .localAckTimeout _ _ => true
  | .cnp _ _ => true
  | .rateRecover _ _ => true
  | .pfcFrame _ _ _ => true
  | .hostRdmaWrite _ _ _ _ _ => true
  | .hostRdmaRead _ _ _ _ _ _ => true
  | .req _ _ _ _ _ _ => true
  | .rtu _ _ => true
  | .dreq _ _ => true
  | .linkDownHold _ _ => true
  | .neighbourResolution _ _ _ _ _ _ _ => true
  | .reorderHoldExpiry _ _ => true
  | .injectLimit => true
  | .vilurDatagram _ _ _ _ _ => true
  | .read _ => true
  | .readPending _ => true
  | .writeOd _ => true
  | .stage _ => true
  | .writeStaged _ => true
  | .challenge _ => true
  | .unlock _ => true
  | .lock _ => true
  | .subscribe _ => true
  | .unsubscribe _ => true
  | .ping _ => true
  | .notify _ _ _ => true
  | .clientIdle _ => true
  | .maintainExpiry _ => true
  | .lockAll _ => true
  | .tickPeriodWrite _ => true
  | .profileWrite _ => true
  | .powerCapWrite _ => true
  | .lotLoad _ => true
  | .loadDone _ _ => true
  | .lotUnstage _ => true
  | .lotSwitch _ _ => true
  | .lotRollback _ => true
  | .lotImport _ => true
  | .importDone _ _ => true
  | .lotDelete _ => true
  | .holdPreviousClear _ => true
  | .lotRepaired _ => true
  | .buildStart _ => true
  | .buildCancel _ => true
  | .buildEnded _ _ _ => true
  | .streamArm _ => true
  | .streamDisarm _ => true
  | .streamRearm _ => true
  | .tableStage _ => true
  | .tableUnstage _ => true
  | .tableSwitch _ _ => true
  | .tableLoad _ => true
  | .jobConfig _ _ => true
  | .jobStart _ => true
  | .jobStop _ => true
  | .jobsEnable _ => true
  | .digestCheck _ _ => true
  | .sessionReset _ => true
  | .window _ => true
  | .shardMap _ => true
  | .userRegionBytes _ => true
  | .storeAreaBytes _ => true
  | .sliceReserveBytes _ => true
  | .ownerKeyReplace _ => true
  | .ownerClear _ => true
  | .attestRequest _ => true
  | .fwUpdate _ => true
  | .fwUpdateDone _ _ => true
  | .fwCommit _ => true
  | .debugEnable _ => true
  | .orderlyReset _ => true
  | .immediateReset _ _ => true
  | .factoryReset _ => true
  | .cutoverRequest _ => true
  | .clearFailed _ => true
  | .eventQuery _ => true
  | .injectArm _ => true
  | .injectorWrite _ => true
  | .testNow _ => true
  | .capacitanceTest _ before after _ => before.length == 13 && after.length == 13
  | .bankAtTarget _ => true
  | .testInterval _ => true
  | .hangLimit _ _ => true
  | .unsparable _ _ _ => true
  | .memoryError _ _ _ _ _ => true
  | .patrolScrub _ _ => true
  | .refreshPoll _ _ _ _ => true
  | .healthWindow _ => true
  | .codeCheck _ _ _ _ => true
  | .watchdog _ _ => true
  | .status _ => true
  | .inputPower _ => true
  | .hottest _ => true
  | .capLimit _ _ => true
  | .ownerKeyChunk _ block => decide (block.length ≤ 255)
  | .ownerKeyCommit _ block => decide (block.length ≤ 255)
  | .smbusOwnerClear _ _ => true
  | .keyResult _ => true
  | .hostLinkChange _ _ _ => true
  | .standbyRise _ _ => true
  | .thermalAlertEnd _ temps => temps.length == 20
  | .bankTemperatureChange _ _ => true
  | .ppsOutPulse _ => true
  | .ptpMessage _ _ _ => true
  | .ptpInterval _ => true
  | .schedTimeout _ => true
  | .rnrRetry _ _ => true
  | .cellCrcFail _ _ _ => true
  | .idle _ _ cell => cellOk 0 cell
  | .fcsError _ _ _ _ _ _ _ => true

end Sys2Proof
end

