-- ==== Sys2Proof/Machine/Arith.lean ====
section
/-! DEFINITION. The tile arithmetic commands: MMA, EPI, and accumulate writes into a Vat window (chapter 7). -/

namespace Sys2Proof.Machine

/-! ## MMA (07 R193 to R214, 08 R234) -/

/-- The mode of an MMA: its field, or DEFAULT_STREAM_ARITH (07 R199). -/
def Module.mmaMode (m : Module) (w : Nat) : Nat := if fld w 153 152 = 0 then m.cfg 0x3000 0x01 else fld w 153 152

/-- BFMT. -/
def mmaFmt (w : Nat) : Nat := fld w 158 156
/-- K. -/
def mmaK (w : Nat) : Nat := 32 * fld w 117 106
/-- Slot descriptor of an MMA. -/
def Module.mmaDesc (m : Module) (t w : Nat) : Nat := mGetD (m.tile t).slots (fld w 151 146) 0
/-- Bytes of one column. -/
def mmaColBytes (w : Nat) : Nat := (if w.testBit 155 then 16 else 0) + codeBytes (mmaFmt w) (mmaK w)
/-- Byte of column n. -/
def Ctx.mmaCol (c : Ctx) (w n : Nat) : Nat := c.at (fld w 105 85) + n * fld w 145 130 * 16

/-- Codes of a column. -/
def Module.mmaCodes (m : Module) (t k w n : Nat) : List Nat :=
  codesOf (mmaFmt w) (m.sliceRead t ((m.ctx t k).mmaCol w n + (if w.testBit 155 then 16 else 0)) (codeBytes (mmaFmt w) (mmaK w))) (mmaK w)

/-- ESC_COUNT of a column's row header. -/
def Module.mmaEsc (m : Module) (t k w n : Nat) : Nat := fld (leNat (m.sliceRead t ((m.ctx t k).mmaCol w n) 16)) 87 82

/-- Global address of a column's side list. -/
def Module.mmaSideAddr (m : Module) (t k w n : Nat) : Nat :=
  let c := m.ctx t k
  (c.addr (put (fld w 162 159) 4 60) + fld (leNat (m.sliceRead t (c.mmaCol w n) 16)) 127 88) % 2 ^ 64

/-- Side values of a column. -/
def Module.mmaSides (m : Module) (t k w n : Nat) : List Nat :=
  match m.locate (m.mmaSideAddr t k w n) with
  | .slice u o => (List.range (m.mmaEsc t k w n)).map (fun i => m.slice32 u (o + 4 * i))
  | _ => []

/-- Faults of an MMA found before it issues. -/
def Module.mmaCheck (m : Module) (s : StreamSet) (t k w : Nat) : Nat :=
  let c := m.ctx t k
  let d := m.mmaDesc t w
  let mode := m.mmaMode w
  let esc := w.testBit 155
  firstFault [
    (!c.holds (fld w 84 64) ((slotM d - 1) * fld w 129 118 * 64 + 2 * mmaK w)
      || !c.holds (fld w 105 85) ((slotN d - 1) * fld w 145 130 * 16 + mmaColBytes w)
      || (esc && (List.range (slotN d)).any (fun n =>
        !m.inOwnSlice t k (m.locateN (m.mmaSideAddr t k w n) (4 * m.mmaEsc t k w n)) (4 * m.mmaEsc t k w n))), 3),
    (4 * fld w 84 64 % 64 != 0 || 4 * fld w 105 85 % 16 != 0, 4),
    (!m.slotUsable s t (fld w 151 146), 5),
    (!slotVat d && (esc || mode != 3), 6),
    (mode == 3 && decide (4096 < mmaK w), 7),
    (fld w 117 106 == 0 || decide (2048 < fld w 117 106) || decide (4 < mmaFmt w) || fld w 129 118 == 0 || fld w 145 130 == 0
      || (!esc && fld w 162 159 != 0), 10)]

/-- The operands of an MMA. -/
def Module.mmaIn (m : Module) (t k w : Nat) : MmaIn :=
  let c := m.ctx t k
  let d := m.mmaDesc t w
  { mode := m.mmaMode w, fmt := mmaFmt w, esc := w.testBit 155, overwrite := w.testBit 154
    rows := (List.range (slotM d)).map (fun r =>
      let bs := m.sliceRead t (c.at (fld w 84 64) + r * fld w 129 118 * 64) (2 * mmaK w)
      inputBf16 bs (mmaK w))
    cols := (List.range (slotN d)).map (fun n => (m.mmaCodes t k w n, if w.testBit 155 then m.mmaSides t k w n else [])) }

/-- The clock figure of an MMA (08 R253): 11 passes in EXACT, and its escape clocks. -/
def Module.mmaFig (m : Module) (t k w : Nat) : Option Nat :=
  let d := m.mmaDesc t w
  let i := m.mmaIn t k w
  some (mmaFigure (mmaFmt w) i.mode (slotM d) (slotN d) (fld w 117 106) (ceilDiv (slotM d * i.escapes) 4))

/-- Count issues by their passes (07 R202). -/
def Module.countMmaPasses (m : Module) (ps : List Nat) : Module :=
  (List.range 11).foldl (fun (m : Module) i =>
    let n := (ps.filter (· == i + 1)).length
    if n = 0 then m else (m.countI 0x3000 0x03 i n).ctrMax 0x3000 0x02 (i + 1)) m

/-- Every accumulator of a slot takes an unspecified value (08 R259, log 2). -/
def Module.scramble (m : Module) (t d : Nat) : Module :=
  let n := slotM d * slotN d
  let r := m.freeBytes (slotSize d * n)
  let m := r.1.onTile t (fun x => { x with vat := memWriteN x.vat (accOff d 0) r.2 })
  if slotVat d then
    (m.onTile t (fun x => { x with vstate := (List.range n).foldl (fun l i =>
      mPutZ l (accState d i) (m.freeBits (2 * n) / 4 ^ i % 4) 0) x.vstate })).drawn
  else m

/-- The effect of an MMA: ESCAPE_COUNT is found during execution, and leaves its slot unspecified. -/
def Module.mmaRun (m : Module) (_ : StreamSet) (t k w : Nat) : CmdRun :=
  let d := m.mmaDesc t w
  let i := m.mmaIn t k w
  let passes := i.passes
  let clocks := i.clocks passes
  let bad := i.esc && (List.range (slotN d)).any (fun n =>
    let e := ((i.cols.getD n ([], [])).1.filter (isEscape i.fmt)).length
    e != m.mmaEsc t k w n || decide (63 < e))
  let m := m.count 0x3000 0x0C clocks
  let m := if i.mode = 1 then m.countMmaPasses passes.flatten else m
  if bad then { m := m.scramble t d, clocks := clocks, fault := 8 }
  else { m := (m.onTile t (i.run d)).count 0x3000 0x0D (slotM d * i.escapes), clocks := clocks }

/-! ## EPI (07 R216 to R222, 08 Table 08-7) -/

/-- The control word of an EPI. -/
def epiCtl (w : Nat) : Nat := fld w 127 64
/-- Descriptor of the first slot of an EPI's run. -/
def Module.epiDesc (m : Module) (t w : Nat) : Nat := mGetD (m.tile t).slots (fld (epiCtl w) 5 0) 0
/-- Output width W_r. -/
def Module.epiWidth (m : Module) (t w : Nat) : Nat := epiCount (epiCtl w) * slotN (m.epiDesc t w)
/-- The conversion uses a row factor. -/
def epiNarrow (w : Nat) : Bool := decide (2 ≤ epiFmt (epiCtl w))
/-- Bytes of one output row. -/
def Module.epiRowBytes (m : Module) (t w : Nat) : Nat :=
  let n := m.epiWidth t w
  match epiFmt (epiCtl w) with
  | 0 => 4 * n
  | 1 => 2 * n
  | 2 => 16 + n / 2
  | _ => 16 + n

/-- A scale of a channel-scale set. -/
def Tile.scale (x : Tile) (set c : Nat) : Nat := mGetD x.scales (set * 4096 + c) one32

/-- The steps of an EPI. -/
def Module.epiIn (m : Module) (t k w : Nat) : EpiIn :=
  let c := m.ctx t k
  let x := m.tile t
  let ctl := epiCtl w
  { ctl := ctl
    rowV := fun r => m.slice32 t (c.at (fld w 212 192) + 4 * r)
    colV := fun i => m.slice32 t (c.at (fld w 233 213) + 4 * i)
    biasV := fun i => m.slice32 t (c.at (fld w 254 234) + 4 * i)
    colS := fun i => x.scale (fld ctl 29 28) i
    narrowK := fun i => x.scale (fld ctl 43 42) i
    alpha := mGetD x.alphas (fld ctl 43 42) one32 }

/-- y3 of row r, in ascending output column. -/
def Module.epiRow (m : Module) (t k w r : Nat) : List Nat :=
  let e := m.epiIn t k w
  let x := m.tile t
  let ctl := epiCtl w
  ((List.range (epiCount ctl)).map (fun i =>
    let d := mGetD x.slots (fld ctl 5 0 + i) 0
    (List.range (slotN d)).map (fun n => e.y3 (x.accX d (r * slotN d + n)) r (epiChan ctl (i * slotN d + n))))).flatten

/-- The narrowed rows of an EPI. -/
def Module.epiNarrows (m : Module) (t k w : Nat) : List Narrow :=
  let e := m.epiIn t k w
  let ctl := epiCtl w
  let ks := (List.range (m.epiWidth t w)).map (fun n => e.narrowK (epiChan ctl n))
  (List.range (slotM (m.epiDesc t w))).map (fun r =>
    narrowRow (epiFmt ctl) (ctl.testBit 40) (alphaUsed (ctl.testBit 41) e.alpha) (m.epiRow t k w r) ks)

/-- Side values that an EPI writes. -/
def Module.epiSides (m : Module) (t k w : Nat) : List Nat :=
  if epiNarrow w then ((m.epiNarrows t k w).map (·.sides)).flatten else []

/-- Faults of an EPI. -/
def Module.epiCheck (m : Module) (s : StreamSet) (t k w : Nat) : Nat :=
  let c := m.ctx t k
  let ctl := epiCtl w
  let d := m.epiDesc t w
  let n := epiCount ctl
  let last := epiChan ctl (m.epiWidth t w - 1)
  let slots := (List.range n).map (fun i => fld ctl 5 0 + i)
  let badCtl := fld ctl 27 26 == 3 || decide (5 < epiFmt ctl) || decide (4 < fld ctl 35 32) || n == 0 || decide (64 < n)
    || decide (64 < fld ctl 5 0 + n)
    || slots.any (fun i => fld (mGetD (m.tile t).slots i 0) 19 16 != fld d 19 16)
    || decide (4096 < 32 * fld ctl 19 13 + n * slotN d)
  firstFault [
    ((ctl.testBit 24 && !c.holds (fld w 254 234) (4 * (last + 1))) || (fld ctl 27 26 == 1 && !c.holds (fld w 233 213) (4 * (last + 1)))
      || (ctl.testBit 25 && !c.holds (fld w 212 192) (4 * slotM d))
      || !c.holds (fld w 148 128) ((slotM d - 1) * fld w 189 170 + m.epiRowBytes t w)
      || (!badCtl && epiNarrow w && ctl.testBit 40 && !c.holds (fld w 169 149) (4 * (m.epiSides t k w).length)), 3),
    (fld w 189 170 % 16 != 0, 4),
    (slots.any (fun i => !m.slotUsable s t i), 5),
    (badCtl, 9)]

/-- The clock figure of an EPI. -/
def Module.epiFig (m : Module) (t k w : Nat) : Option Nat :=
  some (epiClocks (slotM (m.epiDesc t w)) (m.epiWidth t w) (epiNarrow w) (m.epiSides t k w).length)

/-- Bytes of output row r. -/
def Module.epiBytes (m : Module) (t k w r : Nat) (nar : List Narrow) : Bytes :=
  let ctl := epiCtl w
  match epiFmt ctl with
  | 0 => ((m.epiRow t k w r).map (toLe 4)).flatten
  | 1 => ((m.epiRow t k w r).map (fun y => toLe 2 (narrow32 y))).flatten
  | f =>
    let e := m.epiIn t k w
    let ks := (List.range (m.epiWidth t w)).map (fun n => e.narrowK (epiChan ctl n))
    match nar[r]? with
    | some x => x.header f ks ++ packCodes (f - 2) x.codes
    | none => []

/-- The effect of an EPI. -/
def Module.epiRun (m : Module) (_ : StreamSet) (t k w : Nat) : CmdRun :=
  let c := m.ctx t k
  let ctl := epiCtl w
  let nar := if epiNarrow w then m.epiNarrows t k w else []
  let sides := (nar.map (·.sides)).flatten
  let out := (List.range (slotM (m.epiDesc t w))).map (fun r => (r, m.epiBytes t k w r nar))
  let clocks := epiClocks (slotM (m.epiDesc t w)) (m.epiWidth t w) (epiNarrow w) sides.length
  let alphaC := epiNarrow w && alphaClamped (ctl.testBit 41) (m.epiIn t k w).alpha
  let m' := out.foldl (fun (m : Module) r => m.sliceWrite t (c.at (fld w 148 128) + r.1 * fld w 189 170) r.2) m
  let m' := if sides.isEmpty then m' else m'.sliceWrite t (c.at (fld w 169 149)) (sides.map (toLe 4)).flatten
  let m' := m'.count 0x3000 0x04 (nar.filter (·.bad)).length
  let m' := m'.count 0x3000 0x05 (nar.filter (·.fallback)).length
  let m' := m'.count 0x3000 0x06 ((nar.map (·.clamped)).foldl (· + ·) 0)
  { m := m'.count 0x3000 0x07 (b2n alphaC), clocks := clocks }

/-! ## Accumulate writes (07 R212) -/

/-- A Vat-format operand reaches a Vat window: it is added where the 40 bytes lie within the Vat file (07 R212). -/
def vatAccumulateWrite (t o : Nat) (operand : Bytes) (m : Module) : Module :=
  if o + 40 ≤ 0x40000 then m.onTile t (fun x => x.vatAdd o operand) else m

/-- VAT_ACCUMULATE_WRITE (07 R212): 40 bytes. -/
def execVatAccumulateWrite (tile : Fin 512) (offset : Nat) (operand : Bytes) (s : State) : Host.Outcome State Fault Refusal :=
  if (Instr.vatAccumulateWrite tile offset operand).wellFormed then .next { s with m := vatAccumulateWrite tile offset operand s.m }
  else .refused (.illFormed "VAT_ACCUMULATE_WRITE")

end Sys2Proof.Machine
end

