-- ==== Sys2Proof/Machine/BuildDesc.lean ====
section
/-! DEFINITION. The build descriptor (06 Table 06-7) and its range check. -/

namespace Sys2Proof.Machine

/-- LOT_NUMBER (06 Table 06-7). -/
def bdLot (d : Nat) : Nat := fld d 31 0
/-- PARENT_LOT. -/
def bdParent (d : Nat) : Nat := fld d 63 32
/-- MODE: 0 full, 1 incremental. -/
def bdMode (d : Nat) : Nat := fld d 71 64
/-- SOURCE: 0 Cistern Store area, 1 host. -/
def bdSource (d : Nat) : Nat := fld d 79 72
/-- CODE_FORMAT. -/
def bdFormat (d : Nat) : Nat := fld d 87 80
/-- METRIC. -/
def bdMetric (d : Nat) : Nat := fld d 95 88
/-- DIM. -/
def bdDim (d : Nat) : Nat := fld d 111 96
/-- SKETCH_BITS. -/
def bdSketch (d : Nat) : Nat := fld d 127 112
/-- LIST_COUNT, 0 for automatic. -/
def bdLists (d : Nat) : Nat := fld d 159 128
/-- GRAPH_DEGREE. -/
def bdDegree (d : Nat) : Nat := fld d 167 160
/-- ENTRY_COUNT. -/
def bdEntries (d : Nat) : Nat := fld d 175 168
/-- ITERATIONS. -/
def bdIterations (d : Nat) : Nat := fld d 183 176
/-- SPILL. -/
def bdSpill (d : Nat) : Bool := d.testBit 184
/-- DROP_WITHHELD. -/
def bdDrop (d : Nat) : Bool := d.testBit 185
/-- WRITE_PLAN. -/
def bdPlan (d : Nat) : Bool := d.testBit 186
/-- SPILL_MARGIN, FP32. -/
def bdMargin (d : Nat) : Nat := fld d 223 192
/-- ALPHA, FP32; 0 to learn. -/
def bdAlpha (d : Nat) : Nat := fld d 255 224
/-- SEED. -/
def bdSeed (d : Nat) : Nat := fld d 319 256
/-- SHARD_INDEX. -/
def bdShard (d : Nat) : Nat := fld d 335 320
/-- SHARD_COUNT. -/
def bdShards (d : Nat) : Nat := fld d 351 336
/-- PROJ_SOURCE. -/
def bdProj (d : Nat) : Nat := fld d 359 352
/-- SCALE_SOURCE. -/
def bdScale (d : Nat) : Nat := fld d 367 360
/-- INPUT_OFFSET. -/
def bdInput (d : Nat) : Nat := fld d 447 384
/-- INPUT_BYTES, 0 for a counted input. -/
def bdBytes (d : Nat) : Nat := fld d 511 448
/-- DELETE_OFFSET. -/
def bdDelete (d : Nat) : Nat := fld d 575 512
/-- DELETE_BYTES. -/
def bdDeleteBytes (d : Nat) : Nat := fld d 639 576
/-- MODEL_ADDR. -/
def bdModel (d : Nat) : Nat := fld d 703 640
/-- SESSION. -/
def bdSession (d : Nat) : Nat := fld d 735 704
/-- R_KEY. -/
def bdKey (d : Nat) : Nat := fld d 767 736

/-- Legal SKETCH_BITS. -/
def sketchLegal (n : Nat) : Bool := [64, 128, 256, 512, 1024].contains n

/-- An FP32 value between two bounds, neither sign bit set. -/
def fpBetween (x : Nat) (lo hi : Rat) : Bool := fp32.isFin x && !fp32.sign x && decide (lo ≤ fp32.val x ∧ fp32.val x ≤ hi)

/-- Every field of a build descriptor is in its range; dim is the DIM in use (06 Table 06-7). -/
def bdOk (d dim : Nat) : Bool :=
  fld d 1023 768 == 0 && fld d 383 368 == 0 && fld d 191 187 == 0
    && bdLot d != 0xFFFFFFFF && decide (bdMode d ≤ 1) && decide (bdSource d ≤ 1)
    && decide (bdProj d ≤ 2) && decide (bdScale d ≤ 2)
    && decide (1 ≤ bdShards d ∧ bdShards d ≤ 256 ∧ bdShard d < bdShards d)
    && (bdAlpha d == 0 || fpBetween (bdAlpha d) (mkRat 1 2) 1) && fpBetween (bdMargin d) 0 1
    && bdDeleteBytes d % 8 == 0 && bdBytes d % (16 + 2 * dim) == 0
    && (if bdMode d = 0 then
          bdParent d == 0 && bdProj d != 1 && bdScale d != 1 && bdDeleteBytes d == 0
            && decide (bdLists d ≤ 16777216) && decide (1 ≤ bdDegree d ∧ bdDegree d ≤ 32)
            && decide (1 ≤ bdEntries d ∧ bdEntries d ≤ 16) && decide (bdIterations d ≤ 64)
            && decide (32 ≤ bdDim d ∧ bdDim d ≤ 4096) && bdDim d % 32 == 0 && decide (bdMetric d ≤ 2) && decide (bdFormat d ≤ 3)
            && sketchLegal (bdSketch d)
        else bdProj d == 1 && bdScale d == 1)

end Sys2Proof.Machine
end

