-- ==== Sys2Proof/Machine/Headgate.lean ====
section
/-! DEFINITION. The Headgate's costing: frame budgets and grants (04 R110, 08 R251, R252), per-query costs
(04 Table 04-4), list figures (04 R114, R115), the ledger, and the stage map (02 Table 02-2). -/

namespace Sys2Proof.Machine

/-! ## Stage map (02 Table 02-2) -/

/-- Frame of preparation and probe. -/
def probeFrame (n d : Nat) : Nat := if d ≤ 3 then n else n + d - 3
/-- Frame of the scan, which is the attribute frame (03 R78). -/
def scanFrame (n d : Nat) : Nat := if d = 2 then n else n + d - 2
/-- Frame of re-rank. -/
def rerankFrame (n d : Nat) : Nat := n + d - 1
/-- Tower frames of a tower of f frames (log 34). -/
def towerFrameList (n f : Nat) : List Nat := (List.range f).map (fun i => n + i)

/-! ## Values that the schedule holds for a frame -/

/-- The value that a profile's row gives an object (02 Table 02-7, 04 Table 04-9, 06 R189, 07 R225, 11 R339). -/
def profileValue (p idx sub : Nat) : Option Nat :=
  if idx = 0x2000 ∧ sub = 0x11 then (if p = 0 then some 1 else if p = 1 then some 0 else none)
  else if idx = 0x1200 ∧ sub = 0x04 then (if p = 0 then some 0 else if p = 1 then some 1 else none)
  else if idx = 0x2100 ∧ sub = 0x06 then (if p ≤ 1 then some 1 else none)
  else if idx = 0x2200 ∧ sub = 0x07 then some (if p = 2 then 192 else 32)
  else if idx = 0x3000 ∧ sub = 0x01 then some (if p = 3 then 3 else 1)
  else if idx = 0x3300 ∧ sub = 0x01 then (if p = 3 then some 1 else if p ≤ 1 then some 0 else none)
  else none

/-- The value of an object that the schedule holds for frame n. -/
def Module.cfgAt (m : Module) (idx sub n : Nat) : Nat :=
  (m.actionsTo n).foldl (fun v a =>
    if a.kind = 0 ∧ a.key = odKey idx sub 0 then leNat a.value
    else if a.kind = 3 then (profileValue (leNat a.value) idx sub).getD v
    else v) (m.cfg idx sub)

/-- A stream set holds its grant in frame n: from its first tick until its disarm tick (08 R251). -/
def StreamSet.holdsAt (s : StreamSet) (n : Nat) : Bool :=
  decide (s.armSfc ≤ n) && (match s.disarm with
    | some d => decide (n < d)
    | none => true)

/-- A reduction job runs in frame n (08 R252). -/
def Module.jobRunsAt (m : Module) (n : Nat) : Bool :=
  m.jobs.jobs.any (fun p => p.2.state == 2 || p.2.pending.any (fun t => decide (t ≤ n)))

/-- The builder's grant runs in frame n (06 R177). -/
def Module.buildGrantAt (m : Module) (n : Nat) : Bool :=
  (m.lots.buildState == 1 && decide (m.lots.buildStart ≤ n))
  || m.lots.buildEnd.any (fun e => decide (n ≤ e + m.clock.depth + 1))

/-! ## Budgets (04 Table 04-3, 08 R252) -/

/-- LPDDR5X budget of a period in bytes (04 Table 04-3). -/
def lpddrBudget (period : Nat) : Nat := period * 24576 / 10

/-- Transmit packets of a host port in a period (13 R27). -/
def portPackets (period : Nat) : Nat := 8000000 * period / 1000000000

/-- Quarter clocks of each tile before the builder's share (08 R252 steps 1 to 4), and the raw budget. -/
def Module.tileLeft (m : Module) (n t : Nat) : Nat :=
  let b := budgetClocks (m.periodAt n) (m.stepAt n)
  let bist := if (m.bistTiles n).contains t then 2048 else 0
  let cut := if m.schedule.any (fun a => a.kind == 4 && a.target == n && a.part / 2 ^ 48 == 0 && (a.part / 2 ^ 16) % 2 ^ 32 == t)
    then 4096 else 0
  let fixed := m.streams.sets.foldl (fun a p =>
    if !armTower p.2.header && p.2.holdsAt n && armHasTile p.2.header t then a + armGrantClocks p.2.header else a) 0
  let look := m.cfgAt 0x3200 0x08 n * b / 256
  let red := if m.jobRunsAt n then m.cfgAt 0x3300 0x0A n * b / 256 else 0
  b - (bist + cut + fixed + look + red)

/-- LPDDR5X bytes before streaming and the builder's share (08 R252 steps 2 to 4). -/
def Module.lpddrLeft (m : Module) (n : Nat) : Nat :=
  let b := lpddrBudget (m.periodAt n)
  let fixed := m.streams.sets.foldl (fun a p => if !armTower p.2.header && p.2.holdsAt n then a + armGrantBytes p.2.header else a) 0
  let look := m.cfgAt 0x3200 0x08 n * b / 256
  let red := if m.jobRunsAt n then m.cfgAt 0x3300 0x0A n * b / 256 else 0
  b - (fixed + look + red)

/-- Quarter clocks of tile t that queries may take in frame n (04 R110, 08 R252 step 6). -/
def Module.tileAvail (m : Module) (n t : Nat) : Nat :=
  let left := m.tileLeft n t
  let share := if m.buildGrantAt n then m.cfgAt 0x2200 0x07 n * budgetClocks (m.periodAt n) (m.stepAt n) / 256 else 0
  4 * (left - share)

/-- LPDDR5X bytes that queries and streaming may take in frame n, streaming being committed to the ledger; the builder
takes the lesser of its share and what streaming leaves (08 R252). -/
def Module.lpddrAvail (m : Module) (n streaming : Nat) : Nat :=
  let left := m.lpddrLeft n
  let share := if m.buildGrantAt n then m.cfgAt 0x2200 0x07 n * lpddrBudget (m.periodAt n) / 256 else 0
  left - min share (left - streaming)

/-! ## Lots and list figures (04 R114) -/

/-- A Lot that queries may be bound to. -/
def Module.lotOf (m : Module) (n : Nat) : Option LotData :=
  let l := (match m.lots.active with
    | some a => [a]
    | none => []) ++ m.lots.retained ++ (match m.lots.staged with
    | some a => [a]
    | none => [])
  l.find? (fun x => x.number == n)

/-- Change a Lot wherever it is held. -/
def Module.onLot (m : Module) (n : Nat) (f : LotData → LotData) : Module :=
  let g (l : LotData) := if l.number = n then f l else l
  { m with lots := { m.lots with active := m.lots.active.map g, retained := m.lots.retained.map g, staged := m.lots.staged.map g } }

/-- Poisoned bursts of a Lot's copy that a range of its image meets (12 R362). -/
def Module.lotPoisoned (m : Module) (lot off n : Nat) : Bool :=
  m.mem.lotPoison.any (fun p => p.1 == lot && decide (0 < n) && decide (p.2 < off + n ∧ off < p.2 + 64))

/-- n_L of a list. -/
def listRecs (b : Bytes) (l : Nat) : Nat := imgPriCount b l + imgSecCount b l

/-- The figures come from a cost table, or from measurement. -/
def LotData.figured (l : LotData) (i : Nat) : Bool := imgHas l.bytes 12 || (mGetD l.figures i {}).folded

/-- The floor of SCAN and STAGE (04 Table 04-5). -/
def LotData.floors (l : LotData) (i : Nat) : Nat × Nat :=
  (listRecs l.bytes i + 32, if l.resident.getD i false then 0 else ceilDiv (imgListBytes l.bytes i) 256 + 64)

/-- SCAN(L) in force (04 R114). -/
def LotData.scanFig (l : LotData) (i : Nat) : Nat :=
  let f : Figure := mGetD l.figures i {}
  let fl := (l.floors i).1
  if f.scan ≠ 0 then max fl f.scan
  else if imgHas l.bytes 12 then max fl (secLe l.bytes 12 (8 * i + 4) 4) else 2 * fl

/-- STAGE(L) in force (04 R114). -/
def LotData.stageFig (l : LotData) (i : Nat) : Nat :=
  let f : Figure := mGetD l.figures i {}
  let fl := (l.floors i).2
  if f.folded ∧ l.resident.getD i false then 0
  else if f.stage ≠ 0 then max fl f.stage
  else if imgHas l.bytes 12 then max fl (secLe l.bytes 12 (8 * i) 4)
  else ceilDiv (imgListBytes l.bytes i) 256 + 64

/-- LPDDR5X bytes that a visited list is charged (04 R113, R114). -/
def LotData.listLpddr (l : LotData) (i : Nat) : Nat :=
  if l.resident.getD i false && l.figured i then 0 else 64 * ceilDiv (imgListBytes l.bytes i + 63) 64

/-- The largest ESC_COUNT of any row. -/
def imgMaxEsc (b : Bytes) : Nat := listMax ((List.range (imgItems b)).map (imgRowEsc b))

/-! ## Charges -/

/-- A charge against one frame: quarter clocks by tile, LPDDR5X bytes, port sixteenths. -/
structure Charge where
  frame : Nat
  clocks : List (Nat × Nat) := []
  lpddr : Nat := 0
  port : Option (Nat × Nat) := none
  deriving DecidableEq, Repr

/-- Preparation clocks (04 Table 04-4). -/
def prepClocks (b : Bytes) : Nat := 128 + ceilDiv (imgDim b) 32 + ceilDiv (11 * imgSketch b * imgDim b) 1024

/-- Probe clocks (04 Table 04-4). -/
def probeClocks (b : Bytes) (p : Params) (x : Nat) : Nat :=
  (imgEntries b + p.pool * imgDegree b) * (8 + ceilDiv (imgDim b) 128) + 16 * p.pool + 4 * x * imgDegree b + 4 * p.pWide

/-- RB of Table 04-4. -/
def rerankRow (b : Bytes) : Nat := 64 * ceilDiv (imgRow b + 63) 64
/-- SB of Table 04-4. -/
def rerankSide (esc : Nat) : Nat := if esc = 0 then 0 else 64 * ceilDiv (4 * esc + 63) 64

/-- Re-rank and merge in quarter clocks (04 Table 04-4). -/
def rerankQuarters (b : Bytes) (p : Params) : Nat :=
  let r := if imgFormat b = 0 then 2048 else 1024
  let mm := if p.arith = 1 then 11 else 1
  4 * (64 + ceilDiv (mm * p.c * imgDim b) r + p.c * ceilDiv (imgMaxEsc b) 4 + min p.pWide 512 * ceilDiv p.c 32)
  + p.c * (rerankRow b / 64)

/-- Completion sixteenths (04 Table 04-4). -/
def completionSixteenths (k share : Nat) : Nat := 16 * ceilDiv (64 + 16 * k) 4096 + ceilDiv share 4096

/-- The preparation and probe charge of a query. -/
def Module.probeCharge (m : Module) (l : LotData) (p : Params) (home n d : Nat) : Charge :=
  { frame := probeFrame n d, clocks := [(home, 4 * (prepClocks l.bytes + probeClocks l.bytes p (m.cfg 0x2100 0x0A)))]
    lpddr := if l.graphResident then 0 else (imgEntries l.bytes + p.pool * imgDegree l.bytes) * imgCent l.bytes }

/-- The re-rank, merge and completion charges of a query (04 Table 04-4, R120): role 2 sends no completion, and an
entry module's completion falls in the merge frame. -/
def rerankCharges (l : LotData) (p : Params) (home n d role port share : Nat) : List Charge :=
  let c := completionSixteenths p.k share
  let rr : Charge := { frame := rerankFrame n d, clocks := [(home, rerankQuarters l.bytes p)]
                       lpddr := p.c * (rerankRow l.bytes + rerankSide (imgMaxEsc l.bytes) + 64)
                       port := if role = 0 then some (port, c) else none }
  if role = 1 then [rr, { frame := n + d, port := some (port, c) }] else [rr]

/-- The tower charges of the next query of a tower in batch n (04 R122). -/
def Module.towerCharges (m : Module) (tower : Nat) (desc : Bytes) (n : Nat) : List Charge :=
  (towerFrameList n (towerFrames desc)).map (fun f =>
    let q := mGetD (mGetD m.search.ledger f {}).towerQ (tower * 16 + (f - n)) 0
    let cost (k : Nat) := if k = 0 then 0 else towerBaseClocks desc + towerQueryClocks desc * ceilDiv k 512
    let add := 4 * (cost (q + 1) - cost q)
    { frame := f, clocks := if add = 0 then [] else (List.range 512).map (fun t => (t, add)), lpddr := towerBytes desc })

/-- Key of a visit count. -/
def visitKey (lot list attr : Nat) : Nat := (lot * 2 ^ 32 + list) * 2 ^ 64 + attr

/-- v_L of a list in a frame's ledger. -/
def Ledger.vList (g : Ledger) (lot list : Nat) : Nat :=
  g.visits.foldl (fun a p => if p.1 / 2 ^ 64 = lot * 2 ^ 32 + list then a + p.2 else a) 0

/-- Streaming is committed for the scans of a Lot in this frame (04 R113). -/
def Ledger.streams (g : Ledger) (lot : Nat) : Bool := g.streamLot == lot && lot != 0

/-- The rise of the scan cost of R113 when a visit set joins a frame: where streaming has charged the Lot's staging
already, only its passes. -/
def Module.scanCharge (m : Module) (l : LotData) (visit : List Nat) (attr f : Nat) : Charge :=
  let g : Ledger := mGetD m.search.ledger f {}
  let qw := queriesPerPass (imgSketch l.bytes)
  let str := g.streams l.number
  visit.foldl (fun (c : Charge) i =>
    let v := g.vList l.number i
    let va := mGetD g.visits (visitKey l.number i attr) 0
    let stage := if v = 0 ∧ !str then l.stageFig i else 0
    let pass := (ceilDiv (va + 1) qw - ceilDiv va qw) * l.scanFig i
    let lp := if v = 0 ∧ !str then l.listLpddr i else 0
    { c with clocks := mAdd c.clocks (l.owner.getD i 0) (4 * (stage + pass)), lpddr := c.lpddr + lp }) { frame := f }

/-- The upper bound of R118 on a query's scan at depth 4 and above. -/
def scanBound (l : LotData) (pw f : Nat) : Charge :=
  let n := imgLists l.bytes
  let top (k : Nat) (xs : List Nat) := ((sortBy (fun a b => decide (b ≤ a)) xs).take k).foldl (· + ·) 0
  { frame := f
    clocks := ((List.range 512).map (fun t =>
      (t, 4 * top pw (((List.range n).filter (fun i => l.owner.getD i 0 == t)).map (fun i => l.stageFig i + l.scanFig i))))).filter
        (fun x => x.2 != 0)
    lpddr := top pw ((List.range n).map l.listLpddr) }

/-! ## The ledger (04 R110, R113) -/

/-- Bytes of the streaming commitment of a Lot (04 R113). -/
def LotData.streamBytes (l : LotData) : Nat :=
  roundUp (imgItems l.bytes * imgRec l.bytes) 64 + roundUp (imgSpills l.bytes * imgRec l.bytes) 64

/-- The streaming commitment of a frame's ledger (04 R113). -/
def Ledger.streaming (g : Ledger) : Nat := g.stream

/-- Admission tick whose queries scan in frame f (06 R171): the latest one, where a depth change gives several. -/
def Module.admissionOf (m : Module) (f : Nat) : Nat :=
  ((List.range 9).find? (fun k => decide (k ≤ f) && scanFrame (f - k) (m.depthAt (f - k)) == f)).elim f (fun k => f - k)

/-- The Lot to which queries admitted at tick a are bound: the active Lot, the one that it superseded, or the one that
a pending switch makes active (03 R77, 06 R171). -/
def Module.boundLot (m : Module) (a : Nat) : Option LotData :=
  let now := if a < m.lots.activeSince then
      m.lots.retained.find? (fun l => l.since == m.lots.activeSince && m.lots.active.all (fun x => x.number != l.number))
    else m.lots.active
  (m.actionsTo a).foldl (fun cur act =>
    if act.kind ≠ 5 ∨ act.target ≤ m.clock.sfc then cur
    else
      if act.arg = 0 then none
      else match m.lots.staged with
        | some l => if l.number = act.arg then some l else cur
        | none => cur) now

/-- The Lot whose scans fall in frame f (04 R113, 06 R171). -/
def Module.streamedLot (m : Module) (f : Nat) : Option LotData := m.boundLot (m.admissionOf f)

/-- Open a frame's ledger: the streaming charge of the Lot whose scans fall in it comes first (04 R113). -/
def Module.openLedger (m : Module) (f : Nat) : Module :=
  let g : Ledger := mGetD m.search.ledger f {}
  if g.opened then m
  else
    let g := { g with opened := true }
    let g := match m.streamedLot f with
      | some l =>
        if m.cfgB 0x1200 0x04 then
          let cl := (List.range (imgLists l.bytes)).foldl (fun c i => mAdd c (l.owner.getD i 0) (4 * l.stageFig i)) g.clocks
          { g with clocks := cl, lpddr := g.lpddr + l.streamBytes, stream := l.streamBytes, streamLot := l.number }
        else g
      | none => g
    { m with search := { m.search with ledger := mPut m.search.ledger f g } }

/-- Add one charge to its frame. -/
def Module.commit (m : Module) (c : Charge) : Module :=
  let m := m.openLedger c.frame
  let g : Ledger := mGetD m.search.ledger c.frame {}
  let g := { g with clocks := c.clocks.foldl (fun l x => mAdd l x.1 x.2) g.clocks, lpddr := g.lpddr + c.lpddr
                    ports := match c.port with
                      | some (p, n) => mAdd g.ports p n
                      | none => g.ports }
  { m with search := { m.search with ledger := mPut m.search.ledger c.frame g } }

/-- A frame's ledger stays within its budgets on what a charge touches (04 Table 04-3). -/
def Module.within (m : Module) (c : Charge) : Bool :=
  let g : Ledger := mGetD m.search.ledger c.frame {}
  c.clocks.all (fun x => decide (mGetD g.clocks x.1 0 ≤ m.tileAvail c.frame x.1))
  && decide (g.lpddr ≤ m.lpddrAvail c.frame g.stream)
  && (match c.port with
    | some (p, _) => decide (mGetD g.ports p 0 ≤ 16 * portPackets (m.periodAt c.frame))
    | none => true)

/-- Charge everything, if every charge fits (04 R110). -/
def Module.tryCharge (m : Module) (cs : List Charge) : Option Module :=
  let m' := cs.foldl Module.commit m
  if cs.all m'.within then some m' else none

/-- Count a query of a tower in its tower frames. -/
def Module.countTower (m : Module) (tower frames n : Nat) : Module :=
  (towerFrameList n frames).foldl (fun (m : Module) f =>
    let g : Ledger := mGetD m.search.ledger f {}
    { m with search := { m.search with ledger := mPut m.search.ledger f { g with towerQ := mAdd g.towerQ (tower * 16 + (f - n)) 1 } } }) m

/-- Add a visit set to the counts of a frame (04 R117). -/
def Module.countVisits (m : Module) (lot attr f : Nat) (visit : List Nat) : Module :=
  let g : Ledger := mGetD m.search.ledger f {}
  let v := visit.foldl (fun l i => mAdd l (visitKey lot i attr) 1) g.visits
  { m with search := { m.search with ledger := mPut m.search.ledger f { g with visits := v } } }

/-! ## Measured figures (04 R114, R115) -/

/-- Take one measured pass and staging of a list: past the figure in force it is counted, logged and raises the figure
at the next tick (04 R115). -/
def Module.measure (m : Module) (lot i scan stage : Nat) : Module :=
  match m.lotOf lot with
  | none => m
  | some l =>
    let f : Figure := mGetD l.figures i {}
    let past := b2n (decide (l.scanFig i < scan)) + b2n (decide (l.stageFig i < stage))
    let f := { f with mScan := max f.mScan scan, mStage := max f.mStage stage, raise := f.raise || decide (0 < past) }
    let m := m.onLot lot (fun l => { l with figures := mPut l.figures i f })
    if past = 0 then m else (List.range past).foldl (fun (m : Module) _ => (m.count 0x1200 0x07 1).event 0x0002 1 i) m

/-- ceil(9 M ÷ 8). -/
def nineEighths (x : Nat) : Nat := ceilDiv (9 * x) 8

/-- Raise the figures that a measurement passed (04 R115). -/
def LotData.raiseFigures (l : LotData) : LotData :=
  { l with figures := l.figures.map (fun p =>
      if p.2.raise then (p.1, { p.2 with
        scan := if l.scanFig p.1 < p.2.mScan then nineEighths p.2.mScan else p.2.scan
        stage := if l.stageFig p.1 < p.2.mStage then nineEighths p.2.mStage else p.2.stage
        raise := false }) else p) }

/-- Fold the measurements in at the close of a cost interval (04 R114). -/
def LotData.foldFigures (l : LotData) : LotData :=
  let table (i o : Nat) := if imgHas l.bytes 12 then secLe l.bytes 12 (8 * i + o) 4 else 0
  { l with figures := l.figures.map (fun p =>
      if p.2.mScan = 0 ∧ p.2.mStage = 0 then p
      else (p.1, { p.2 with
        scan := max (l.floors p.1).1 (max (table p.1 4) (nineEighths p.2.mScan))
        stage := if l.resident.getD p.1 false then 0 else max (l.floors p.1).2 (max (table p.1 0) (nineEighths p.2.mStage))
        folded := true })) }

/-- COST_SOURCE: 0 no Lot, 1 conservative, 2 table, 3 measured (04 R114). -/
def Module.costSource (m : Module) : Nat :=
  match m.lots.active with
  | none => 0
  | some l => if l.figures.any (fun p => p.2.folded) then 3 else if imgHas l.bytes 12 then 2 else 1

end Sys2Proof.Machine
end

