-- ==== Sys2Proof/Machine/HealthOps.lean ====
section
/-! DEFINITION. Spares and triggers (18 R500 to R511): planned and forced health actions, failing a tile, pipeline
faults, and what each cut-over does at its tick. -/

namespace Sys2Proof.Machine

/-- Health record of a logical tile (18 Table 18-7). -/
def Module.tileHealth (m : Module) (t : Nat) : TileHealth := mGetD m.health.tiles t {}

/-- Change the health record of a logical tile. -/
def Module.onTileHealth (m : Module) (t : Nat) (f : TileHealth → TileHealth) : Module :=
  { m with health := { m.health with tiles := mPut m.health.tiles t (f (m.tileHealth t)) } }

/-! ## Health actions: kinds 0 tile, 1 column, 2 slice row, 3 page, 4 lane, 5 hold-up cell -/

/-- The part of a KIND 4 action: kind, the part, and its spare. -/
def partOf (kind part spare : Nat) : Nat := kind * 2 ^ 48 + part * 2 ^ 16 + spare
/-- Kind of a part. -/
def partKind (p : Nat) : Nat := p / 2 ^ 48
/-- Number of a part. -/
def partNum (p : Nat) : Nat := p / 2 ^ 16 % 2 ^ 32
/-- Spare of a part. -/
def partSpare (p : Nat) : Nat := p % 2 ^ 16

/-- A health action for a part is scheduled or waits. -/
def Module.cutPending (m : Module) (kind part : Nat) : Bool :=
  (m.schedule ++ m.health.waiting).any (fun a => a.kind == 4 && partKind a.part == kind && partNum a.part == part)

/-- VALUE of a health action: the epoch from its tick (18 R501, R509). -/
def Module.cutEpoch (m : Module) (kind target : Nat) : Nat :=
  let own := (m.schedule.filter (fun a => a.kind == 4 && decide (partKind a.part ≤ 1 ∧ a.target < target))).map (·.target)
  (m.health.epoch + (dedup own).length + b2n (decide (kind ≤ 1))) % 2 ^ 32

/-- Place a planned action at F + D + 2, or hold it while the schedule is full (18 R500, 02 R40). -/
def Module.planned (m : Module) (kind part spare : Nat) : Module :=
  let n := m.clock.firstFrame + m.clock.depth + 2
  let a : Action := { kind := 4, arg := m.cutEpoch kind n, part := partOf kind part spare, target := n }
  if m.scheduleFull then { m with health := { m.health with waiting := m.health.waiting ++ [a] } } else m.place a

/-- The action of a list with the latest target and the highest SEQ. -/
def latestAction (l : List Action) : Option Action :=
  l.foldl (fun (b : Option Action) a => match b with
    | none => some a
    | some x => if x.target < a.target ∨ (x.target = a.target ∧ x.seq < a.seq) then some a else some x) none

/-- A planned health action: its tile is not quarantined. -/
def Module.isPlanned (m : Module) (a : Action) : Bool :=
  a.kind == 4 && !(partKind a.part == 1) && !(partKind a.part == 0 && (m.tileHealth (partNum a.part)).state == 1)

/-- Place a forced action at the first tick whose change-list close has not passed; it displaces the latest planned one
where the schedule is full (18 R500, 02 R40). -/
def Module.forced (m : Module) (kind part spare : Nat) : Module :=
  let n := m.clock.firstFrame
  let m := if !m.scheduleFull then m else match latestAction (m.schedule.filter m.isPlanned) with
    | none => m
    | some a => { (m.unplace (fun b => b == a)) with health := { m.health with waiting := m.health.waiting ++ [a] } }
  m.place { kind := 4, arg := m.cutEpoch kind n, part := partOf kind part spare, target := n }

/-- Waiting planned actions enter the schedule as it gains room, each at a frame that R500 permits (02 R40). -/
def Module.placeWaiting (m : Module) : Module :=
  m.health.waiting.foldl (fun (m : Module) a =>
    if m.scheduleFull then m
    else
      let n := max a.target (m.clock.firstFrame + m.clock.depth + 2)
      { (m.place { a with target := n, arg := m.cutEpoch (partKind a.part) n }) with
        health := { m.health with waiting := m.health.waiting.erase a } }) m

/-- No spare is left for a fault: its reset is due (18 R508, R510). -/
def Module.unsparableDue (m : Module) : Module := { m with health := { m.health with faultDue := true } }

/-- Frames of a query's stages on logical tile t: preparation and probe, scan, rerank (02 Table 02-3). -/
def Module.queryOn (m : Module) (q : Query) (t n : Nat) : Bool :=
  (q.home == t && (n == q.start || n == probeFrame q.start q.depth || n == scanFrame q.start q.depth || n == rerankFrame q.start q.depth))
  || (n == scanFrame q.start q.depth && (q.due.contains t || (match m.lotOf q.lot with
      | some l => q.visit.any (fun i => l.owner.getD i 512 == t)
      | none => false)))

/-- Queries with a stage on a tile in frame n become affected queries (02 R47). -/
def Module.affect (m : Module) (t n : Nat) : Module :=
  { m with search := { m.search with live := m.search.live.map (fun q => if m.queryOn q t n then { q with stage := 4 } else q) } }

/-- A logical tile fails: it is quarantined, its stream sets fault TILE_LOST, and a forced cut-over follows (18 R504,
R507). -/
def Module.failTile (m : Module) (t trigger : Nat) : Module :=
  if (m.tileHealth t).state = 1 then m
  else
    let m := m.unplace (fun a => a.kind == 4 && partKind a.part == 0 && partNum a.part == t)
    let spare := m.chooseSpare t
    let m := m.onTileHealth t (fun h => { h with state := 1, detected := m.clock.sfc })
    let m := m.event 0x000F 9 (put trigger 4 12 + put t 9 0)
    let m := m.streams.sets.foldl (fun (m : Module) p =>
      if armHasTile p.2.header t && (p.2.state == 2) then m.faultSet p.1 t ((m.ctx t (armCtx p.2.header)).pc) 16 else m) m
    match spare with
    | some s => m.forced 0 t s
    | none => m.unsparableDue

/-- A planned tile cut-over, or an unsparable fault (18 R500, R510). -/
def Module.planTile (m : Module) (t : Nat) : Module :=
  if m.cutPending 0 t ∨ (m.tileHealth t).state = 1 then m
  else match m.chooseSpare t with
    | some s => (m.planned 0 t s).onTileHealth t (fun h => { h with state := 2 })
    | none => m.unsparableDue

/-- A stream fault in context 0 or 1 of a tile (18 R504 trigger 3, R505). -/
def Module.pipelineFault (m : Module) (t code : Nat) : Module :=
  let m := (m.affect t m.clock.sfc).event 0x0005 1 (put t 9 16 + put code 8 0)
  let m := m.onTileHealth t (fun h => { h with faults := h.faults.filter (fun f => decide (m.clock.sfc < f + 1000)) ++ [m.clock.sfc] })
  if 3 ≤ (m.tileHealth t).faults.length then m.failTile t 3 else m

/-- Retire a slice row: a spare row, or a planned tile cut-over (18 R500). -/
def Module.retireRow (m : Module) (t row : Nat) : Module :=
  let k := t * 2 ^ 15 + row
  if m.cutPending 2 k then m
  else if mGetD m.mem.spareRows t 0 + ((m.schedule ++ m.health.waiting).filter (fun a =>
      a.kind == 4 && partKind a.part == 2 && partNum a.part / 2 ^ 15 == t)).length < 96 then m.planned 2 k 0
  else m.planTile t

/-- Spare pages of each package (12 R351). -/
def Module.packagePages (m : Module) : Nat := if m.boot.variant = 0 then 524288 else 262144

/-- The package that holds a local LPDDR5X offset: 2 × controller + package of the controller (12 R349). -/
def packageOf (off : Nat) : Nat := 2 * (off / 256 % 16) + off / 4096 % 2

/-- The 4 KiB page of a package that holds a local offset, keyed page * 32 + package (12 R349, R351). -/
def pageOf (off : Nat) : Nat := off / 131072 * 32 + packageOf off

/-- The first local offset of a page. -/
def pageOffset (k : Nat) : Nat := k / 32 * 131072 + (k % 32 / 2 + 16 * (k % 2)) * 256

/-- Retire a 4 KiB page of a package, by its key (18 R500). -/
def Module.retirePage (m : Module) (page : Nat) : Module :=
  if m.cutPending 3 page then m
  else if mGetD m.mem.sparePages (page % 32) 0 < m.packagePages then m.planned 3 page 0
  else m

/-! ## Self-tests (18 R502, R503, R508) -/

/-- SFC of the last passing self-test of a place. -/
def Module.lastPassAt (m : Module) (place : Nat) : Nat := match m.logicalAt place with
  | some t => (m.tileHealth t).lastPass
  | none => mGetD m.health.sparePass place 0

/-- A place passes a self-test in frame f; nothing issues on a quarantined tile (18 R502, R504). -/
def Module.passTest (m : Module) (f place : Nat) : Module := match m.logicalAt place with
  | some t => if (m.tileHealth t).state = 1 then m else m.onTileHealth t (fun h => { h with lastPass := f })
  | none => { m with health := { m.health with sparePass := mPut m.health.sparePass place f } }

/-- DATA of BIST_FAIL and BIST_TRANSIENT (18 Table 18-3). -/
def Module.testData (m : Module) (x : SelfTest) : Nat :=
  put (placeCode x.place) 16 48 + put x.unit 8 40 + put (m.lastPassAt x.place) 32 0

/-- A repeated failure of a place: a column cut-over where the failure lies in one column and the spare column is idle,
otherwise the tile fails; an idle spare is marked failed (18 R503, R508). -/
def Module.failTest (m : Module) (x : SelfTest) : Module :=
  let m := (m.count 0x6000 0x09 1).event 0x000F 1 (m.testData x)
  match m.logicalAt x.place with
  | some t =>
    let m := m.onTileHealth t (fun h => { h with bistFails := satAdd 16 h.bistFails 1 })
    if x.outcome.val = 2 ∧ !(m.tileHealth t).columnSpared then (if m.cutPending 1 t then m else m.forced 1 t 0)
    else m.failTile t 1
  | none => { m with
      health := { m.health with failed := insertBy (fun a b => decide (a ≤ b)) x.place (m.health.failed.filter (· != x.place)) }
      vilur := { m.vilur with bookDirty := true } }

/-- A self-test of frame f that is not just a pass in its turn; no test runs at a failed place or on a quarantined tile. -/
def Module.selfTest (f : Nat) (m : Module) (x : SelfTest) : Module :=
  if 544 ≤ x.place ∨ m.health.failed.contains x.place ∨ (m.logicalAt x.place).any (fun t => (m.tileHealth t).state == 1) then m
  else match x.outcome.val with
    | 0 => m.passTest f x.place
    | 1 => ((m.count 0x6000 0x0A 1).event 0x000F 2 (m.testData x)).passTest f x.place
    | _ => m.failTest x

/-! ## What a cut-over does at its tick (18 R506, R507, R509) -/

/-- Raise the epoch once for the tick's tile and column cut-overs (18 R509). -/
def Module.raiseEpoch (m : Module) (acts : List Action) : Module :=
  if acts.any (fun a => a.kind == 4 && decide (partKind a.part ≤ 1)) then
    { m with health := { m.health with epoch := (m.health.epoch + 1) % 2 ^ 32 } }
  else m

/-- The tile's place changes: the place it leaves is marked failed (18 R506, R507). -/
def Module.moveTile (m : Module) (t s : Nat) : Module :=
  let old := m.placeOf t
  let m := { m with health := { m.health with failed := insertBy (fun a b => decide (a ≤ b)) old (m.health.failed.filter (· != old))
                                              map := mPut m.health.map t s } }
  (m.count 0x6000 0x12 1).event 0x000F 8 (put m.health.epoch 32 32 + put (placeCode s) 16 16 + put t 9 0)

/-- A tile cut-over takes effect: planned when the tile is healthy, forced when it is quarantined. -/
def Module.cutTile (m : Module) (t s : Nat) : Module :=
  if (m.tileHealth t).state = 1 then
    let from_ := (m.tileHealth t).detected
    let hit (q : Query) := (List.range (m.clock.sfc - from_ + 1)).any (fun i => m.queryOn q t (from_ + i))
    let n := (m.search.live.filter hit).length
    let m := { m with search := { m.search with live := m.search.live.map (fun q => if hit q then { q with stage := 4 } else q) } }
    let m := m.onTile t (fun x => { x with vat := [], vstate := [], scales := [], alphas := [], events := [], runs := [], hot := [], standby := [] })
    let m := (m.onTileHealth t (fun h => { h with state := 0, faults := [], columnSpared := false })).count 0x6000 0x13 n
    m.moveTile t s
  else (m.onTileHealth t (fun h => { h with state := 0, columnSpared := false })).moveTile t s

/-- A lane of a cascade port is replaced by a spare lane, or leaves service (14 R390, 18 R500). -/
def Module.cutLane (m : Module) (lane spare : Nat) : Module :=
  let p := lane / 4
  let l := lane % 4
  let m := m.onLink p (fun x => { x with failedLanes := setBit x.failedLanes l true
                                         lanes := setBit x.lanes l (spare != 0xFF)
                                         spareUsed := if spare = 0xFF then x.spareUsed else spare })
  let m := if spare = 0xFF then m else { m with cascade := { m.cascade with spareLanes := mPut m.cascade.spareLanes spare lane } }
  m.event 0x000F 5 (put lane 8 8 + put spare 8 0)

/-- The spare cell takes the place of a cell in service (15 R444, 18 R500). CELL_MAP: 0 in service, 1 spare, 2 retired. -/
def Module.cutCell (m : Module) (cell spare : Nat) : Module :=
  let map := (m.holdup.map.set cell 2).set spare 0
  ({ m with holdup := { m.holdup with map := map } }).event 0x000F 6 cell

/-- Apply one KIND 4 action (18 R506, R507). -/
def Module.cutover (m : Module) (a : Action) : Module :=
  let k := partNum a.part
  match partKind a.part with
  | 0 => m.cutTile k (partSpare a.part)
  | 1 =>
    let m := m.onTileHealth k (fun h => { h with columnSpared := true })
    let m := { m with health := { m.health with badColumns := insertBy (fun a b => decide (a ≤ b)) (m.placeOf k) m.health.badColumns } }
    (m.count 0x6000 0x12 1).event 0x000F 7 (put m.health.epoch 32 32 + put k 9 0)
  | 2 => ({ m with mem := { m.mem with spareRows := mAdd m.mem.spareRows (k / 2 ^ 15) 1 } }).event 0x000F 3
      (put (k / 2 ^ 15) 9 32 + put k 15 0)
  | 3 => ({ m with mem := { m.mem with sparePages := mAdd m.mem.sparePages (k % 32) 1 } }).event 0x000F 4
      (put (k % 32) 5 59 + put (pageOffset k) 48 0)
  | 4 => m.cutLane k (partSpare a.part)
  | _ => m.cutCell k (partSpare a.part)

end Sys2Proof.Machine
end

