-- ==== Sys2Proof/Machine/Multicast.lean ====
section
/-! DEFINITION. Shard groups and multicasts as data (14 R403 to R413): shard maps, receiver sets, the query record and
the batch-end record, and the batches that a receiver holds. -/

namespace Sys2Proof.Machine

/-! ## Shard maps (14 R403, R404) -/

/-- A shard map. -/
def Module.shardMap (m : Module) (g : Nat) : Bytes := m.cfgBytes 0x4200 0x11 g
/-- VALID of a map. -/
def mapValid (b : Bytes) : Bool := (leAt b 0 1).testBit 0
/-- SHARD_COUNT of a map. -/
def mapShards (b : Bytes) : Nat := leAt b 30 2
/-- TOWER_AT 1: the entry runs the towers. -/
def mapTowerAt (b : Bytes) : Bool := leAt b 32 1 == 1
/-- Entry s of a map. -/
def mapEntry (b : Bytes) (s : Nat) : Nat := leAt b (64 + 4 * s) 4
/-- DEV_A of an entry. -/
def entryDevA (e : Nat) : Nat := fld e 31 24
/-- The second and third devices of an entry with their roles: 0 absent, 1 MIRROR, 2 STANDBY. -/
def entryOthers (e : Nat) : List (Nat × Nat) := [(fld e 23 16, fld e 7 6), (fld e 15 8, fld e 5 4)]
/-- Every device that an entry names. -/
def entryDevs (e : Nat) : List Nat := entryDevA e :: ((entryOthers e).filter (fun x => x.2 != 0)).map (·.1)

/-- The group of a host port (14 R404). -/
def Module.portGroup (m : Module) (h : Nat) : Option Nat :=
  let g := leAt (m.cfgBytes 0x4200 0x12 0) h 1
  if g < 16 ∧ mapValid (m.shardMap g) then some g else none

/-- The groups that host ports use, in ascending order. -/
def Module.groups (m : Module) : List Nat :=
  (List.range 16).filter (fun g => (List.range 4).any (fun h => m.portGroup h == some g))

/-- The receiver set of a map (14 R405). -/
def Module.receiverSet (m : Module) (g : Nat) : Nat :=
  let b := m.shardMap g
  let here (d : Nat) : Bool := if d = m.device then m.inFrames else m.cascade.member d
  (List.range (mapShards b)).foldl (fun set s =>
    let e := mapEntry b s
    let set := if here (entryDevA e) then setBit set (entryDevA e) true else set
    (entryOthers e).foldl (fun set x =>
      if here x.1 && (x.2 == 1 || (x.2 == 2 && !here (entryDevA e))) then setBit set x.1 true else set) set) 0

/-! ## Records (14 Tables 14-6 and 14-7) -/

/-- A field for the query record: the header's, else the override's, else a default in the mask. WIDEN off is 0. -/
def recordField (hdr : Nat) (ov : List (Nat × Nat)) (bit : Nat) : Nat × Nat :=
  if hdr ≠ 0 then (hdr, 0) else match mGet ov bit with
    | some v => (v, 0)
    | none => (0, 1)

/-- The query record of query i of a message, with its filter area and input (14 R407). -/
def queryRecord (entry group tag arrival i : Nat) (b : Bytes) (ov : List (Nat × Nat)) (fl : Option Bytes) (staged : Bool) : Bytes :=
  let k := recordField (msgK b) ov 0
  let p := recordField (msgProbe b) ov 1
  let c := recordField (msgRerank b) ov 2
  let w : Nat × Nat := if msgWiden b = 0xFFFF then (0, 0) else recordField (msgWiden b) ov 3
  let sw := recordField (msgWidth b) ov 4
  let ar := recordField (msgArith b) ov 5
  let me := recordField (msgMetric b) ov 6
  let to_ : Nat × Nat := if staged then (0xFF, 0) else recordField (msgTower b) ov 7
  let fsel := msgFilterSel b
  let f : Nat × Nat × Bytes :=      -- selector, mask bit, filter
    if fsel = 1 then (1, 0, []) else if fsel = 2 then (2, 0, msgFilter b) else match fl with
      | some [] => (1, 0, [])
      | some x => (2, 0, x)
      | none => (0, 1, [])
  let mask := k.2 + 2 * p.2 + 4 * c.2 + 8 * w.2 + 16 * sw.2 + 32 * ar.2 + 64 * me.2 + 128 * to_.2 + 256 * f.2.1
  let fbytes := if fsel = 2 then msgFilterBytes b else f.2.2.length
  let body := fit f.2.2 (roundUp fbytes 64) ++ (if staged then [] else padTo (msgInput b i) 64)
  let h := put arrival 64 448 + put tag 32 416 + put (64 + body.length) 32 384 + put fbytes 16 368 + put (if staged then 0 else msgElems b) 16 352
    + put w.1 16 336 + put sw.1 16 320 + put c.1 16 304 + put p.1 16 288 + put k.1 16 272 + put to_.1 8 264 + put ar.1 8 256 + put me.1 8 248
    + put f.1 8 240 + put (msgKind b) 8 232 + put mask 9 223 + put (b2n staged) 1 200 + put group 8 192 + put entry 8 184
  toLe 64 h ++ body

/-- A query record's effective parameters, its masked fields from the batch-end record e and default filter df. -/
def recordParams (r : Bytes) (e : Nat) (df : Bytes) : Params :=
  let h := leAt r 0 64
  let m (bit a d : Nat) : Nat := if h.testBit (223 + bit) then d else a
  { k := m 0 (fld h 287 272) (fld e 375 360), p := m 1 (fld h 303 288) (fld e 359 344), c := m 2 (fld h 319 304) (fld e 343 328)
    pw := m 3 (fld h 351 336) (fld e 327 312), width := m 4 (fld h 335 320) (fld e 311 296), arith := m 5 (fld h 263 256) (fld e 295 288)
    metric := m 6 (fld h 255 248) (fld e 287 280), tower := m 7 (fld h 271 264) (fld e 279 272)
    filter := if h.testBit 231 then df else if fld h 247 240 = 2 then sub r 64 (fld h 383 368) else [] }

/-- The batch-end record of a group with its default filter (14 R408). -/
def Module.batchEnd (m : Module) (sfc group count : Nat) (withFilter : Bool) : Bytes :=
  let f := if withFilter then m.cfgBytes 0x2100 0x09 0 else []
  let body := padTo f 64
  toLe 64 (put sfc 64 448 + put count 32 416 + put (m.cfg 0x30F0 0x02) 32 384 + put (m.cfg 0x30F0 0x01) 8 376 + put (m.cfg 0x2100 0x01) 16 360
    + put (m.cfg 0x2100 0x02) 16 344 + put (m.cfg 0x2100 0x03) 16 328 + put (m.cfg 0x2100 0x04) 16 312 + put (m.cfg 0x2100 0x05) 16 296
    + put (m.cfg 0x2100 0x06) 8 288 + put (m.cfg 0x2100 0x07) 8 280 + put (m.cfg 0x2100 0x08) 8 272 + put f.length 16 256
    + put (64 + body.length) 32 224 + put group 8 216 + put m.device 8 208) ++ body

/-! ## Sending a sequence down the tree -/

/-- Send a record in cells of 256 bytes down T(entry) toward a receiver set (14 R407, R408). -/
def Module.sendRecord (m : Module) (set_ typ group tag : Nat) (r : Bytes) : Module :=
  let ps := cellPieces r
  (ps.zip (List.range ps.length)).foldl (fun (m : Module) p =>
    m.sendDown m.device typ (put group 8 40 + put tag 32 8 + put p.2 8 0) p.1 (fun d => set_.testBit d)) m

/-- At tick n - 1: fix the receiver set of batch n for each group, and send BATCH_OPEN (14 R405, R406). -/
def Module.openBatches (m : Module) : Module :=
  let m := { m with search := { m.search with batchTag := 0 } }
  if !m.inFrames then m
  else m.groups.foldl (fun (m : Module) g =>
    let n := m.clock.sfc + 1
    let set_ := m.receiverSet g
    let o : OwnBatch := { group := g, sfc := n, set_ := set_ }
    let m := { m with cascade := { m.cascade with own := m.cascade.own ++ [o] } }
    m.sendDown m.device 12 (put g 8 40) (toLe 8 n ++ toLe 32 set_) (fun d => set_.testBit d)) m

/-- After tick n: send the batch-end record of every group whose BATCH_OPEN went out at tick n - 1 (14 R408). -/
def Module.endBatches (m : Module) : Module :=
  (m.cascade.own.filter (fun b => b.sfc == m.clock.sfc)).foldl (fun (m : Module) b =>
    m.sendRecord b.set_ 14 b.group 0 (m.batchEnd b.sfc b.group b.tags b.masked)) m

/-! ## A receiver's batches (14 R406 to R409) -/

/-- Bytes of a sequence of cells, in index order, if all of them are here. -/
def assemble (cells : List (Nat × Bytes)) : Option Bytes :=
  match cells.find? (fun c => c.1 == 0) with
  | none => none
  | some _ =>
    let n := listMax (cells.map (·.1)) + 1
    let parts := (List.range n).map (fun i => cells.find? (fun c => c.1 == i))
    if parts.all Option.isSome then some (parts.flatMap (fun p => match p with
      | some c => c.2
      | none => [])) else none

/-- A record of LENGTH at bit lo of its header that has arrived whole. -/
def wholeRecord (lo : Nat) (cells : List (Nat × Bytes)) : Option Bytes :=
  match assemble cells with
  | none => none
  | some r =>
    let len := leAt r (lo / 8) 4
    if len ≤ r.length then some (r.take len) else none

/-- The batch-end record that a batch holds. -/
def Batch.endRec (b : Batch) : Option Bytes := wholeRecord 224 b.ends

/-- The tags of the query cells that a batch holds. -/
def Batch.tags (b : Batch) : List Nat := sortBy (fun x y => decide (x ≤ y)) (dedup (b.frags.map (·.1)))

/-- The query record of a tag. -/
def Batch.record (b : Batch) (tag : Nat) : Option Bytes := wholeRecord 384 ((b.frags.filter (fun f => f.1 == tag)).map (fun f => f.2))

/-- The whole query records of a batch, by tag. -/
def Batch.records (b : Batch) : List (Nat × Bytes) := b.tags.filterMap (fun t => (b.record t).map (fun r => (t, r)))

/-- The receiver holds all it needs to accept the batch (14 R409). -/
def Batch.whole (b : Batch) : Bool :=
  match b.endRec with
  | none => false
  | some e => decide (fld (leAt e 0 64) 447 416 ≤ b.records.length)

/-- The outputs of a tag's tower, dim FP32 values, once they are here (14 R412). -/
def Batch.towerVals (b : Batch) (tag dim : Nat) : Option (List Nat) :=
  let cells := (b.towers.filter (fun f => f.1 == tag)).map (fun f => f.2)
  match assemble cells with
  | none => none
  | some r => if 4 * dim ≤ r.length then some ((List.range dim).map (fun i => leAt r (4 * i) 4)) else none

/-- A batch that a receiver holds. -/
def Module.batchOf (m : Module) (entry group sfc : Nat) : Option Batch :=
  m.cascade.batches.find? (fun b => b.entry == entry && b.group == group && b.sfc == sfc)

/-- Change a batch. -/
def Module.onBatch (m : Module) (entry group sfc : Nat) (f : Batch → Batch) : Module :=
  { m with cascade := { m.cascade with batches := m.cascade.batches.map (fun b =>
      if b.entry == entry && b.group == group && b.sfc == sfc then f b else b) } }

/-- This module is a receiver of a batch. -/
def Module.receives (m : Module) (b : Batch) : Bool := b.members.testBit m.device

/-- The DONE that acknowledges a batch (14 R409; encoding log 41). -/
def batchDone (status group sfc : Nat) : Nat × Bytes := (put group 8 40, toLe 1 status ++ toLe 1 1 ++ zeros 6 ++ toLe 8 sfc)

/-! ## Slow children (14 R410) -/

/-- Multicast cells of batch n that still wait at t(n) + MCAST_GUARD_NS are discarded (14 R410). -/
def Module.dropLateCells (m : Module) : Module :=
  let n := m.clock.sfc
  if m.clock.now < m.clock.tickTime n + m.cfg 0x4200 0x13 then m
  else (List.range 12).foldl (fun (m : Module) p =>
    let l := m.linkPort p
    let opens (c x : Bytes) : Bool := cellTyp x == 12 && cellSrc x == cellSrc c && fld (cellArg x) 47 40 == fld (cellArg c) 47 40 && decide (n < leAt (cellPay x) 0 8)
    let later (i : Nat) (c : Bytes) : Bool :=
      if l.waiting.any (opens c) then (l.waiting.take (i + 1)).any (opens c)
      else (m.cascade.batches.any (fun b => b.entry == cellSrc c && b.group == fld (cellArg c) 47 40 && decide (n < b.sfc)))
        || (cellSrc c == m.device && m.cascade.own.any (fun o => o.group == fld (cellArg c) 47 40 && decide (n < o.sfc)))
    let keep := (l.waiting.zip (List.range l.waiting.length)).filter (fun x =>
      !(decide (12 ≤ cellTyp x.1 ∧ cellTyp x.1 ≤ 14)) || later x.2 x.1)
    let gone := l.waiting.length - keep.length
    if gone = 0 then m else (m.onLink p (fun l => { l with waiting := keep.map (·.1) })).linkCount p 10 gone) m

end Sys2Proof.Machine
end

