-- ==== Sys2Proof/Machine/Space.lean ====
section
/-! DEFINITION. Room in LPDDR5X and in the Lot library (12 R356, R357, 15 R421, R422): what each holder takes, and what
is free. -/

namespace Sys2Proof.Machine

/-- The unit of the managed region: 2 MiB (12 R356). -/
def managedUnit : Nat := 2097152

/-- Managed bytes of a loaded Lot: its load footprint in whole units (06 R168, 12 R356). -/
def LotData.space (l : LotData) : Nat := roundUp (imgLoadBytes l.bytes) managedUnit

/-- Managed bytes of the attribute history: 16 bytes for each of its 4,194,304 entries (03 R78, log 43). -/
def historySpace : Nat := 67108864

/-- The pipeline area (12 R345). -/
def pipelineSpace : Nat := 8589934592

/-- The write cache of the Cistern: 4 GiB of the managed region (15 R430). -/
def writeCacheSpace : Nat := 4294967296

/-- Managed bytes of the Lot that a load is copying (06 R167). -/
def Module.loadingSpace (m : Module) : Nat :=
  if m.lots.loadState = 1 then match mGet m.lots.library m.lots.loading with
    | some x => roundUp (imgLoadBytes x.bytes) managedUnit
    | none => 0
  else 0

/-- Managed bytes of the running build (06 Table 06-9). -/
def Module.builderSpace (m : Module) : Nat := if m.lots.buildState = 1 then m.lots.buildMemory else 0

/-- Managed bytes of the active Lot. -/
def Module.activeSpace (m : Module) : Nat := match m.lots.active with
  | some l => l.space
  | none => 0

/-- Managed bytes of the staged Lot, or of the one being loaded. -/
def Module.stagedSpace (m : Module) : Nat := (match m.lots.staged with
  | some l => l.space
  | none => 0) + m.loadingSpace

/-- Managed bytes of the superseded and held Lots. -/
def Module.retainedSpace (m : Module) : Nat := m.lots.retained.foldl (fun a l => a + l.space) 0

/-- Every managed allocation (12 R356). -/
def Module.managedUsed (m : Module) : Nat :=
  m.activeSpace + m.stagedSpace + m.retainedSpace + m.builderSpace + historySpace + pipelineSpace + writeCacheSpace

/-- USER_REGION_BYTES in force. -/
def Module.userRegion (m : Module) : Nat := m.cfg 0x4000 0x03

/-- Free LPDDR5X: the managed region less its allocations (12 R357). -/
def Module.managedFree (m : Module) : Nat := m.lpddrUsable - m.userRegion - m.managedUsed

/-- Bytes of the user-region reservations. -/
def Module.reservedBytes (m : Module) : Nat := m.mem.reserved.foldl (fun a r => a + r.2.1) 0

/-- End of the highest user-region reservation. -/
def Module.reservedEnd (m : Module) : Nat := m.mem.reserved.foldl (fun a r => max a (r.1 + r.2.1)) 0

/-- A range can be reserved: inside the user region and clear of every other reservation (12 R356). -/
def Module.canReserve (m : Module) (base n : Nat) : Bool :=
  decide (base + n ≤ m.userRegion) && m.mem.reserved.all (fun r => !(decide (base < r.1 + r.2.1 ∧ r.1 < base + n)))

/-- Reserve a range for an owner. -/
def Module.reserve (m : Module) (base n owner : Nat) : Module :=
  if n = 0 then m else { m with mem := { m.mem with reserved := m.mem.reserved ++ [(base, n, owner)] } }

/-- Free the reservations of an owner. -/
def Module.unreserve (m : Module) (owner : Nat) : Module :=
  { m with mem := { m.mem with reserved := m.mem.reserved.filter (fun r => r.2.2 != owner) } }

/-! ## The Cistern (15) -/

/-- User bytes of the Cistern (15 Table 15-6). -/
def cisternUser : Nat := 13194139533312

/-- Bytes of the system region. -/
def cisternSystem : Nat := 34359738368

/-- An extent of an attribute log: 64 MiB (15 R422). -/
def logExtent : Nat := 67108864

/-- Bytes of an attribute log of n entries, in whole extents (15 R422). -/
def logSpace (n : Nat) : Nat := roundUp (16 * n) logExtent

/-- Bytes that a library image and its log take (15 R422). -/
def LotImage.space (x : LotImage) : Nat := roundUp x.bytes.length 4096 + logSpace x.log.length

/-- Bytes that the Lot library takes. -/
def Module.libraryUsed (m : Module) : Nat :=
  m.lots.library.foldl (fun a p => a + p.2.space) 0 + (if m.lots.buildState = 1 then m.lots.buildHold else 0)

/-- LIBRARY_FREE_BYTES with a Store area of n bytes. -/
def Module.libraryFreeAt (m : Module) (area : Nat) : Nat := cisternUser - cisternSystem - area - m.libraryUsed

/-- LIBRARY_FREE_BYTES (15 R422). -/
def Module.libraryFree (m : Module) : Nat := m.libraryFreeAt (m.cfg 0x4300 0x03)

/-- The newest data of a 4 KiB block in the write cache (15 R430). -/
def Cistern.cached (c : Cistern) (b : Nat) : Option Bytes := (c.cache.reverse.find? (fun x => x.block == b)).map (·.data)

/-- The byte of the Store area at an offset: the newest written (15 R421, R429). -/
def Cistern.byte (c : Cistern) (a : Nat) : Byte :=
  match c.cached (a / 4096) with
  | some d => d.getD (a % 4096) 0
  | none => memRead c.nand a

/-- n bytes of the Store area. -/
def Cistern.read (c : Cistern) (o n : Nat) : Bytes := (List.range n).map (fun i => c.byte (o + i))

/-- The 4 KiB blocks that a range meets. -/
def blocksOf (o n : Nat) : List Nat := if n = 0 then [] else (List.range ((o + n - 1) / 4096 + 1 - o / 4096)).map (fun i => o / 4096 + i)

/-- The first block of a range that reads as a media error (15 R429). -/
def Cistern.badIn (c : Cistern) (o n : Nat) : Option Nat := (blocksOf o n).find? (fun b => c.bad.contains b && (c.cached b).isNone)

/-- A range of the Store area, or none where it leaves the area or meets a media error. -/
def Module.storeRead (m : Module) (o n : Nat) : Option Bytes :=
  if m.cfg 0x4300 0x03 < o + n ∨ (m.cistern.badIn o n).isSome then none else some (m.cistern.read o n)

/-- Bytes of the write cache that are not yet on NAND. -/
def Cistern.dirty (c : Cistern) : Nat := 4096 * c.cache.length

/-- Bytes of records in the Leat journal (15 R436, R437). -/
def Cistern.journalUsed (c : Cistern) : Nat := c.journal.foldl (fun a r => a + r.data.length) 0

/-- The atomic write unit (15 R432). -/
def Module.atomicUnit (m : Module) : Nat := if m.holdup.state = 0 then 16384 else 1048576

/-- The Store commands that have entered the range-lock table and not left it (15 R428). -/
def Cistern.locks (c : Cistern) : Nat := (c.cmds.filter (·.inTable)).length

end Sys2Proof.Machine
end

