-- ==== Sys2Proof/Machine/Flags.lean ====
section
/-! DEFINITION. Status words, flags and records as the dictionary shows them: one function per record table of the
spec, and the value of every read-only object (16 R462). -/

namespace Sys2Proof.Machine

/-! ## Frame and time (02) -/

/-- A schedule entry (02 Table 02-4). -/
def Action.record (a : Action) : Bytes :=
  let od := decide (a.kind ≤ 3)
  toLe 32 (put a.target 64 0 + put (if od then leNat (a.value.take 8) else a.arg) 64 64
    + put (if od then a.key / 2 ^ 24 else 0) 16 128 + put (if od then a.key / 2 ^ 16 else 0) 8 144
    + put a.kind 8 152 + put a.seq 32 160)

/-- Read-only objects of 0x1100. -/
def Module.ro1100 (m : Module) (sub : Nat) : Option Bytes :=
  match sub with
  | 0x04 => some (toLe 8 m.clock.sfc)
  | 0x06 => some (toLe 1 (b2n m.clock.profileModified))
  | 0x08 => some (toLe 1 m.clock.timeState)
  | 0x09 => some (toLe 8 (unsgn 64 m.clock.offset))
  | 0x18 => some (toLe 4 (budgetNs m.clock.period))
  | 0x19 => some (toLe 1 m.clock.step)
  | 0x1C => some (toLe 8 m.clock.baseSfc)
  | 0x1D => some (toLe 8 m.clock.baseNs)
  | 0x1E => some (m.schedule.flatMap Action.record)
  | _ => none

/-! ## Lots and the builder (03, 06) -/

/-- A field of the active Lot, 0 when none. -/
def Module.activeNat (m : Module) (f : LotData → Nat) : Nat := match m.lots.active with
  | some l => f l
  | none => 0

/-- Lists of a Lot that are not resident. -/
def LotData.nonresident (l : LotData) : Nat := (l.resident.filter (fun b => !b)).length

/-- The attribute word of an ordinal of a Lot in force. -/
def LotData.wordOf (l : LotData) (o : Nat) : Nat := match mGet l.words o with
  | some w => w
  | none => match (List.range (imgItems l.bytes)).find? (fun i => imgRecOrd l.bytes 4 i == o) with
    | some i => imgRecAttr l.bytes 4 i
    | none => 0

/-- Items of a Lot whose withheld bit is set. -/
def LotData.withheld (l : LotData) : Nat :=
  ((List.range (imgItems l.bytes)).filter (fun i =>
    (mGetD l.words (imgRecOrd l.bytes 4 i) (imgRecAttr l.bytes 4 i)).testBit 63)).length

/-- One entry of TILE_RESIDENCY: cap[t], bytes used and lists owned (03 Table 03-14). -/
def Module.residency (m : Module) (t : Nat) : Bytes :=
  match m.lots.active with
  | none => toLe 16 (put (capOf (m.cfg 0x2000 0x12) t) 32 0)
  | some l =>
    let owned := (List.range l.owner.length).filter (fun i => l.owner.getD i 512 == t)
    let used := (owned.filter (fun i => l.resident.getD i false)).foldl (fun a i => a + imgListBytes l.bytes i) 0
      + (if l.graphResident then imgCent l.bytes * owned.length else 0)
    toLe 16 (put (l.caps.getD t 0) 32 0 + put used 32 32 + put owned.length 32 64)

/-- A Lot library entry (06 Table 06-1). -/
def Module.libraryEntry (m : Module) (p : Nat × LotImage) : Bytes :=
  let b := p.2.bytes
  toLe 32 (put p.1 32 0 + put (imgShard b) 16 32 + put (imgShards b) 16 48 + put (imgBytes b) 64 64 + put (imgLoadBytes b) 64 128
    + put (b2n (imgHas b 14)) 1 200 + put (b2n p.2.builtHere) 1 201 + put (b2n (p.1 == m.lots.committed)) 1 202)

/-- Read-only objects of 0x2000. -/
def Module.ro2000 (m : Module) (sub : Nat) : Option Bytes :=
  let a (n : Nat) (f : LotData → Nat) : Option Bytes := some (toLe n (m.activeNat f))
  match sub with
  | 0x01 => a 4 (·.number)
  | 0x02 => some (toLe 8 m.lots.activeSince)
  | 0x03 => some (toLe 4 (match m.lots.staged with
      | some l => l.number
      | none => 0))
  | 0x04 => some ((List.range 8).flatMap (fun i => toLe 4 ((m.lots.retained.map (·.number)).getD i 0)))
  | 0x05 => a 4 (fun l => imgShards l.bytes * 65536 + imgShard l.bytes)
  | 0x06 => a 1 (fun l => imgMetric l.bytes)
  | 0x07 => a 2 (fun l => imgDim l.bytes)
  | 0x08 => a 1 (fun l => imgFormat l.bytes)
  | 0x09 => a 2 (fun l => imgSketch l.bytes)
  | 0x0A => a 4 (fun l => imgLists l.bytes)
  | 0x0B => a 8 (fun l => imgItems l.bytes)
  | 0x0C => a 8 (fun l => imgSpills l.bytes)
  | 0x0D => some (match m.lots.active with
      | some l => imgDigest l.bytes
      | none => zeros 64)
  | 0x0E => a 1 (fun l => b2n (imgHas l.bytes 14))
  | 0x0F => a 8 LotData.withheld
  | 0x13 => a 4 LotData.nonresident
  | 0x14 => a 1 (fun l => b2n l.graphResident)
  | 0x15 => some ((List.range 512).flatMap m.residency)
  | 0x17 => some (toLe 4 m.lots.history.length)
  | 0x18 => some (toLe 1 m.lots.verifyLast)
  | 0x41 => some (toLe 1 m.lots.loadState)
  | 0x42 => some (toLe 8 m.lots.loadProgress)
  | 0x45 => some (toLe 4 m.lots.committed)
  | 0x46 => some (toLe 4 m.lots.previous)
  | 0x4A => some (toLe 1 m.lots.importState)
  | 0x4B => some (m.lots.library.flatMap m.libraryEntry)
  | 0x4F => some (toLe 1 m.lots.importError)
  | _ => none

/-- Read-only objects of 0x2200. -/
def Module.ro2200 (m : Module) (sub : Nat) : Option Bytes :=
  match sub with
  | 0x03 => some (toLe 1 m.lots.buildState)
  | 0x04 => some (toLe 1 m.lots.buildError)
  | 0x05 => some (toLe 1 m.lots.buildPhase)
  | 0x06 => some (toLe 8 m.lots.buildItems)
  | 0x09 => some (toLe 8 m.lots.buildStart)
  | 0x0A => some (toLe 4 m.lots.buildAlpha)
  | _ => none

/-! ## Sessions and the Headgate (04) -/

/-- The session defaults record (04 Table 04-2): the session's overrides over the defaults in force. -/
def Module.defaultsRecord (m : Module) (n : Nat) : Bytes :=
  match m.session n with
  | none => zeros 32
  | some x =>
    if x.typ ≠ 1 then zeros 32
    else
      let v (bit sub : Nat) := mGetD x.overrides bit (m.cfg 0x2100 sub)
      let fb := match x.filter with
        | some f => f
        | none => m.cfgBytes 0x2100 0x09 0
      let ovr := x.overrides.foldl (fun a p => setBit a p.1 true) 0
      let ovr := setBit ovr 8 x.filter.isSome
      toLe 32 (put x.outstanding 32 0 + put ovr 9 55 + put (v 6 0x07) 8 72 + put (v 5 0x06) 8 80 + put (v 7 0x08) 8 88
        + put (v 0 0x01) 16 96 + put (v 1 0x02) 16 112 + put (v 2 0x03) 16 128 + put (v 4 0x05) 16 144
        + put (v 3 0x04) 16 160 + put fb.length 16 176 + put n 32 192)

/-- Read-only objects of 0x1200, for the client's session. -/
def Module.ro1200 (m : Module) (sub inst : Nat) : Option Bytes :=
  match sub with
  | 0x01 => some (toLe 4 m.ports.sessions.length)
  | 0x06 => some (toLe 1 m.costSource)
  | 0x0C => some (toLe 4 m.search.lastBatch)
  | 0x0D => some (toLe 4 m.search.lastAdmitted)
  | 0x0E => some (toLe 8 (lpddrBudget m.clock.period))
  | 0x0F => some (toLe 4 (portPackets m.clock.period))
  | 0x11 => some (m.defaultsRecord inst)
  | _ => none

/-! ## Streams, tables, jobs (08, 10, 11) -/

/-- STATE of a set: a running set whose contexts have all left their lists reads parked, or halted when none is parked
(08 Table 08-15). -/
def Module.setState (m : Module) (s : StreamSet) : Nat :=
  let cs := s.tiles.map (fun t => (m.ctx t (armCtx s.header)).state)
  if s.state ≠ 2 ∨ cs.any (fun c => c != 2 && c != 3) then s.state else if cs.contains 2 then 3 else 6

/-- The status record of a stream set; state 0 where there is none (08 Table 08-15). -/
def Module.streamStatus (m : Module) (id : Nat) : Bytes :=
  match mGet m.streams.sets id with
  | none => statusRecord id 0 0 0 0 0 0 0
  | some s => statusRecord id (m.setDebt s) (m.setState s) s.faultCode s.faultTile s.faultCmd s.faultSfc s.armSfc

/-- Read-only objects of 0x3100, for the client's stream. -/
def Module.ro3100 (m : Module) (sub inst : Nat) : Option Bytes :=
  match sub with
  | 0x05 => some (m.streamStatus inst)
  | 0x06 => some (toLe 1 (m.streams.sets.filter (fun p => p.2.state != 1)).length)
  | 0x07 => some (toLe 1 m.streams.armRefusal)
  | 0x0E => some (fit m.streams.lastFault 32)
  | _ => none

/-- Descriptor of a version, 64 bytes, zeros for none. -/
def descBytes (d : Option Nat) : Bytes := toLe 64 (d.getD 0)

/-- The table statistics record (10 Table 10-6). -/
def Module.tableStats (m : Module) (t : Nat) : Bytes := (List.range 8).flatMap (fun i => toLe 8 (m.ctrI 0x3200 0x07 (t * 8 + i)))

/-- Read-only objects of 0x3200, for the client's table. -/
def Module.ro3200 (m : Module) (sub inst : Nat) : Option Bytes :=
  match sub with
  | 0x05 => some (descBytes (m.table inst).shown)
  | 0x06 => some (descBytes (m.table inst).staged)
  | 0x07 => some (m.tableStats inst)
  | _ => none

/-- A digest record (11 Table 11-6). -/
def Digest.record (d : Digest) : Bytes :=
  toLe 48 (put d.step 32 0 + put d.sentBytes 64 64 + put d.sentCrc 64 128 + put d.recvBytes 64 192 + put d.recvCrc 64 256)

/-- JOB_STATUS: state and current step as U32, then the last step record (11 Table 11-7, log 44). -/
def Job.status (j : Job) : Bytes := toLe 4 j.state ++ toLe 4 j.step ++ fit j.record 32

/-- Read-only objects of 0x3300, for the client's job. -/
def Module.ro3300 (m : Module) (sub inst : Nat) : Option Bytes :=
  match sub with
  | 0x06 => some (m.job inst).status
  | 0x07 => some ((m.job inst).digestNow.record ++ (m.job inst).digestLast.record)
  | 0x08 => some (if (m.job inst).state = 0 then [] else (m.jobOffsets (m.job inst).config).dropLast.flatMap (toLe 8))
  | 0x0C => some (toLe 1 (m.jobs.jobs.filter (fun p => p.2.state == 2)).length)
  | 0x0D => some (toLe 16 m.jobs.digestResult)
  | 0x1C => some (toLe 8 m.jobs.serviceClocks)
  | _ => none

/-! ## Memory (12) -/

/-- The region usage record (12 Table 12-5). -/
def Module.regionUsage (m : Module) : Bytes :=
  [m.userRegion, m.reservedBytes, m.activeSpace, m.retainedSpace, m.stagedSpace, m.builderSpace, historySpace, pipelineSpace,
   m.managedFree].flatMap (toLe 8)

/-- Read-only objects of 0x4000. -/
def Module.ro4000 (m : Module) (sub : Nat) : Option Bytes :=
  match sub with
  | 0x01 => some (toLe 8 (if m.boot.variant = 0 then 2199023255552 else 1099511627776))
  | 0x02 => some (toLe 8 m.lpddrUsable)
  | 0x04 => some (toLe 8 m.managedFree)
  | 0x05 => some m.regionUsage
  | 0x0E => some ((List.range 32).flatMap (fun p => toLe 4 (m.packagePages - mGetD m.mem.sparePages p 0)))
  | 0x0F => some ((List.range 512).flatMap (fun t => toLe 1 (96 - mGetD m.mem.spareRows t 0)))
  | 0x10 => some ((List.range 32).flatMap (fun p => toLe 1 (mGetD m.mem.refresh p 4)))
  | 0x11 => some (toLe 32 m.mem.lastError)
  | _ => none

/-! ## Host ports (13) -/

/-- The port status record (13 Table 13-6). -/
def Module.portStatus (m : Module) (p : Nat) : Bytes :=
  let x := m.hostPort p
  toLe 32 (put (b2n x.linkUp) 1 0 + put (b2n x.training) 1 1 + put (m.cfgI 0x4100 0x03 p) 2 8 + put x.changes 32 64
    + put (m.ports.sessions.filter (fun s => s.2.port == p)).length 32 96 + put x.fecOk 64 128 + put x.fecBad 64 192)

/-- The port counters record (13 Table 13-7). -/
def Module.portCounters (m : Module) (p : Nat) : Bytes := (List.range 16).flatMap (fun i => toLe 8 (m.ctrI 0x4100 0x20 (p * 16 + i)))

/-- The session record (13 Table 13-8). -/
def Module.sessionInfo (m : Module) (n : Nat) : Bytes :=
  match m.session n with
  | none => toLe 48 (put n 32 0)
  | some x => toLe 48 (put n 32 0 + put x.typ 8 32 + put x.port 2 48 + put x.state 8 64 + put x.remoteQpn 24 80 + put x.rate 32 128
      + put x.slotBytes 32 160 + put x.slots 32 192 + put x.rkey 32 224 + put x.resultAddr 64 256 + put x.txQueued 64 320)

/-- The window record (13 Table 13-4). -/
def Module.windowRecord (m : Module) (n : Nat) : Bytes :=
  match mGet m.ports.windows n with
  | none => zeros 32
  | some w => toLe 32 (1 + put (b2n w.canRead) 1 1 + put (b2n w.canWrite) 1 2 + put w.ports 4 4 + put w.session 32 64 + put w.rkey 32 96
      + put w.base 64 128 + put w.len 64 192)

/-- Read-only objects of 0x4100, for the client's port or session. -/
def Module.ro4100 (m : Module) (sub inst : Nat) : Option Bytes :=
  match sub with
  | 0x02 => some (m.portStatus inst)
  | 0x05 => some (toBe 6 (m.boot.macs.getD inst 0))
  | 0x1D => some (m.sessionInfo inst)
  | 0x20 => some (m.portCounters inst)
  | 0x22 => some ([1, 2, 3].flatMap (fun t => toLe 4 (m.ports.sessions.filter (fun s => s.2.typ == t)).length))
  | _ => none

/-! ## Cascade (14) -/

/-- The averaged delay of a link, rounded toward zero, 0 before the first exchange (14 R401). -/
def LinkPort.delay (l : LinkPort) : Int := if l.delays.isEmpty then 0 else (l.delays.foldl (· + ·) 0).tdiv l.delays.length

/-- The cascade port status record (14 Table 14-11). -/
def LinkPort.status (l : LinkPort) : Bytes :=
  toLe 16 (put l.state 3 0 + put l.lanes 4 8 + put l.spareUsed 4 12 + put l.neighDev 8 56 + put l.neighPort 8 64
    + put (unsgn 32 l.delay) 32 96)

/-- The cascade port counters record (14 Table 14-12). -/
def Module.linkCounters (m : Module) (p : Nat) : Bytes := (List.range 12).flatMap (fun i => toLe 8 (m.ctrI 0x4200 0x0A (p * 16 + i)))

/-- Status of a lane: 48 port lanes, then the spare lanes (14 Table 14-10). -/
def Module.laneStatus (m : Module) (i : Nat) : Nat :=
  if 48 ≤ i then
    (match mGet m.cascade.spareLanes (i - 48) with
    | some _ => 3
    | none => 2)
  else
    let l := m.linkPort (i / 4)
    if l.failedLanes.testBit (i % 4) then 4 else if l.lanes.testBit (i % 4) then 1 else 0

/-- The next-hop port to a device: 0xFE self, 0xFF unreachable (14 Table 14-10). -/
def Module.routePort (m : Module) (d : Nat) : Nat :=
  if d = m.device then 0xFE else match m.cascade.route m.device m.device d with
    | some p => p
    | none => 0xFF

/-- Read-only objects of 0x4200, for the client's port. -/
def Module.ro4200 (m : Module) (sub inst : Nat) : Option Bytes :=
  match sub with
  | 0x03 => some (toLe 1 m.cascade.state)
  | 0x04 => some (toLe 1 m.cascade.outReason)
  | 0x05 => some (toLe 32 (m.cascade.known.foldl (fun a p => setBit a p.1 p.2.inCascade) 0))
  | 0x06 => some (toLe 1 m.cascade.hops)
  | 0x09 => some (m.linkPort inst).status
  | 0x0A => some (m.linkCounters inst)
  | 0x0D => some ((List.range 52).flatMap (fun i => toLe 1 (m.laneStatus i)))
  | 0x0E => some (toLe 8 m.cascade.routeSfc)
  | 0x0F => some ((List.range 256).flatMap (fun d => toLe 1 (m.routePort d)))
  | _ => none

/-! ## Cistern and hold-up bank (15) -/

/-- Read-only objects of 0x4300. -/
def Module.ro4300 (m : Module) (sub : Nat) : Option Bytes :=
  match sub with
  | 0x04 => some (toLe 8 m.libraryFree)
  | 0x07 => some (toLe 8 m.cistern.dirty)
  | 0x08 => some (toLe 4 m.atomicUnit)
  | 0x09 => some (toLe 4 (m.cistern.limit * 1048576))
  | 0x0A => some (toLe 4 m.cistern.journalUsed)
  | 0x11 => some (toLe 2 m.cistern.locks)
  | 0x14 => some (toLe 1 (b2n m.cistern.readOnly))
  | 0x15 => some (toLe 32 m.cistern.lastFlush)
  | _ => none

/-- Read-only objects of 0x4400. -/
def Module.ro4400 (m : Module) (sub : Nat) : Option Bytes :=
  let h := m.holdup
  match sub with
  | 0x01 => some (toLe 1 h.state)
  | 0x02 => some (toLe 1 (b2n h.charging + put (b2n h.testing) 1 1 + put (b2n h.endOfLife) 1 2 + put (b2n h.hot) 1 3
      + put (b2n h.stopped) 1 4 + put (b2n h.cellFault) 1 5))
  | 0x03 => some (toLe 4 h.energy)
  | 0x04 => some (toLe 4 h.rated)
  | 0x05 => some (toLe 4 h.voltage)
  | 0x06 => some (toLe 4 (unsgn 32 h.temp))
  | 0x07 => some (h.caps.flatMap (toLe 4))
  | 0x08 => some (h.volts.flatMap (toLe 2))
  | 0x09 => some (h.map.flatMap (toLe 1))
  | 0x0F => some (toLe 32 h.lastTest)
  | 0x11 => some (toLe 8 h.testsRun)
  | 0x12 => some (toLe 8 h.flushes)
  | _ => none

/-! ## Security and start (17) -/

/-- A firmware slot record (17 Table 17-8). -/
def Slot.record (s : Slot) (n : Nat) : Bytes :=
  toLe 32 (put n 8 0 + put s.state 8 8 + put s.attempts 8 64 + put (leAt s.image 16 4) 32 96 + put (leAt s.image 12 4) 32 128
    + put (leAt s.image 24 8) 64 192)

/-- OWNER_KEY_ID, 0 while no key is installed (16 Table 16-6). -/
def Module.ownerKeyId (m : Module) : Nat := if m.boot.ownerKey.isEmpty then 0 else leNat (keyId m.boot.ownerKey)

/-- SECURITY_STATE (17 Table 17-9). -/
def Module.securityState (m : Module) : Nat :=
  b2n (!m.boot.ownerKey.isEmpty) + put (b2n m.boot.debug) 1 1 + put (b2n (m.boot.slots.any (fun s => s.state == 3))) 1 2
    + put (b2n (decide (m.boot.minSvn < m.boot.svn))) 1 3

/-- Read-only objects of 0x5000, for the requesting client. -/
def Module.ro5000 (m : Module) (c : Client) (sub : Nat) : Option Bytes :=
  match sub with
  | 0x01 => some (toLe 1 m.securityState)
  | 0x02 => some m.boot.ownerKey
  | 0x03 => some (toLe 8 m.ownerKeyId)
  | 0x06 => some (keyId m.boot.dikPublic)
  | 0x07 => some m.boot.cert
  | 0x09 => some c.attest
  | 0x0A => some (fit m.boot.measurement 64)
  | 0x0B => some ((List.range 2).flatMap (fun i => (m.boot.slots.getD i {}).record i))
  | 0x0D => some (toLe 1 m.boot.updateState)
  | 0x0F => some (toLe 1 m.boot.minSvn)
  | 0x11 => some (m.boot.revoked.flatMap (toLe 1))
  | _ => none

/-- Read-only objects of 0x5100. -/
def Module.ro5100 (m : Module) (sub : Nat) : Option Bytes :=
  match sub with
  | 0x01 => some (toLe 1 m.boot.startState)
  | 0x02 => some (toLe 1 m.boot.cause)
  | 0x03 => some (toLe 8 m.boot.bootCount)
  | 0x04 => some (toLe 8 m.boot.startSfc)
  | 0x09 => some (toLe 1 m.boot.persistStatus)
  | 0x0A => some (toLe 4 m.boot.lastStartMs)
  | 0x0B => some (toLe 8 m.clock.fwStart)
  | 0x0C => some (toLe 4 m.boot.startupLot)
  | 0x0D => some (toLe 1 m.boot.startupResult)
  | 0x0E => some (toLe 1 m.boot.restored)
  | 0x0F => some (toLe 1 m.boot.notRestored)
  | _ => none

/-! ## Health and events (18) -/

/-- Idle, usable spare places of a set of places. -/
def Module.idlePlaces (m : Module) (ok : Nat → Bool) : Nat :=
  ((List.range 544).filter (fun p => spareCol p && ok p && (m.logicalAt p).isNone && !m.health.failed.contains p)).length

/-- Least free spare rows of any tile in service. -/
def Module.rowsMin (m : Module) : Nat := 96 - listMax (m.mem.spareRows.map (·.2))

/-- Least free spare pages of any package. -/
def Module.pagesMin (m : Module) : Nat := m.packagePages - listMax (m.mem.sparePages.map (·.2))

/-- Hold-up cells that are idle spares. -/
def Module.cellsIdle (m : Module) : Nat := (m.holdup.map.filter (· == 1)).length

/-- The spare summary (18 Table 18-6). -/
def Module.spareSummary (m : Module) : Nat :=
  put (m.idlePlaces (fun p => decide (p < 272))) 8 72
    + put (m.idlePlaces (fun p => decide (272 ≤ p) && placeRow p != 0)) 8 80
    + put (m.idlePlaces (fun p => decide (272 ≤ p) && placeRow p == 0)) 8 88
    + put m.cellsIdle 8 96 + put (4 - m.cascade.spareLanes.length) 8 104
    + put ((List.range 512).filter (fun t => !m.health.badColumns.contains (m.placeOf t))).length 16 112
    + put m.rowsMin 8 136 + put m.cistern.permille 16 144 + put m.pagesMin 32 160

/-- The conditions of SPARES_LOW (18 R517). -/
def Module.sparesLow (m : Module) : Bool :=
  let s := m.spareSummary
  decide (fld s 79 72 ≤ 2) || decide (fld s 87 80 ≤ 2) || fld s 95 88 == 0 || decide (fld s 143 136 < 8)
    || decide (fld s 191 160 < 4096) || decide (fld s 159 144 < 20) || fld s 103 96 == 0

/-- HEALTH_STATE (18 R511, R517). -/
def Module.healthState (m : Module) : Nat := if m.health.unsparable then 2 else if m.sparesLow then 1 else 0

/-- The tile health record (18 Table 18-7). -/
def Module.tileHealthRecord (m : Module) (t : Nat) : Bytes :=
  let h := m.tileHealth t
  toLe 32 (put (b2n h.columnSpared) 1 99 + put h.state 4 100 + put (96 - mGetD m.mem.spareRows t 0) 8 104
    + put (placeCode (m.placeOf t)) 16 112 + put h.bistFails 16 128
    + put (h.faults.filter (fun f => decide (m.clock.sfc < f + 1000))).length 16 144
    + put h.corrected 32 160 + put h.lastPass 64 192)

/-- SEQ of the latest record of a source (18 R514). -/
def Module.lastSeq (m : Module) (source : Nat) : Nat := (mGetD m.health.nextSeq source 0 + 2 ^ 32 - 1) % 2 ^ 32

/-- Read-only objects of 0x6000, for the requesting client. -/
def Module.ro6000 (m : Module) (c : Client) (sub : Nat) : Option Bytes :=
  match sub with
  | 0x01 => some (toLe 1 m.healthState)
  | 0x02 => some (toLe 4 m.health.epoch)
  | 0x03 => some (toLe 32 m.spareSummary)
  | 0x04 => some ((List.range 512).flatMap m.tileHealthRecord)
  | 0x05 => some (toLe 2 (m.schedule.filter (fun a => a.kind == 4)).length)
  | 0x15 => some (toLe 1 (m.boot.faultStarts.filter (fun f => decide (m.clock.now < f + 3600000000000))).length)
  | 0x17 => some c.events
  | 0x18 => some ((List.range 17).flatMap (fun i => toLe 4 (m.lastSeq (i + 1))))
  | 0x19 => some ((List.range 17).flatMap (fun i => toLe 4 (mGetD m.health.overwritten (i + 1) 0)))
  | 0x1A => some (toLe 2 m.cistern.permille)
  | _ => none

/-- Read-only objects of 0x6100. -/
def Module.ro6100 (m : Module) (sub : Nat) : Option Bytes :=
  match sub with
  | 0x06 => some (toLe 1 (b2n m.health.armed))
  | 0x07 => some (toLe 8 m.health.armSfc)
  | _ => none

/-! ## Power (19) -/

/-- Read-only objects of 0x7000. -/
def Module.ro7000 (m : Module) (sub : Nat) : Option Bytes :=
  let p := m.power
  match sub with
  | 0x02 => some (toLe 2 p.capLimit)
  | 0x03 => some (toLe 2 (min p.cap p.capLimit))
  | 0x04 => some (toLe 1 p.emergency)
  | 0x05 => some (toLe 1 p.cause)
  | 0x07 => some (toLe 4 p.p54)
  | 0x08 => some (toLe 4 p.amps)
  | 0x09 => some (toLe 2 p.watts)
  | 0x0A => some (toLe 2 p.sb)
  | 0x0B => some (p.temps.flatMap (fun t => toLe 2 (unsgn 16 t)))
  | 0x0C => some (toLe 1 (b2n p.therm))
  | 0x0F => some (toLe 2 p.peak)
  | _ => none

/-! ## Identity, clients and the Pattern Book (16) -/

/-- PART_NUMBER (16 Table 16-11). -/
def Module.partNumber (m : Module) : Bytes := fit (ascii (if m.boot.variant = 0 then "FN2-2048-L" else "FN2-1024-L")) 16

/-- An entry of the catalogue (16 Table 16-13). -/
def Obj.entry (o : Obj) : Bytes :=
  toLe 32 (put (b2n o.selected) 1 6 + put (b2n o.selector) 1 7 + put o.effect 3 8 + put o.level 2 11 + put o.access 3 13
    + put o.count 16 16 + put o.elemCode 4 32 + put o.typ 4 36 + put o.sub 8 40 + put o.index 16 48
    + put (if o.typ = 11 then 0 else if o.bytes ≤ 8 then o.dflt else 0) 64 64 + put o.min 64 128 + put o.max 64 192) ++ fit (ascii o.name) 32

/-- The values of LIMITS, from LIMIT_ID 1 (16 Table 16-12). -/
def bookLimits : List Nat :=
  [1048576, 262144, 16777216, 2 ^ 35, 4096, 256, 4096, 64, 256, 31250, 1000000000, 2, 8, 1024, 4096, 1024, 32, 4096, 64, 64,
   64, 64, 64, 2097152, 8192]

/-- A PORTS element: kind, number, die, lanes, rate and MAC (16 Table 16-10). -/
def portElem (kind num die lanes rate mac : Nat) : Bytes :=
  toLe 10 (put kind 8 0 + put num 8 8 + put die 8 16 + put lanes 8 24 + put rate 32 32) ++ toBe 6 mac

/-- The records of the Pattern Book: type, element size and contents (16 Table 16-10). -/
def Module.bookRecords (m : Module) : List (Nat × Nat × Bytes) :=
  let b := m.boot
  let user := m.userRegion
  let tile (p : Nat) : Bytes := toLe 4 (if m.health.failed.contains p then put 2 2 30 else match m.logicalAt p with
    | some t => put t 9 21
    | none => put 1 2 30)
  let region (base size kind flags : Nat) : Bytes := toLe 32 (put base 64 0 + put size 64 64 + put kind 16 128 + put flags 16 144)
  [(1, 64, toLe 48 (put b.variant 8 40 + put b.boardRev 16 48 + put 1600 16 64 + put 1400 16 80 + put 1200 16 96 + put 1000 16 112
      + put b.serial 64 128 + put (if b.variant = 0 then 2199023255552 else 1099511627776) 64 192 + put m.lpddrUsable 64 256
      + put cisternUser 64 320) ++ m.partNumber),
   (2, 4, (List.range 544).flatMap tile),
   (3, 32, region 0 m.lpddrUsable 1 0 ++ region 0 user 2 3 ++ region user (m.lpddrUsable - user) 3 0
      ++ region 0x040000000000 4294967296 4 2 ++ region 0x050000000000 16777216 5 1),
   (4, 16, (List.range 4).flatMap (fun h => portElem 0 h (h / 2) 1 200000 (b.macs.getD h 0)) ++ portElem 1 0 0 1 1000 (b.macs.getD 4 0)
      ++ (List.range 12).flatMap (fun c => portElem 2 c (c / 6) 4 800000 0) ++ (List.range 4).flatMap (fun s => portElem 3 s (s / 2) 1 200000 0)),
   (5, 16, (List.range 25).flatMap (fun i => toLe 16 (put (i + 1) 16 0 + put (bookLimits.getD i 0) 64 64))),
   (6, 48, (List.range 5).flatMap (fun i => toLe 16 (put (i + 1) 16 0 + put b.version 32 96) ++ fit (b.comps.getD i []) 32)),
   (7, 64, catalogue.flatMap Obj.entry)]

/-- The directory and the records of a book, from byte 64 on: entries, records at multiples of 64 (16 R473). -/
def bookBody (recs : List (Nat × Nat × Bytes)) : Bytes :=
  let first := roundUp (64 + 16 * recs.length) 64
  let r := recs.foldl (fun (a : Bytes × Bytes × Nat) x =>
    let e := toLe 16 (put x.1 16 0 + put x.2.1 16 16 + put (x.2.2.length / x.2.1) 32 32 + put a.2.2 32 64 + put x.2.2.length 32 96)
    (a.1 ++ e, a.2.1 ++ padTo x.2.2 64, a.2.2 + roundUp x.2.2.length 64)) ([], [], first)
  let used := 64 + 16 * recs.length
  let all := r.1 ++ zeros (first - used) ++ r.2.1
  all.take (all.length - (match recs.getLast? with
    | some x => roundUp x.2.2.length 64 - x.2.2.length
    | none => 0))

/-- The Pattern Book (16 R473). -/
def Module.patternBook (m : Module) : Bytes :=
  let recs := m.bookRecords
  let body := bookBody recs
  toLe 64 (0x4B4F4F4250424E46 + put 1 16 64 + put recs.length 16 112 + put (64 + body.length) 64 128 + put m.vilur.bookGen 64 192
    + put m.vilur.bookSfc 64 256 + put (leNat (shake256 body 16)) 128 320) ++ body

/-- Length of the Pattern Book, without its digest. -/
def Module.patternBookBytes (m : Module) : Nat := 64 + (bookBody m.bookRecords).length

/-- Does an OPERATE_ALLOW entry name a port and an address (16 R452)? -/
def allowEntry (e : Bytes) (port addr : Nat) : Bool :=
  let len := leAt e 16 1
  beNat (e.take 16) >>> (128 - len) == addr >>> (128 - len) && (leAt e 17 1).testBit port

/-- The base level of a requester: 0 Observe, 1 Operate (16 R452). -/
def Module.baseLevel (m : Module) (port addr : Nat) : Nat :=
  b2n ((port == 4 && m.cfgB 0x1010 0x06) || (chunks 20 (m.cfgBytes 0x1010 0x07 0)).any (fun e => allowEntry e port addr))

/-- The level of a client: 2 Maintain while its unlock holds (16 R452). -/
def Module.levelOf (m : Module) (c : Client) : Nat := if c.unlockEnd.isSome then 2 else m.baseLevel c.port c.addr

/-- A record of CLIENTS (16 Table 16-15). -/
def Module.clientRecord (m : Module) (c : Client) : Bytes :=
  toBe 16 c.addr ++ toLe 2 c.udp ++ toLe 1 c.port ++ toLe 1 (m.levelOf c) ++ toLe 1 c.subs.length ++ zeros 3 ++ toLe 8 c.lastSfc

/-- Read-only objects of 0x1000. -/
def Module.ro1000 (m : Module) (sub : Nat) : Option Bytes :=
  match sub with
  | 0x01 => some (fit (ascii "Ulkecor") 16)
  | 0x02 => some (fit (ascii "Floinarn FN2") 16)
  | 0x03 => some m.partNumber
  | 0x04 => some (toLe 1 m.boot.variant)
  | 0x05 => some (toLe 8 m.boot.serial)
  | 0x06 => some (toLe 2 m.boot.boardRev)
  | 0x07 => some (toLe 4 m.boot.version)
  | 0x08 => some m.patternBook
  | 0x09 => some (toLe 4 m.patternBookBytes)
  | 0x0A => some (toLe 8 m.vilur.bookGen)
  | 0x0B => some (toLe 8 (m.clock.now - m.clock.fwStart))
  | _ => none

/-- Read-only objects of 0x1010, for the requesting client. -/
def Module.ro1010 (m : Module) (c : Client) (sub : Nat) : Option Bytes :=
  match sub with
  | 0x05 => some (toLe 1 (m.levelOf c))
  | 0x0A => some (m.vilur.clients.flatMap m.clientRecord)
  | _ => none

/-- Read-only objects whose value is a record or a state, for the requesting client (16 R462). -/
def Module.roSpecial (m : Module) (c : Client) (index sub inst : Nat) : Option Bytes :=
  match index with
  | 0x1000 => m.ro1000 sub
  | 0x1010 => m.ro1010 c sub
  | 0x1100 => m.ro1100 sub
  | 0x1200 => m.ro1200 sub inst
  | 0x2000 => m.ro2000 sub
  | 0x2200 => m.ro2200 sub
  | 0x3100 => m.ro3100 sub inst
  | 0x3200 => m.ro3200 sub inst
  | 0x3300 => m.ro3300 sub inst
  | 0x4000 => m.ro4000 sub
  | 0x4100 => m.ro4100 sub inst
  | 0x4200 => m.ro4200 sub inst
  | 0x4300 => m.ro4300 sub
  | 0x4400 => m.ro4400 sub
  | 0x5000 => m.ro5000 c sub
  | 0x5100 => m.ro5100 sub
  | 0x6000 => m.ro6000 c sub
  | 0x6100 => m.ro6100 sub
  | 0x7000 => m.ro7000 sub
  | _ => none

/-- The objects that count: every other read-only object of these types is a counter or a constant (16 R462). -/
def Module.roCounter (m : Module) (o : Obj) : Bytes :=
  if o.typ = 10 then (List.range o.count).flatMap (fun i => toLe (o.bytes / o.count) (o.dflt + m.ctrI o.index o.sub i))
  else toLe o.bytes (o.dflt + m.ctr o.index o.sub)

/-- The selector that governs an object, by key (16 R451). -/
def selectorOf (index sub : Nat) : Nat × Nat :=
  if index = 0x1200 ∨ (index = 0x4100 ∧ sub = 0x1D) then (0x1200, 0x10)
  else if index = 0x3100 then (0x3100, 0x04)
  else if index = 0x3200 then (0x3200, 0x01)
  else if index = 0x3300 then (0x3300, 0x02)
  else if index = 0x4100 ∧ sub = 0x1C then (0x4100, 0x1B)
  else if index = 0x4100 then (0x4100, 0x01)
  else if index = 0x4200 ∧ sub = 0x11 then (0x4200, 0x10)
  else (0x4200, 0x07)

/-- A client's value of a selector (16 R451). -/
def Client.selected (c : Client) (s : Nat × Nat) : Nat := mGetD c.selectors (odKey s.1 s.2 0) 0

/-- The instance of an object that a client addresses. -/
def Client.inst (c : Client) (o : Obj) : Nat := if o.selected then c.selected (selectorOf o.index o.sub) else 0

/-- The value in force of a writable object (16 R462): selectors per client, the frame shape in the clock, windows and
DEBUG_ENABLE and POWER_CAP in their own state, the rest in the dictionary. -/
def Module.rwValue (m : Module) (c : Client) (o : Obj) : Bytes :=
  if o.selector then toLe o.bytes (c.selected (o.index, o.sub))
  else if o.index = 0x1100 ∧ o.sub = 0x01 then toLe 4 m.clock.period
  else if o.index = 0x1100 ∧ o.sub = 0x02 then toLe 1 m.clock.depth
  else if o.index = 0x1100 ∧ o.sub = 0x03 then toLe 8 m.clock.epoch
  else if o.index = 0x1100 ∧ o.sub = 0x05 then toLe 1 m.clock.profile
  else if o.index = 0x4100 ∧ o.sub = 0x1C then m.windowRecord (c.inst o)
  else if o.index = 0x5000 ∧ o.sub = 0x10 then toLe 1 (b2n m.boot.debug)
  else if o.index = 0x7000 ∧ o.sub = 0x01 then toLe 2 m.power.cap
  else m.cfgBytes o.index o.sub (c.inst o)

/-- The value in force of a readable object (16 R462). -/
def Module.odValue (m : Module) (c : Client) (o : Obj) : Bytes :=
  if o.access ≠ 0 then m.rwValue c o
  else if o.sub = 0 then toLe 1 o.dflt
  else match m.roSpecial c o.index o.sub (c.inst o) with
    | some v => v
    | none => m.roCounter o

end Sys2Proof.Machine
end

