-- ==== Sys2Proof/Machine/VilurOps.lean ====
section
/-! DEFINITION. The Vilur protocol (16 R452 to R471): clients, replies, the checks of a write, pending values and the
placing of scheduled values. -/

namespace Sys2Proof.Machine

/-! ## Clients and replies -/

/-- A client is identified by its port of arrival, source address and source UDP port (16 R456). -/
def Client.is (c : Client) (port addr udp : Nat) : Bool := c.port == port && c.addr == addr && c.udp == udp

/-- The client of a request. -/
def Module.client (m : Module) (r : VReq) : Option Client := m.vilur.clients.find? (fun c => c.is r.port r.addr r.udp)

/-- Change the client of a request. -/
def Module.onClient (m : Module) (r : VReq) (f : Client → Client) : Module :=
  { m with vilur := { m.vilur with clients := m.vilur.clients.map (fun c => if c.is r.port r.addr r.udp then f c else c) } }

/-- A UDP datagram of the Vilur protocol leaves a port (13 R384, R386). -/
def Module.sendUdp (m : Module) (port addr udp : Nat) (bs : Bytes) : Module :=
  let ip := if addr / 2 ^ 32 = 0xFFFF then 20 else 40
  let m := if port < 4 then
      (m.portCount port 2 1).portCount port 0 (14 + (if m.cfgI 0x4100 0x0C port = 0 then 0 else 4) + ip + 8 + bs.length + 4)
    else m
  m.emit port none false (.datagram port addr udp bs) (ip + 8)

/-- The bytes of a reply (16 Table 16-3). -/
def replyBytes (r : VReq) (st target detail : Nat) (data : Bytes) : Bytes :=
  toLe 32 (put r.opcode 8 0 + put 1 1 8 + put 1 8 16 + put r.seq 32 32 + put r.index 16 64 + put r.sub 8 80 + put st 8 88
    + put detail 32 96 + put target 64 128 + put data.length 16 224 + put 0x4C56 16 240) ++ data

/-- Reply without keeping: BUSY and CLIENTS_FULL, which execute nothing (16 R456, R457). -/
def Module.replyLoose (m : Module) (r : VReq) (st : Nat) : Module :=
  (m.count 0x1010 0x0C 1).sendUdp r.port r.addr r.udp (replyBytes r st 0 0 [])

/-- Keep a reply under its SEQ, the newest 16 (16 R458). -/
def keepReply (kept : List (Nat × Bytes)) (seq : Nat) (bs : Bytes) : List (Nat × Bytes) :=
  ((seq, bs) :: kept.filter (fun p => p.1 != seq)).take 16

/-- Reply to a request and keep the reply; a refusal counts (16 R458, R465). -/
def Module.reply (m : Module) (r : VReq) (st target detail : Nat) (data : Bytes) : Module :=
  let bs := replyBytes r st target detail data
  let m := if st = 0 then m else m.count 0x1010 0x0C 1
  (m.onClient r (fun c => { c with kept := keepReply c.kept r.seq bs })).sendUdp r.port r.addr r.udp bs

/-- Refuse a request with a status (16 R450, R465). -/
def Module.refuse (m : Module) (r : VReq) (st : Nat) : Module := m.reply r st 0 0 []

/-- Acknowledge a write: ACK_NS, and the first frame that the value governs (16 R457, R464). -/
def Module.ack (m : Module) (r : VReq) (target : Nat) : Module := m.reply r 0 target 0 (toLe 8 m.clock.now)

/-- A write of the master waits for its SCHED cells: the supervisor executes nothing else (16 R457, 14 R417). -/
def Module.placing (m : Module) : Bool := m.cascade.placements.any (fun p => p.reply.isSome)

/-- A WRITE or WRITE_STAGED. -/
def VReq.isWrite (r : VReq) : Bool := r.opcode == 3 || r.opcode == 5

/-- The value that a write carries (16 R459). -/
def VReq.value (r : VReq) (c : Client) : Bytes := if r.opcode = 5 then fit c.staging r.arg else r.data

/-- The supervisor executes the request at the front of its queue, when it is one that ok accepts with the value it
carries: a request whose SEQ has a kept reply gets that reply again, and a request whose client has been deleted goes
unanswered (16 R456 to R458). -/
def Module.serve (m : Module) (t : Nat) (ok : VReq → Bytes → Bool) (run : Module → VReq → Client → Module) : Module :=
  let m := m.at t
  match m.vilur.queue with
  | [] => m
  | r :: rest =>
    let m' := { m with vilur := { m.vilur with queue := rest } }
    match m.client r with
    | none => m'
    | some c =>
      if m.placing || !ok r (r.value c) then m
      else match mGet c.kept r.seq with
        | some bs => m'.sendUdp r.port r.addr r.udp bs
        | none => run (m'.count 0x1010 0x0B 1) r c

/-! ## The checks of a write (16 R450) -/

/-- A write of one object. -/
def VReq.writes (r : VReq) (index sub : Nat) : Bool := r.isWrite && r.index == index && r.sub == sub

/-- A descriptor of TOWERS is in range (04 Table 04-6). -/
def towerRangeOk (d : Bytes) : Bool :=
  let v := leNat d
  fld v 31 1 == 0 && fld v 95 80 == 0 && fld v 255 224 == 0 && decide (fld v 111 104 ≤ 1)
    && (!v.testBit 0 || (decide (1 ≤ towerFrames d ∧ towerFrames d ≤ 6) && decide (1 ≤ fld v 127 112 ∧ fld v 127 112 ≤ 4096)))

/-- An injector record of a host port is in range (13 Table 13-5, 18 R516). -/
def hostInjectorOk (i : Nat) (b : Bytes) : Bool :=
  let v := leNat b
  allZero b || (fld v 1 0 == i / 4 && fld v 6 2 == 0 && fld v 71 14 == 0 && decide (fld v 10 8 ≤ 4) && decide (fld v 13 12 ≤ 2)
    && (fld v 10 8 != 4 || fld v 79 72 != 0))

/-- An injector record of a cascade port is in range (14 Table 14-9, 18 R516). -/
def cascadeInjectorOk (i : Nat) (b : Bytes) : Bool :=
  let v := leNat b
  allZero b || (fld v 3 0 == i / 4 && fld v 6 4 == 0 && fld v 87 14 == 0 && fld v 119 108 == 0 && decide (fld v 10 8 ≤ 4)
    && (fld v 10 8 != 4 || fld v 95 88 != 0))

/-- A shard map is in range (14 R403, Tables 14-4 and 14-5). -/
def shardMapOk (device : Nat) (b : Bytes) : Bool :=
  let n := mapShards b
  let entries := (List.range n).map (mapEntry b)
  let reserved := fld (leAt b 0 64) 239 1 == 0 && fld (leAt b 0 64) 511 264 == 0 && decide (leAt b 32 1 ≤ 1)
  if n = 0 then reserved && !mapValid b && leAt b 64 4 == 0
  else reserved && decide (n ≤ 256)
    && entries.all (fun e => fld e 3 0 == 0 && fld e 7 6 != 3 && fld e 5 4 != 3
        && decide ((dedup (entryDevs e)).length = (entryDevs e).length))
    && (!mapValid b || entries.any (fun e => (entryDevs e).contains device))

/-- Lengths that a DOMAIN allows (16 R450 step 3). -/
def Obj.lengthOk (o : Obj) (v : Bytes) : Bool :=
  let n := v.length
  if o.typ = 11 then
    decide (o.min ≤ n ∧ n ≤ o.max)
      && (if o.index = 0x1010 then n % 20 == 0
          else if o.index = 0x2200 ∧ o.sub = 0x01 then n == 0 || n == 128
          else if o.index = 0x4200 then n == 64 + 4 * Nat.max 1 (mapShards v)
          else true)
  else if o.typ = 9 then decide (1 ≤ n ∧ n ≤ o.bytes)
  else n == o.bytes

/-- A number lies in an object's range (16 R450 step 4). -/
def Obj.numberOk (o : Obj) (n : Nat) : Bool :=
  if o.typ = 6 then decide (sgn 32 o.min ≤ sgn 32 n ∧ sgn 32 n ≤ sgn 32 o.max)
  else if o.typ = 8 then fp32.isFin n
  else if o.index = 0x7000 ∧ o.sub = 0x01 then [500, 650, 800, 950].contains n
  else if o.index = 0x2100 ∧ o.sub = 0x08 then n == 255 || decide (1 ≤ n ∧ n ≤ 15)
  else if o.index = 0x3200 ∧ o.sub = 0x0D then [1, 2, 4, 8, 16].contains n
  else decide (o.min ≤ n ∧ n ≤ o.max) && n % Nat.max 1 o.mult == 0

/-- A DOMAIN or ARRAY value is in range (16 R450 step 4); the objects whose chapters name another error pass here. -/
def Module.domainOk (m : Module) (o : Obj) (v : Bytes) : Bool :=
  let w := leNat v
  match o.index * 256 + o.sub with
  | 0x101007 => (chunks 20 v).all (fun e => decide (leAt e 16 1 ≤ 128) && decide (leAt e 17 1 < 32) && leAt e 18 2 == 0)
  | 0x210009 => v.isEmpty || !filterMalformed v v.length
  | 0x210010 => (chunks 32 v).all towerRangeOk
  | 0x22000C => bdOk w (bdDim w)
  | 0x32000E => fld w 255 192 == 0
  | 0x41001C => fld w 63 8 == 0 && !w.testBit 3
  | 0x42000C => (List.range 4).all (fun s => let p := leAt v s 1
      p == 0xFF || (decide (p < 12) && p / 6 == s / 2))
  | 0x420011 => shardMapOk m.device v
  | 0x420012 => v.all (fun b => b == 0xFF || decide (b.toNat ≤ 15))
  | 0x600006 => fld w 63 9 == 0
  | 0x600016 => decide (1 ≤ fld w 31 16 ∧ fld w 31 16 ≤ 512) && decide (1 ≤ fld w 15 0 ∧ fld w 15 0 ≤ 17)
  | 0x610002 => ((List.range 16).zip (chunks 32 v)).all (fun p => hostInjectorOk p.1 p.2)
  | 0x610003 => ((List.range 48).zip (chunks 32 v)).all (fun p => cascadeInjectorOk p.1 p.2)
  | _ => true

/-- The value is in range (16 R450 step 4). -/
def Module.rangeOk (m : Module) (o : Obj) (v : Bytes) : Bool :=
  if 9 ≤ o.typ then m.domainOk o v else o.numberOk (leNat v)

/-- Steps 1 to 4 of the checks of a write, and the existence of its object: a status, or the object (16 R447, R450). -/
def Module.writeCheck (m : Module) (r : VReq) (c : Client) (v : Bytes) : Nat × Obj :=
  match findObj r.index r.sub with
  | none => (if objIndices.contains r.index then 4 else 3, obj0 0)
  | some o =>
    (if o.access = 0 then 5
     else if m.levelOf c < o.level then 6
     else if !o.lengthOk v then 7
     else if !m.rangeOk o v then 8
     else 0, o)

/-- A write whose steps 1 to 4 pass runs; otherwise it is refused. -/
def Module.checked (m : Module) (r : VReq) (c : Client) (run : Module → Obj → Bytes → Module) : Module :=
  let v := r.value c
  let x := m.writeCheck r c v
  if x.1 ≠ 0 then m.refuse r x.1 else run m x.2 v

/-- A write without a target frame in its header: Immediate entries and those whose value carries the frame (16 R460,
R464). -/
def Module.untargeted (m : Module) (r : VReq) (run : Module → Module) : Module :=
  if r.target ≠ 0 then m.refuse r 9 else run m

/-- Step 5 for an at-tick entry: the frame, which run gets, or FRAME_MISSED with the earliest permitted frame
(00 R12, R13, 16 R464). -/
def Module.atTick (m : Module) (r : VReq) (run : Module → Nat → Module) : Module :=
  let f := m.clock.firstFrame
  if r.target = 0 then run m f
  else if r.target < f then m.reply r 10 f 0 []
  else run m r.target

/-- A frame with the lead of R42, given or 0 for the earliest: run gets it, or FRAME_TOO_NEAR (02 R42, 16 R460). -/
def Module.withLead (m : Module) (r : VReq) (n : Nat) (run : Module → Nat → Module) : Module :=
  let n' := if n = 0 then m.leadFrame else n
  if m.leadOk n' (m.depthAt n') then run m n' else m.reply r 11 m.leadFrame 0 []

/-- Place a host-placed action and acknowledge with its frame, or refuse SCHEDULE_FULL (02 R40). -/
def Module.placeAck (m : Module) (r : VReq) (a : Action) : Module :=
  if m.hostFull then m.refuse r 12 else (m.place { a with host := true }).ack r a.target

/-- The value of a write as persisted: an STR padded to its size (16 R448). -/
def Obj.stored (o : Obj) (v : Bytes) : Bytes := if o.typ = 9 then fit v o.bytes else v

/-- Make an RWS value durable before the reply (15 R423, 16 R449). -/
def Module.durable (m : Module) (o : Obj) (inst : Nat) (v : Bytes) : Module :=
  if o.access = 2 then m.persist o.index o.sub inst (o.stored v) else m

/-- Schedule a plain value for a frame (02 R40, 16 R464). -/
def Module.placeValue (m : Module) (r : VReq) (o : Obj) (inst n : Nat) (v : Bytes) : Module :=
  if m.hostFull then m.refuse r 12
  else (((m.durable o inst v).place { kind := 0, key := odKey o.index o.sub inst, value := o.stored v, target := n, host := true })).ack r n

/-- Put a value in force at once (00 R11). -/
def Module.setNow (m : Module) (o : Obj) (inst : Nat) (v : Bytes) : Module :=
  (m.durable o inst v).setCfg o.index o.sub inst (o.stored v)

/-! ## Pending values (16 R463) -/

/-- An action of the schedule that holds a value of an object's instance: the value. -/
def Action.valueOf (a : Action) (key : Nat) : Option Bytes := if a.kind ≤ 3 ∧ a.key = key then some a.value else none

/-- The values of an object that await their effect points, in ascending frame; a value for the next start last. -/
def Module.pendingOf (m : Module) (c : Client) (o : Obj) : List (Nat × Bytes) :=
  let key := odKey o.index o.sub (c.inst o)
  let l := m.schedule.filterMap (fun a => (a.valueOf key).map (fun v => (a.target, v)))
  let next := if o.effect = 6 ∧ o.access = 2 then match mGet m.od.persist key with
      | some v => if v = m.cfgBytes o.index o.sub 0 then [] else [(0, v)]
      | none => []
    else []
  l ++ next

/-- The pending list's bytes (16 R463). -/
def pendingBytes (l : List (Nat × Bytes)) : Bytes := l.flatMap (fun p => toLe 8 p.1 ++ toLe 4 p.2.length ++ zeros 4 ++ padTo p.2 8)

/-! ## The frames of the four query defaults (04 R131) -/

/-- DEFAULT_RERANK is at least DEFAULT_K, and DEFAULT_WIDEN 0 or at least DEFAULT_PROBE, in a frame. -/
def Module.defaultsOk (m : Module) (n : Nat) : Bool :=
  decide (m.cfgAt 0x2100 0x01 n ≤ m.cfgAt 0x2100 0x03 n)
    && (m.cfgAt 0x2100 0x04 n == 0 || decide (m.cfgAt 0x2100 0x02 n ≤ m.cfgAt 0x2100 0x04 n))

/-- A write of one of the four defaults for frame n keeps every frame from n on in range (04 R131). -/
def Module.defaultFits (m : Module) (o : Obj) (n : Nat) (v : Bytes) : Bool :=
  let m' := m.place { kind := 0, key := odKey o.index o.sub 0, value := v, target := n, host := true }
  (m'.schedule.filter (fun a => a.kind == 0 && decide (n ≤ a.target) && [1, 2, 3, 4].any (fun s => a.key == odKey 0x2100 s 0))).all
    (fun a => m'.defaultsOk a.target)

end Sys2Proof.Machine
end

