-- ==== Sys2Proof/Machine/Sched.lean ====
section
/-! DEFINITION. Scheduling: the tick grid that the schedule gives (02 R30, R44), the grants of a frame that the schedule
shapes (08 R251, R252), and placements of the master in other modules' schedules (14 R417, 02 R43). -/

namespace Sys2Proof.Machine

/-! ## The grid (02 R30, R44) -/

/-- The tick grid: base triple and epoch. -/
structure Grid where
  sfc : Nat
  ns : Nat
  period : Nat
  epoch : Nat
  deriving DecidableEq, Repr

/-- Module time of tick n. -/
def Grid.time (g : Grid) (n : Nat) : Nat := g.ns + (n - g.sfc) * g.period

/-- A new period and epoch at tick n re-base the grid: tick n + 1 falls at the first grid instant at or after
t(n) + P' (02 R44). -/
def Grid.rebase (g : Grid) (n period epoch : Nat) : Grid :=
  let t := g.time n + period
  { sfc := n + 1, ns := epoch + ceilDiv (t - epoch) period * period, period := period, epoch := epoch }

/-- The grid after tick n gives it a period and an epoch: re-based where one of them changes (02 R44). -/
def Grid.reshape (g : Grid) (n : Nat) (x : Nat × Nat) : Grid := if x = (g.period, g.epoch) then g else g.rebase n x.1 x.2

/-- The grid in force. -/
def Clock.grid (c : Clock) : Grid := ⟨c.baseSfc, c.baseNs, c.period, c.epoch⟩

/-- Period and epoch after the frame-shape actions of one tick. -/
def shapeOf (acts : List Action) (g : Grid) : Nat × Nat :=
  acts.foldl (fun (x : Nat × Nat) a =>
    if a.kind = 2 ∧ a.key = odKey 0x1100 0x01 0 then (leNat a.value, x.2)
    else if a.kind = 2 ∧ a.key = odKey 0x1100 0x03 0 then (x.1, leNat a.value)
    else if a.kind = 3 then (profilePeriod (leNat a.value), x.2)
    else x) (g.period, g.epoch)

/-- An action that sets a period or an epoch. -/
def Action.reshapes (a : Action) : Bool :=
  (a.kind == 2 && (a.key == odKey 0x1100 0x01 0 || a.key == odKey 0x1100 0x03 0)) || a.kind == 3

/-- Module time of tick n on the grid that the schedule gives. -/
def Module.timeOf (m : Module) (n : Nat) : Nat :=
  let acts := (m.actionsTo (n - 1)).filter Action.reshapes
  ((dedup (acts.map (·.target))).foldl (fun (g : Grid) k =>
    g.reshape k (shapeOf (acts.filter (fun a => a.target == k)) g)) m.clock.grid).time n

/-! ## Grants of the frames that the schedule shapes (08 R251, R252) -/

/-- Frames at which a budget or a grant changes, from the first frame that a write can govern. -/
def Module.shapedFrames (m : Module) : List Nat :=
  let f := m.clock.firstFrame
  let ends := m.streams.sets.flatMap (fun p => p.2.armSfc :: p.2.disarm.toList)
  dedup (f :: ((m.schedule.map (·.target)) ++ ends).filter (fun n => decide (f < n)))

/-- Tiles on which the fixed grants can be greatest: tile 0 and the first tile of each set. -/
def Module.grantTiles (m : Module) : List Nat := dedup (0 :: m.streams.sets.map (fun p => armFirst p.2.header))

/-- Clocks of the fixed grants on a tile in a frame (08 R251). -/
def Module.fixedClocks (m : Module) (n t : Nat) : Nat :=
  m.streams.sets.foldl (fun a p =>
    if !armTower p.2.header && p.2.holdsAt n && armHasTile p.2.header t then a + armGrantClocks p.2.header else a) 0

/-- LPDDR5X bytes of the fixed grants in a frame (08 R251). -/
def Module.fixedBytes (m : Module) (n : Nat) : Nat :=
  m.streams.sets.foldl (fun a p => if !armTower p.2.header && p.2.holdsAt n then a + armGrantBytes p.2.header else a) 0

/-- The fixed grants stay within USER_GRANT_MAX in every frame from n that the schedule shapes (08 R251). -/
def Module.userGrantsOk (m : Module) (n : Nat) : Bool :=
  let top := m.cfg 0x3100 0x0B
  (n :: m.shapedFrames.filter (fun f => decide (n < f))).all (fun f =>
    let b := budgetClocks (m.periodAt f) (m.stepAt f)
    m.grantTiles.all (fun t => decide (256 * m.fixedClocks f t ≤ top * b))
      && decide (256 * m.fixedBytes f ≤ top * lpddrBudget (m.periodAt f)))

/-- Steps 1 to 4 of the deductions stay within 224/256 in every frame from n that the schedule shapes; the self-tests
come round to every tile (08 R252). -/
def Module.grantsOk (m : Module) (n : Nat) : Bool :=
  (n :: m.shapedFrames.filter (fun f => decide (n < f))).all (fun f =>
    let b := budgetClocks (m.periodAt f) (m.stepAt f)
    let l := lpddrBudget (m.periodAt f)
    let bist := if m.cfgAt 0x6000 0x07 f = 0 then 0 else 2048
    let share := m.cfgAt 0x3200 0x08 f
    let red := if m.jobRunsAt f then m.cfgAt 0x3300 0x0A f else 0
    m.grantTiles.all (fun t => decide (256 * (bist + m.fixedClocks f t + share * b / 256 + red * b / 256) ≤ 224 * b))
      && decide (256 * (m.fixedBytes f + share * l / 256 + red * l / 256) ≤ 224 * l))

/-! ## What the master hands to the members (02 R59, 11 R311; addresses log 46) -/

/-- Local offset at which STREAM_ID 0 reads the schedule. -/
def serviceSched : Nat := 0x060000000000
/-- Local offset at which STREAM_ID 0 writes the configuration of job 0; the others follow at 8,192 bytes. -/
def serviceJob : Nat := 0x060000100000

/-- Copy a job's configuration to a member (11 R311). -/
def Module.sendConfig (m : Module) (dev j : Nat) (v : Bytes) : Module :=
  let ps := chunks 240 v
  (ps.zip (List.range ps.length)).foldl (fun (m : Module) p =>
    let tag := m.cascade.nextTag
    let m := (m.sendTo dev 8 tag (toLe 8 (put dev 9 55 + serviceJob + 8192 * j + 240 * p.2) ++ toLe 4 0 ++ toLe 2 p.1.length ++ zeros 2 ++ p.1)).1
    { m with cascade := { m.cascade with nextTag := (tag + 1) % 2 ^ 48 } }) m

/-! ## Placements of the master (14 R417) -/

/-- The other modules of the cascade: those that the link graph reaches. -/
def Module.mates (m : Module) : List Nat :=
  (m.cascade.known.map (·.1)).filter (fun d => d != m.device && m.cascade.reachable m.device d)

/-- A SCHED cell to a device: the action, and 0 place or 1 cancel (14 Table 14-3). -/
def Module.sendSched (m : Module) (dst tag : Nat) (a : Action) (cancel : Nat) : Module :=
  (m.sendTo dst 5 tag (a.record ++ toLe 1 cancel)).1

/-- The persisted values of an accepted action of KIND 0 to 3; a profile's are its own and those of its row
(02 R60, R61, 16 R449). -/
def Module.persistAction (m : Module) (a : Action) : Module :=
  let put (m : Module) (key : Nat) (v : Bytes) : Module := { m with od := { m.od with persist := mPut m.od.persist key v, record := 0 } }
  if a.kind = 3 then
    let p := leNat a.value
    let m := put m a.key a.value
    let m := put m (odKey 0x1100 0x01 0) (toLe 4 (profilePeriod p))
    let m := if p ≤ 1 then put m (odKey 0x1100 0x02 0) (toLe 1 3) else m
    ([(0x2000, 0x11, 1), (0x1200, 0x04, 1), (0x2100, 0x06, 1), (0x2200, 0x07, 2), (0x3000, 0x01, 1), (0x3300, 0x01, 1)] : List (Nat × Nat × Nat)).foldl
      (fun (m : Module) o => match profileValue p o.1 o.2.1 with
        | some v => put m (odKey o.1 o.2.1 0) (toLe o.2.2 v)
        | none => m) m
  else if a.kind ≤ 2 then put m a.key a.value
  else m

/-- What an accepted placement leaves behind, and its reply (14 R417, 16 R457). -/
def Module.placed (m : Module) (r : VReq) (a : Action) : Module := (m.persistAction a).ack r a.target

/-- Place an action here and in the schedules of other modules; the reply follows when every target has answered
(14 R417). -/
def Module.placeAt (m : Module) (r : VReq) (a : Action) (targets : List Nat) : Module :=
  if m.hostFull then m.refuse r 12
  else
    let a := { a with host := true, seq := m.nextSeq }
    let m := m.place a
    if targets.isEmpty then m.placed r a
    else
      let tag := m.cascade.nextTag
      let p : Placement := { tag := tag, action := a, targets := targets, sent := m.clock.now, reply := some r }
      targets.foldl (fun (m : Module) d => m.sendSched d tag a 0)
        { m with cascade := { m.cascade with nextTag := (tag + 1) % 2 ^ 48, placements := m.cascade.placements ++ [p] } }

/-- Place an action in the schedules of other modules alone (06 R172, 14 R417). -/
def Module.placeOnly (m : Module) (r : VReq) (a : Action) (devs : List Nat) : Module :=
  let a := { a with host := true, seq := m.nextSeq }
  let tag := m.cascade.nextTag
  let p : Placement := { tag := tag, action := a, targets := devs, sent := m.clock.now, reply := some r }
  devs.foldl (fun (m : Module) d => m.sendSched d tag a 0) { m with
    nextSeq := (m.nextSeq + 1) % 2 ^ 32
    cascade := { m.cascade with nextTag := (tag + 1) % 2 ^ 48, placements := m.cascade.placements ++ [p] } }

/-- The module places its own action in other schedules, with no write that waits (17 R486). -/
def Module.placeOwn (m : Module) (a : Action) (targets : List Nat) : Module :=
  let a := { a with seq := m.nextSeq }
  let m := m.place a
  if targets.isEmpty then m
  else
    let tag := m.cascade.nextTag
    let p : Placement := { tag := tag, action := a, targets := targets, sent := m.clock.now }
    targets.foldl (fun (m : Module) d => m.sendSched d tag a 0)
      { m with cascade := { m.cascade with nextTag := (tag + 1) % 2 ^ 48, placements := m.cascade.placements ++ [p] } }

/-- A placement ends. -/
def Module.dropPlacement (m : Module) (tag : Nat) : Module :=
  { m with cascade := { m.cascade with placements := m.cascade.placements.filter (fun p => p.tag != tag) } }

/-- A placement fails: it is cancelled on every target but those that refused it, and here, and its write is refused
CASCADE_UNREACHABLE (14 R417). -/
def Module.failPlacement (m : Module) (p : Placement) (refused : List Nat) : Module :=
  let m := (p.targets.filter (fun d => !refused.contains d)).foldl (fun (m : Module) d => m.sendSched d p.tag p.action 1) m
  let m := (m.unplace (fun a => a.seq == p.action.seq && a.kind == p.action.kind && a.target == p.action.target)).dropPlacement p.tag
  let m := if p.action.kind = 8 then m.onJob p.action.arg (fun x => { x with pending := none }) else m
  match p.reply with
  | some r => m.refuse r 14
  | none => m

/-- The DONE of a target (14 R417). -/
def Module.placementDone (m : Module) (p : Placement) (dev st : Nat) : Module :=
  if !p.targets.contains dev then m
  else if st ≠ 0 then m.failPlacement p [dev]
  else
    let done := dedup (p.done ++ [dev])
    if p.targets.all (fun d => done.contains d) then
      let m := m.dropPlacement p.tag
      match p.reply with
      | some r => m.placed r p.action
      | none => m
    else { m with cascade := { m.cascade with placements := m.cascade.placements.map (fun q =>
        if q.tag == p.tag then { q with done := done } else q) } }

/-- The entry of a SCHED cell as an action of this module; it keeps the master's SEQ (02 Table 02-4, R59, log 48). -/
def schedAction (p : Bytes) : Action :=
  let e := leAt p 0 32
  let kind := fld e 159 152
  let idx := fld e 143 128
  let sb := fld e 151 144
  let bytes := match findObj idx sb with
    | some o => o.bytes
    | none => 8
  let a : Action := { seq := fld e 191 160, kind := kind, target := fld e 63 0, host := true }
  if kind ≤ 3 then { a with key := odKey idx sb 0, value := toLe bytes (fld e 127 64) } else { a with arg := fld e 127 64 }

/-- Place an action of the master's, with the master's SEQ. -/
def Module.placeCopy (m : Module) (a : Action) : Module :=
  { m with schedule := insertAction a m.schedule, nextSeq := max m.nextSeq ((a.seq + 1) % 2 ^ 32) }

/-- The start of a job that the master placed: a SCHED cell of KIND 8 (14 R417, 11 R312, log 49). -/
def Module.schedJob (m : Module) (src arg : Nat) (a : Action) (cancel : Bool) : Module :=
  let j := a.arg % 64
  let x := m.job j
  if cancel then ((m.onJob j (fun x => { x with pending := if x.pending = some a.target then none else x.pending })).sendTo src 11 arg (toLe 1 0)).1
  else if a.target < m.clock.firstFrame ∨ x.config.isEmpty ∨ x.state = 2 then (m.sendTo src 11 arg (toLe 1 1)).1
  else ((m.onJob j (fun x => { x with pending := some a.target })).sendTo src 11 arg (toLe 1 0)).1

/-- A SCHED cell arrives: place or cancel, and answer with DONE (14 R417, 02 R40). -/
def Module.takeSched (m : Module) (src arg : Nat) (p : Bytes) : Module :=
  let a := schedAction p
  if a.kind = 8 then m.schedJob src arg a (leAt p 32 1 == 1) else
  if leAt p 32 1 = 1 then
    let m := m.unplace (fun b => b.host && b.kind == a.kind && b.target == a.target && b.key == a.key && b.value == a.value && b.arg == a.arg)
    (m.sendTo src 11 arg (toLe 1 0)).1
  else if a.target < m.clock.firstFrame ∨ m.hostFull then (m.sendTo src 11 arg (toLe 1 1)).1
  else ((m.placeCopy a).sendTo src 11 arg (toLe 1 0)).1

/-- Placements whose targets have not answered within 100 us (14 R417). -/
def Module.schedTimeouts (m : Module) : Module :=
  (m.cascade.placements.filter (fun p => decide (p.sent + 100000 ≤ m.clock.now))).foldl (fun (m : Module) p => m.failPlacement p []) m

/-! ## Frame-shape writes (02 R42, R43) -/

/-- A frame-shape write goes to the schedules of every module of the cascade (02 R43). -/
def Module.placeShape (m : Module) (r : VReq) (a : Action) : Module :=
  if m.inCascadeConfig && m.device != 0 then m.refuse r 13
  else m.placeAt r a (if m.inCascadeConfig then m.mates else [])

/-- The frame of a frame-shape write whose depth from that frame is d: run gets it, or FRAME_TOO_NEAR (02 R42). -/
def Module.shapeLead (m : Module) (r : VReq) (d : Nat → Nat) (run : Module → Nat → Module) : Module :=
  let base := m.clock.firstFrame + m.clock.depth + 2
  let first := ((List.range 7).map (fun i => base + i)).foldl (fun best n => if best ≠ 0 then best else if m.leadOk n (d n) then n else 0) 0
  let n := if r.target = 0 then first else r.target
  if m.leadOk n (d n) then run m n else m.reply r 11 first 0 []

end Sys2Proof.Machine
end

