-- ==== Sys2Proof/Machine/Arms.lean ====
section
/-! DEFINITION. Arming, disarming and re-arming stream sets (08 R248 to R258): the meanings of the writes, and what
their ticks do. -/

namespace Sys2Proof.Machine

/-! ## The descriptor (08 Table 08-12) -/

/-- The Vat slot descriptors of an arm descriptor. -/
def armSlots (v : Bytes) : List Nat := (List.range (armSlotCount (leAt v 0 64))).map (fun i => leAt v (192 + 8 * i) 8)

/-- Reason DESCRIPTOR does not hold (08 Table 08-13). -/
def Module.armFieldsOk (m : Module) (v : Bytes) : Bool :=
  let h := leAt v 0 64
  v.length == 192 + 8 * armSlotCount h
    && fld h 287 281 == 0 && fld h 255 249 == 0 && fld h 191 176 == 0 && fld h 63 57 == 0
    && armId h != 0 && decide (armFirst h ≤ armLast h) && decide (2 ≤ armCtx h ∧ armCtx h ≤ 7)
    && decide (1 ≤ armCmdCount h) && armCmdStride h % 32 == 0 && armSlice h % 65536 == 0
    && decide (32 * armCmdCount h ≤ armSlice h)
    && decide (armEvtCount h ≤ 48) && decide (armSlotCount h ≤ 48) && decide (armWeirFirst h + armWeirCount h ≤ 256)
    && decide (armStageLines h ≤ 4) && decide (armCredits h ≤ 16)
    && armLpBase h % 4096 == 0 && armLpBytes h % 4096 == 0 && decide (armLpBase h + armLpBytes h ≤ m.lpddrUsable)
    && (!armTower h || (armGrantClocks h == 0 && armGrantBytes h == 0))

/-- The sets that hold something on a tile of a range. -/
def Module.setsOver (m : Module) (h : Nat) : List StreamSet :=
  (m.streams.sets.map (·.2)).filter (fun s => decide (armFirst s.header ≤ armLast h ∧ armFirst h ≤ armLast s.header))

/-- Two ranges of numbers meet. -/
def runsMeet (a n b k : Nat) : Bool := decide (a < b + k ∧ b < a + n)

/-! ## The slice allowance (08 R250, 12 R343) -/

/-- First byte of the user regions in a slice. -/
def userSlice : Nat := 524288

/-- The user regions of a tile: first byte and length. -/
def Module.userRegions (m : Module) (t : Nat) : List (Nat × Nat) := (m.tile t).ctxs.map (fun p => (p.2.region, p.2.bytes))

/-- The lowest place of n bytes among the regions of a tile, in steps of 64 KiB, for an allowance that ends at top. -/
def placeRegion (held : List (Nat × Nat)) (top n : Nat) : Option Nat :=
  ((List.range ((top - userSlice) / 65536 + 1)).map (fun i => userSlice + 65536 * i)).find? (fun a =>
    decide (a + n ≤ top) && held.all (fun r => !runsMeet a n r.1 r.2))

/-- The region of a new set on a tile. -/
def Module.armRegion (m : Module) (h t : Nat) : Option Nat := placeRegion (m.userRegions t) (m.cfg 0x2000 0x12) (armSlice h)

/-- The armed reservations of every tile fit a SLICE_RESERVE_BYTES (08 R250). -/
def Module.reserveFits (m : Module) (reserve : Nat) : Bool :=
  m.tiles.all (fun p => p.2.ctxs.all (fun c => decide (c.2.region + c.2.bytes ≤ reserve)))

/-! ## The reasons of a refusal (08 Table 08-13) -/

/-- Reason VAT does not hold. -/
def Module.armVatOk (m : Module) (h : Nat) (ds : List Nat) : Bool :=
  let ok (d : Nat) : Bool := slotValid d && fld d 63 48 == 0 && fld d 39 22 == 0 && fld d 15 11 == 0 && decide (fld d 18 16 ≤ 4)
    && decide (slotBlock d + slotBlocks d ≤ 1536) && (!slotVat d || decide (slotState d + slotUnits d ≤ 192))
  let apart (a b : Nat) : Bool := !runsMeet (slotBlock a) (slotBlocks a) (slotBlock b) (slotBlocks b)
    && !runsMeet (slotState a) (slotUnits a) (slotState b) (slotUnits b)
  let idx := List.range ds.length
  decide (armSlotFirst h + armSlotCount h ≤ 48) && ds.all ok
    && idx.all (fun i => idx.all (fun j => decide (j ≤ i) || apart (ds.getD i 0) (ds.getD j 0)))
    && (m.setsOver h).all (fun s =>
      !runsMeet (armSlotFirst h) (armSlotCount h) (armSlotFirst s.header) (armSlotCount s.header)
        && s.slotDescs.all (fun e => ds.all (fun d => apart d e)))

/-- Reason EVENTS does not hold. -/
def Module.armEventsOk (m : Module) (h : Nat) : Bool :=
  decide (armEvtFirst h + armEvtCount h ≤ 48)
    && (m.setsOver h).all (fun s => !runsMeet (armEvtFirst h) (armEvtCount h) (armEvtFirst s.header) (armEvtCount s.header))

/-- Reason WEIR does not hold. -/
def Module.armWeirOk (m : Module) (h : Nat) : Bool :=
  armWeirCount h == 0
    || (m.lots.active.isNone && m.lots.staged.isNone
        && (m.setsOver h).all (fun s => !runsMeet (armWeirFirst h) (armWeirCount h) (armWeirFirst s.header) (armWeirCount s.header)))

/-- Tiles of a set. -/
def armTiles (h : Nat) : Nat := armLast h + 1 - armFirst h

/-- Reason STAGING does not hold: 6,144 lines of each controller and 8,192 credits are for users (08 R250, 12 R358). -/
def Module.armStagingOk (m : Module) (h : Nat) : Bool :=
  let hs := h :: m.streams.sets.map (fun p => p.2.header)
  decide (hs.foldl (fun a x => a + armTiles x * armStageLines x) 0 ≤ 6144)
    && decide (hs.foldl (fun a x => a + armTiles x * armCredits x) 0 ≤ 8192)

/-- The set that an arm would make, from frame n. -/
def newSet (v : Bytes) (n order : Nat) : StreamSet :=
  { header := leAt v 0 64, slotDescs := armSlots v, bases := (List.range 16).map (fun i => leAt v (64 + 8 * i) 8), state := 1
    armSfc := n, order := order }

/-- List a set. -/
def Module.putSet (m : Module) (s : StreamSet) : Module :=
  { m with streams := { m.streams with sets := mPut m.streams.sets (armId s.header) s } }

/-- Reason GRANT does not hold (08 R251, R252). -/
def Module.armGrantOk (m : Module) (v : Bytes) (n : Nat) : Bool :=
  let m' := m.putSet (newSet v n 0)
  m'.userGrantsOk n && m'.grantsOk n

/-- The command list of a tile; none where it could not be read. -/
def Module.armList (m : Module) (h t : Nat) : Option Bytes :=
  let a := (armCmdBase h + (t - armFirst h) * armCmdStride h) % 2 ^ 64
  let n := 32 * armCmdCount h
  match m.locateN a n with
  | .unmapped => none
  | .remote _ _ => none
  | l => let r := m.readLoc l n; if r.2 then none else some r.1

/-- The tiles that a header names. -/
def armTileList (h : Nat) : List Nat := (List.range (armTiles h)).map (fun i => armFirst h + i)

/-- The reason of a refusal, the lowest that holds; 0 for none. -/
def Module.armReason (m : Module) (v : Bytes) (n : Nat) : Nat :=
  let h := leAt v 0 64
  if !m.armFieldsOk v then 1
  else if mHas m.streams.sets (armId h) then 2
  else if 64 ≤ m.streams.sets.length then 3
  else if (m.setsOver h).any (fun s => armCtx s.header == armCtx h) then 4
  else if (armTileList h).any (fun t => (m.armRegion h t).isNone) then 5
  else if !m.armVatOk h (armSlots v) then 6
  else if !m.armEventsOk h then 7
  else if !m.armWeirOk h then 8
  else if !m.armStagingOk h then 9
  else if !m.armGrantOk v n then 10
  else if (armTileList h).any (fun t => (m.armList h t).isNone) then 11
  else 0

/-! ## Arming (08 R248, R249) -/

/-- Reserve on one tile: region, context and slots, with the tile's list at the start of the region. -/
def Module.armTile (m : Module) (s : StreamSet) (t : Nat) : Module :=
  let h := s.header
  match m.armRegion h t, m.armList h t with
  | some a, some l =>
    (m.onTile t (fun x => { x with
      ctxs := mPut x.ctxs (armCtx h) { setId := armId h, region := a, bytes := armSlice h }
      slots := ((List.range s.slotDescs.length).zip s.slotDescs).foldl (fun sl p => mPutZ sl (armSlotFirst h + p.1) p.2 0) x.slots })).sliceWrite t a l
  | _, _ => m

/-- A write of STREAM_ARM executes. -/
def Module.runArm (m : Module) (r : VReq) (c : Client) : Module :=
  m.checked r c (fun m o v => m.atTick r (fun m n =>
    if m.health.unsparable then m.refuse r 80
    else
      let e := m.armReason v n
      if e ≠ 0 then
        ({ (m.count 0x3100 0x0D 1) with streams := { m.streams with armRefusal := e } }).reply r 43 0 e []
      else if m.hostFull then m.refuse r 12
      else
        let s := newSet v n m.nextSeq
        let m := (armTileList s.header).foldl (fun (m : Module) t => m.armTile s t) m
        ((m.putSet s).place { kind := 0, key := odKey o.index o.sub 0, value := v, target := n, host := true }).ack r n))

/-- STREAM_ARM. -/
def streamArm (t : Nat) (m : Module) : Module := m.serve t (fun r _ => r.writes 0x3100 0x01) Module.runArm
/-- STREAM_ARM. -/
def execStreamArm (t : Nat) (s : State) : Host.Outcome State Fault Refusal := .next { s with m := streamArm t s.m }

/-- Clear the counters of a set (08 R241). -/
def Module.clearCounters (m : Module) (s : StreamSet) : Module :=
  s.tiles.foldl (fun (m : Module) t => m.onTile t (fun x => { x with events := x.events.filter (fun p => !s.hasEvt p.1) })) m

/-- The base registers B1 to B15 of a list of values. -/
def baseRegs (l : List Nat) : List (Nat × Nat) :=
  ((List.range 15).map (· + 1)).foldl (fun a i => mPutZ a i (l.getD i 0) 0) []

/-- The contexts of a set begin, or begin again, at command 0. -/
def Module.runSet (m : Module) (s : StreamSet) (regs : List (Nat × Nat)) : Module :=
  let m := m.onSetCtxs s (fun c => { c with state := 1, pc := 0, regs := regs, depMet := false, held := 0, waitTick := none })
  s.tiles.foldl (fun (m : Module) t => m.settle t) m

/-- A set starts at its first tick; a TOWER set waits, parked, for its tower frames (08 R249, R256). -/
def Module.startSet (m : Module) (id : Nat) : Module :=
  let s := m.streamSet id
  let m := (m.clearCounters s).onSet id (fun s => { s with state := if s.state = 1 then 2 else s.state })
  if armTower s.header then m.onSetCtxs s (fun c => { c with state := 2, regs := baseRegs s.bases })
  else m.runSet s (baseRegs s.bases)

/-! ## Disarming (08 R258) -/

/-- A write of STREAM_DISARM executes. -/
def Module.runDisarm (m : Module) (r : VReq) (c : Client) : Module :=
  m.checked r c (fun m o v => m.atTick r (fun m n =>
    if m.hostFull then m.refuse r 12
    else
      let m := m.onSet (leNat v) (fun s => { s with state := if s.state = 2 then 5 else s.state
                                                    disarm := some (match s.disarm with
                                                      | some d => min d n
                                                      | none => n) })
      (m.place { kind := 0, key := odKey o.index o.sub 0, value := v, target := n, host := true }).ack r n))

/-- STREAM_DISARM. -/
def streamDisarm (t : Nat) (m : Module) : Module := m.serve t (fun r _ => r.writes 0x3100 0x02) Module.runDisarm
/-- STREAM_DISARM. -/
def execStreamDisarm (t : Nat) (s : State) : Host.Outcome State Fault Refusal := .next { s with m := streamDisarm t s.m }

/-- A set is disarmed: its contexts, regions and slots are free (08 R258). -/
def Module.disarmSet (m : Module) (id : Nat) : Module :=
  let s := m.streamSet id
  let h := s.header
  let m := s.tiles.foldl (fun (m : Module) t => m.onTile t (fun x => { x with
    ctxs := x.ctxs.filter (fun p => p.2.setId != id)
    slots := x.slots.filter (fun p => !decide (armSlotFirst h ≤ p.1 ∧ p.1 < armSlotFirst h + armSlotCount h))
    runs := x.runs.filter (fun r => !runsMeet r.wlist r.wcount (armWeirFirst h) (armWeirCount h)) })) m
  { m with
    streams := { m.streams with sets := mDel m.streams.sets id }
    cascade := { m.cascade with ops := m.cascade.ops.filter (fun o => o.streamId != id) } }

/-! ## Re-arming (08 R256, R257) -/

/-- A write of STREAM_REARM executes. -/
def Module.runRearm (m : Module) (r : VReq) (c : Client) : Module :=
  m.checked r c (fun m o v => m.untargeted r (fun m =>
    let id := leAt v 0 4
    let n := leAt v 8 8
    let f := m.clock.firstFrame
    let n' := if n = 0 then f else n
    if leAt v 4 4 ≠ 0 ∨ !mHas m.streams.sets id then m.refuse r 8
    else if n' < f then m.reply r 10 f 0 []
    else if armTower (m.streamSet id).header then m.refuse r 13
    else if m.hostFull then m.refuse r 12
    else
      let bs := 0 :: (List.range 15).map (fun i => leAt v (16 + 8 * i) 8)
      let m := m.onSet id (fun s => { s with rearms := insertBy (fun a b => decide (a.1 < b.1)) (n', bs) s.rearms })
      (m.place { kind := 0, key := odKey o.index o.sub 0, value := v, target := n', host := true }).ack r n'))

/-- STREAM_REARM. -/
def streamRearm (t : Nat) (m : Module) : Module := m.serve t (fun r _ => r.writes 0x3100 0x03) Module.runRearm
/-- STREAM_REARM. -/
def execStreamRearm (t : Nat) (s : State) : Host.Outcome State Fault Refusal := .next { s with m := streamRearm t s.m }

end Sys2Proof.Machine
end

