-- ==== Sys2Proof/Machine/BuildOps.lean ====
section
/-! DEFINITION. The image that the builder makes (06 R179 to R185): encoding, centroids, graph, assignment, sections. -/

namespace Sys2Proof.Machine

/-! ## Free values of a build (log 2) -/

/-- The i-th positive finite FP32 value that a free word holds. -/
def freePos (w i : Nat) : Nat := 1 + (w >>> (32 * i)) % 0x7F7FFFFF

/-- The i-th finite BF16 value that a free word holds. -/
def freeBf16 (w i : Nat) : Nat := let r := (w >>> (32 * i)) % 2 ^ 32; r % 2 * 0x8000 + r / 2 % 0x7F80

/-! ## Encoding (06 R182) -/

/-- An encoded vector: ROW_SCALE, codes, side values. -/
structure Enc where
  scale : Nat
  codes : List Nat
  sides : List Nat
  deriving DecidableEq, Repr

/-- |x|. -/
def ratAbs (x : Rat) : Rat := if x < 0 then -x else x

/-- The escape code of a format (03 Table 03-1). -/
def escapeOf (fmt : Nat) : Nat := if fmt = 0 then 8 else 0x80

/-- Encode y with α; an out-of-range code is clamped or becomes an escape. A scale that does not come out positive and
finite is a free value. -/
def encodeWith (fmt : Nat) (alpha : Rat) (clamp : Bool) (free : Nat) (ys : List Rat) : Enc :=
  let top := ys.foldl (fun a y => if a < ratAbs y then ratAbs y else a) 0
  if top = 0 then ⟨0, ys.map (fun _ => 0), []⟩
  else
    let q := qmaxOf (fmt + 2)
    let s0 := round32 (alpha * top / q)
    let sb := if posFinite s0 then s0 else freePos free 0
    let s := fp32.val sb
    let rs := ys.map (fun y => (y / s, roundGrid (fmt + 2) (y / s)))
    let out (r : Rat) : Bool := decide (q < ratAbs r)
    let code (r : Rat) : Nat :=
      if out r then (if clamp then gridCode (fmt + 2) (if r < 0 then -q else q) else escapeOf fmt) else gridCode (fmt + 2) r
    ⟨sb, rs.map (fun p => code p.2), if clamp then [] else (rs.filter (fun p => out p.2)).map (fun p => round32 p.1)⟩

/-- Encode a row: with more than 63 escapes it is encoded again, clamped, with α = 1. -/
def encodeItem (fmt : Nat) (alpha : Rat) (free : Nat) (ys : List Rat) : Enc :=
  let e := encodeWith fmt alpha false free ys
  if 63 < e.sides.length then encodeWith fmt 1 true free ys else e

/-- Real value of a code. -/
def codeRat (fmt c : Nat) : Rat :=
  match codeX fmt c with
  | .fin r _ => r
  | _ => 0

/-- The code values of an encoded vector, side values at escapes. -/
def encVals (fmt : Nat) : List Nat → List Nat → List Rat
  | [], _ => []
  | c :: r, sides =>
    if isEscape fmt c then (fp32.val (sides.headD 0)) :: encVals fmt r (sides.drop 1) else codeRat fmt c :: encVals fmt r sides

/-- The decoded values (03 R71). -/
def Enc.decoded (e : Enc) (fmt : Nat) (cs : List Rat) : List Rat :=
  ((encVals fmt e.codes e.sides).zip cs).map (fun p => fp32.val e.scale * p.2 * p.1)

/-- NORM2 of an encoded vector (03 R71). -/
def Enc.norm2 (e : Enc) (fmt : Nat) (cs : List Rat) : Nat := round32 (sumSq (e.decoded fmt cs))

/-! ## What a build makes an image of -/

/-- The properties of the Lot to build: from the descriptor, or from the parent. -/
structure BuildShape where
  lot : Nat
  parent : Nat
  shard : Nat
  shards : Nat
  dim : Nat
  metric : Nat
  fmt : Nat
  sketch : Nat
  degree : Nat
  entries : Nat
  lists : Nat
  deriving DecidableEq, Repr

/-- An item as the image holds it. -/
structure BuildItem where
  key : Nat
  attr : Nat
  enc : Enc
  norm2 : Nat
  sketch : Nat
  primary : Nat
  second : Option Nat
  deriving DecidableEq, Repr

/-- A centroid: its code and its neighbours. -/
structure BuildCent where
  enc : Enc
  norm2 : Nat
  adj : List Nat
  deriving DecidableEq, Repr

/-- The fixed header, section table and digest field of zeros. -/
def imgHeader (s : BuildShape) (items spills time : Nat) (secs : List Sec) (total : Nat) : Bytes :=
  fit (toLe 8 0x0000544F4C324E46 ++ toLe 2 1 ++ zeros 2 ++ toLe 4 s.lot ++ toLe 4 s.parent ++ toLe 2 s.shard ++ toLe 2 s.shards
    ++ toLe 2 s.dim ++ toLe 1 s.metric ++ toLe 1 s.fmt ++ toLe 2 s.sketch ++ toLe 1 s.degree ++ toLe 1 (min s.entries s.lists)
    ++ toLe 4 s.lists ++ toLe 8 items ++ toLe 8 spills ++ toLe 8 total ++ toLe 1 secs.length ++ zeros 3 ++ toLe 8 time
    ++ toLe 8 (secs.foldl (fun a x => a + x.len) 0)) 128
  ++ fit (secs.flatMap (fun x => toLe 8 x.off ++ toLe 8 x.len ++ toLe 1 x.typ ++ zeros 15)) 512 ++ zeros 3456

/-- Sections at multiples of 4,096 from an offset. -/
def laySections : Nat → List (Nat × Bytes) → List Sec
  | _, [] => []
  | o, x :: r => ⟨x.1, o, x.2.length⟩ :: laySections (roundUp (o + x.2.length) 4096) r

/-- The image of sections in ascending TYPE, those of no bytes left out; its digest field is zero. -/
def layImage (s : BuildShape) (items spills time : Nat) (secs : List (Nat × Bytes)) : Bytes :=
  let secs := secs.filter (fun x => !x.2.isEmpty)
  let l := laySections 4096 secs
  let total := match l.getLast? with
    | some x => roundUp (x.off + x.len) 4096
    | none => 4096
  imgHeader s items spills time l total ++ secs.flatMap (fun x => padTo x.2 4096)

/-! ## Sections -/

/-- The list table (03 Table 03-9), from the counts of each list. -/
def listTable : Nat → Nat → List (Nat × Nat) → Bytes
  | _, _, [] => []
  | p, s, (np, ns) :: r => toLe 8 p ++ toLe 4 np ++ zeros 4 ++ toLe 8 s ++ toLe 4 ns ++ zeros 4 ++ listTable (p + np) (s + ns) r

/-- A centroid record (03 Table 03-3). -/
def BuildCent.bytes (c : BuildCent) (s : BuildShape) : Bytes :=
  padTo (toLe 4 c.enc.scale ++ toLe 4 c.norm2 ++ toLe 1 c.adj.length ++ zeros 7 ++ packCodes s.fmt c.enc.codes
    ++ fit (c.adj.flatMap (toLe 3)) (3 * s.degree)) 64

/-- A list record (03 Table 03-8). -/
def listRecord (s : BuildShape) (ordinal : Nat) (x : BuildItem) (second : Bool) : Bytes :=
  padTo (toLe 8 (ordinal + put (b2n second) 1 38 + put (b2n (!second && x.second.isSome)) 1 39) ++ toLe 8 x.attr
    ++ toLe (s.sketch / 8) x.sketch) 16

/-- The rows in ordinal order, from a running side offset (03 Table 03-2). -/
def rowBytes (s : BuildShape) : Nat → List BuildItem → Bytes
  | _, [] => []
  | o, x :: r =>
    toLe 16 (put x.enc.scale 32 0 + put x.norm2 32 32 + put x.enc.sides.length 6 82 + put o 40 88) ++ packCodes s.fmt x.enc.codes
      ++ rowBytes s (o + 4 * x.enc.sides.length) r

/-- The entry points (06 R183). -/
def entryPoints (s : BuildShape) : List Nat :=
  let e := min s.entries s.lists
  (List.range e).map (fun i => i * s.lists / e)

/-- What the centroids alone make: an image with no items, for the probe and the graph. -/
def centroidImage (s : BuildShape) (scales : List Nat) (cs : List BuildCent) : Bytes :=
  layImage { s with sketch := 0 } 0 0 0
    [(1, listTable 0 0 (cs.map (fun _ => (0, 0)))), (2, cs.flatMap (fun c => c.bytes s)), (3, (entryPoints s).flatMap (toLe 4)),
     (9, scales.flatMap (toLe 4))]

/-- Encode centroids by the clamped rule with α = 1 (06 R182). -/
def encodeCents (s : BuildShape) (csv : List Rat) (free : Nat) (cents : List (List Rat)) : List BuildCent :=
  cents.map (fun x =>
    let e := encodeWith s.fmt 1 true free ((x.zip csv).map (fun p => p.1 / p.2))
    ⟨e, e.norm2 s.fmt csv, []⟩)

/-- The neighbours of list j: the other lists with the least key and number (06 R183). -/
def graphOf (s : BuildShape) (csv : List Rat) (img : Bytes) (cs : List BuildCent) (j : Nat) : List Nat :=
  let x := (cs.getD j ⟨⟨0, [], []⟩, 0, []⟩).enc.decoded s.fmt csv
  let q := (x.zip csv).map (fun p => round16 (p.1 * p.2))
  let q2 := round32 (sumSq x)
  let ks := ((List.range s.lists).filter (· != j)).map (fun l => (centroidKey img q q2 l, l))
  ((sortBy (fun (a b : Nat × Nat) => decide (a.1 < b.1 ∨ (a.1 = b.1 ∧ a.2 ≤ b.2))) ks).take (min s.degree (s.lists - 1))).map (·.2)

/-- Encode the centroids and build the graph: the centroids, and their image (06 R180, R183). -/
def buildGraph (s : BuildShape) (scales : List Nat) (csv : List Rat) (free : Nat) (cents : List (List Rat)) : List BuildCent × Bytes :=
  let cs := encodeCents s csv free cents
  let img := centroidImage s scales cs
  let cs := (cs.zip (List.range cs.length)).map (fun p => { p.1 with adj := graphOf s csv img cs p.2 })
  (cs, centroidImage s scales cs)

/-- u of a score (03 R73), none where it is not finite. -/
def scoreU (metric score : Nat) : Option Rat :=
  if !fp32.isFin score then none else some (if metric = 1 then fp32.val score else -fp32.val score)

/-- Score of list l for a prepared query, in CHUNK arithmetic (04 R126). -/
def centroidScore (img : Bytes) (q : List Nat) (q2 l : Nat) : Nat :=
  scoreOf (imgMetric img) 2 (imgFormat img) q q2 (imgCentScale img l) (imgCentNorm img l) (imgCentCodes img l) []

/-- The lists of an item: the first of its visit set, and the second where it spills (06 R183). The lists of an item
that cannot be prepared as a query are free. -/
def assign (img : Bytes) (free : Nat) (spill : Bool) (margin : Nat) (raw : List Rat) : Nat × Option Nat :=
  match prepare img raw with
  | none => (free % imgLists img, none)
  | some r =>
    match probe img r.q r.q2 { p := 2, width := 64 } with
    | [] => (0, none)
    | [a] => (a, none)
    | a :: b :: _ =>
      let near := match scoreU (imgMetric img) (centroidScore img r.q r.q2 a), scoreU (imgMetric img) (centroidScore img r.q r.q2 b) with
        | some u1, some u2 => decide (u2 - u1 ≤ fp32.val margin * ratAbs u1)
        | _, _ => false
      (a, if spill && near then some b else none)

/-! ## Training (06 R180, R181, R182) -/

/-- The positions of a sample of t among n. -/
def samplePositions (n t : Nat) : List Nat := (List.range t).map (fun i => i * n / t)

/-- Learned channel scales (06 R181); those of no item are free. -/
def learnScales (dim free : Nat) (sample : List (List Rat)) : List Nat :=
  (List.range dim).map (fun c =>
    if sample.isEmpty then freePos free c
    else
      let v := fp32.roundSqrt (sumSq (sample.map (fun x => x.getD c 0)) / (sample.length : Rat))
      if v = 0 then 0x3F800000 else v)

/-- The values of channel scales in the arithmetic; one that is not positive and finite is free. -/
def scaleVals (free : Nat) (scales : List Nat) : List Rat :=
  (scales.zip (List.range scales.length)).map (fun p => fp32.val (if posFinite p.1 then p.1 else freePos free p.2))

/-- x divided by the channel scales. -/
def scaled (csv : List Rat) (x : List Rat) : List Rat := (x.zip csv).map (fun p => p.1 / p.2)

/-- Squared error and escapes of a sample under an α. -/
def alphaCost (fmt : Nat) (csv : List Rat) (free : Nat) (alpha : Rat) (sample : List (List Rat)) : Rat × Nat :=
  sample.foldl (fun (a : Rat × Nat) x =>
    let e := encodeItem fmt alpha free (scaled csv x)
    (a.1 + sumSq ((x.zip (e.decoded fmt csv)).map (fun p => p.1 - p.2)), a.2 + e.sides.length)) (0, 0)

/-- The learned α as h in 16ths (06 R182). -/
def learnAlpha (fmt : Nat) (csv : List Rat) (free : Nat) (sample : List (List Rat)) : Nat :=
  let best := ((List.range 9).map (fun i => 8 + i)).foldl (fun (b : Option (Nat × Rat)) (h : Nat) =>
    let c := alphaCost fmt csv free (mkRat h 16) sample
    if sample.length < c.2 then b
    else match b with
      | none => some (h, c.1)
      | some x => if c.1 ≤ x.2 then some (h, c.1) else b) none
  match best with
  | some x => x.1
  | none => 16

/-- α as FP32: the field, or what the sample teaches (06 R182). -/
def alphaOf (field fmt : Nat) (csv : List Rat) (free : Nat) (sample : List (List Rat)) : Nat :=
  if field ≠ 0 then field else round32 (mkRat (learnAlpha fmt csv free sample) 16)

/-- The mean of the members of a list, in FP32 values; with no members the centroid stays (06 R183). -/
def meanOf (old : List Rat) (members : List (List Rat)) : List Rat :=
  if members.isEmpty then old
  else (List.range old.length).map (fun c =>
    fp32.val (round32 (members.foldl (fun a x => a + x.getD c 0) 0 / (members.length : Rat))))

/-- Centroid iterations (06 R180). raw and norm are the sample items as they came and as they are used. -/
def iterate (s : BuildShape) (scales : List Nat) (csv : List Rat) (free : Nat) (sample : List (List Rat × List Rat)) :
    Nat → List (List Rat) → List (List Rat)
  | 0, cents => cents
  | n + 1, cents =>
    let img := (buildGraph s scales csv free cents).2
    let a := sample.map (fun x => ((assign img free false 0 x.1).1, x.2))
    iterate s scales csv free sample n ((cents.zip (List.range cents.length)).map (fun p =>
      meanOf p.1 ((a.filter (fun y => y.1 == p.2)).map (·.2))))

/-- The generated projection (06 R181). -/
def generateProj (seed sketch dim : Nat) : Bytes := shake256 (ascii "FN2PROJ" ++ toLe 8 seed) (sketch * dim)

/-- The sketch of an encoded item (06 R183). -/
def itemSketch (proj : Bytes) (sketch dim fmt : Nat) (e : Enc) : Nat :=
  let w := encVals fmt e.codes e.sides
  bitsNat sketch (fun j => decide (0 < dotR w ((List.range dim).map (fun c => (sgn 8 (leAt proj (j * dim + c) 1) : Rat)))))

/-- An item of the input, assigned and encoded. -/
def buildItem (s : BuildShape) (img proj : Bytes) (csv : List Rat) (alpha free : Nat) (spill : Bool) (margin : Nat)
    (x : Nat × Nat × List Nat) : BuildItem :=
  let raw := x.2.2.map bf16.val
  let e := encodeItem s.fmt (fp32.val alpha) free (scaled csv (normalise (s.metric == 2) raw))
  let a := assign img free spill margin raw
  { key := x.1, attr := x.2.1, enc := e, norm2 := e.norm2 s.fmt csv, sketch := itemSketch proj s.sketch s.dim s.fmt e, primary := a.1, second := a.2 }

/-! ## The whole image -/

/-- Owners, residency and whether the graph is resident, of an image with no plan (03 R94). -/
def residencyOrder (b : Bytes) (caps : List Nat) (p : Placed) : List Nat → List Nat → List Nat → List Nat
  | [], _, out => out
  | l :: r, free, out =>
    let t := p.owner.getD l 0
    let rb := imgListBytes b l
    if rb ≤ free.getD t 0 then residencyOrder b caps p r (free.set t (free.getD t 0 - rb)) (l :: out)
    else residencyOrder b caps p r free out

/-- The lists that a plan marks resident: those of R94, or charged by descending visits (06 R184). -/
def planResident (b : Bytes) (caps : List Nat) (p : Placed) (visits : Option (List (Nat × Nat))) : Nat → Bool :=
  match visits with
  | none => fun l => p.resident.getD l false
  | some v =>
    let owned (t : Nat) := (p.owner.filter (· == t)).length
    let free := (List.range 512).map (fun t => caps.getD t 0 - (if p.graph then imgCent b * owned t else 0))
    let order := sortBy (fun (a b : Nat) => decide (mGetD v b 0 < mGetD v a 0 ∨ (mGetD v b 0 = mGetD v a 0 ∧ a ≤ b))) (List.range (imgLists b))
    let res := residencyOrder b caps p order free []
    fun l => res.contains l

/-- The image of a Lot: its items list by list, its centroids, scales and projection (06 R180, R183). visits is given
for the plan of an incremental build. -/
def assembleImage (s : BuildShape) (cents entryPts : Bytes) (scales : List Nat) (proj : Bytes) (items : List BuildItem) (plan : Bool)
    (caps : List Nat) (visits : Option (List (Nat × Nat))) (time : Nat) : Bytes :=
  let byList := (List.range s.lists).map (fun l => items.filter (fun x => x.primary == l))
  let ordered := byList.flatten
  let numbered := (List.range ordered.length).zip ordered
  let secs := (List.range s.lists).map (fun l => numbered.filter (fun x => x.2.second == some l))
  let seconds := secs.flatten
  let spills := seconds.length
  let table := listTable 0 0 ((byList.zip secs).map (fun p => (p.1.length, p.2.length)))
  let spillMap := sortBy (fun (a b : Nat × Nat) => decide (a.1 ≤ b.1)) ((List.range spills).zip seconds |>.map (fun p => (p.2.1, p.1)))
  let shape := layImage s ordered.length spills time [(1, table), (2, cents), (3, entryPts)]
  let p := placeImage shape caps
  let res := if plan then planResident shape caps p visits else fun l => p.resident.getD l false
  let counts := (byList.zip secs).map (fun p => p.1.length + p.2.length)
  let cost := ((List.range s.lists).zip counts).flatMap (fun x =>
    toLe 4 (if res x.1 then 0 else ceilDiv (x.2 * recordBytes s.sketch) 256 + 64) ++ toLe 4 (x.2 + 32 + ceilDiv x.2 8))
  let planB := if plan then (List.range s.lists).flatMap (fun l => toLe 4 (put (b2n (res l)) 1 31 + put (p.owner.getD l 0) 9 0)) else []
  let b := layImage s ordered.length spills time
    [(1, table), (2, cents), (3, entryPts), (4, numbered.flatMap (fun x => listRecord s x.1 x.2 false)),
     (5, seconds.flatMap (fun x => listRecord s x.1 x.2 true)), (6, spillMap.flatMap (fun x => toLe 8 x.1 ++ toLe 8 x.2)),
     (7, rowBytes s 0 ordered), (8, ordered.flatMap (fun x => x.enc.sides.flatMap (toLe 4))), (9, scales.flatMap (toLe 4)),
     (10, proj), (11, ordered.flatMap (fun x => toLe 8 x.key)), (12, cost), (13, planB)]
  splice b 640 (imgComputeDigest b)

/-- A list would exceed 2^28 - 1 records (06 R179). -/
def listsTooLong (lists : Nat) (items : List BuildItem) : Bool :=
  (List.range lists).any (fun l => decide (2 ^ 28 ≤ (items.filter (fun x => x.primary == l)).length
    ∨ 2 ^ 28 ≤ (items.filter (fun x => x.second == some l)).length))

/-- LIST_COUNT of a build of n items (06 R180). -/
def autoLists (n : Nat) : Nat := let c := max 1 (ceilDiv n 4096); if 2 ^ c.log2 = c then c else 2 ^ (c.log2 + 1)

/-! ## Inputs (06 R179) -/

/-- The records of an input: key, attribute word, values. -/
def inputRecords (dim : Nat) (b : Bytes) : List (Nat × Nat × List Nat) :=
  (List.range (b.length / (16 + 2 * dim))).map (fun i =>
    let o := i * (16 + 2 * dim)
    (leAt b o 8, leAt b (o + 8) 8, (List.range dim).map (fun c => leAt b (o + 16 + 2 * c) 2)))

/-- BAD_INPUT of the records themselves. -/
def inputBad (l : List (Nat × Nat × List Nat)) : Bool :=
  decide (2 ^ 35 < l.length) || l.any (fun x => x.1 == 2 ^ 64 - 1 || x.2.2.any (fun v => !bf16.isFin v))

/-- What a build ends in: an error, or its image and α. -/
structure BuildResult where
  error : Nat := 0
  image : Bytes := []
  alpha : Nat := 0
  items : Nat := 0
  deriving DecidableEq, Repr

/-- A full build (06 R180 to R183). model is the block at MODEL_ADDR. -/
def buildFull (d : Nat) (caps : List Nat) (time free : Nat) (model : Bytes) (input : List (Nat × Nat × List Nat)) : BuildResult :=
  let n := input.length
  let l := if bdLists d = 0 then autoLists n else bdLists d
  let s : BuildShape := ⟨bdLot d, 0, bdShard d, bdShards d, bdDim d, bdMetric d, bdFormat d, bdSketch d, bdDegree d, bdEntries d, l⟩
  let xs := input.map (fun x => x.2.2.map bf16.val)
  let both (i : Nat) : List Rat × List Rat := let raw := xs.getD i []; (raw, normalise (s.metric == 2) raw)
  let sample := (samplePositions n (min n (64 * l))).map both
  let scales := if bdScale d = 2 then (List.range s.dim).map (fun c => leAt model (s.sketch * s.dim + 4 * c) 4)
    else learnScales s.dim free (sample.map (·.2))
  let csv := scaleVals free scales
  let proj := if bdProj d = 2 then fit model (s.sketch * s.dim) else generateProj (bdSeed d) s.sketch s.dim
  let alpha := alphaOf (bdAlpha d) s.fmt csv free (sample.map (·.2))
  let t := sample.length
  let seed := (List.range l).map (fun j =>
    match sample[j * t / l]? with
    | some x => x.2
    | none => (List.range s.dim).map (fun c => bf16.val (freeBf16 free (j * s.dim + c))))
  let cents := iterate s scales csv free sample (bdIterations d) seed
  let g := buildGraph s scales csv free cents
  let items := input.map (buildItem s g.2 proj csv alpha free (bdSpill d) (bdMargin d))
  if listsTooLong l items then { error := 1 }
  else
    { image := assembleImage s (g.1.flatMap (fun c => c.bytes s)) ((entryPoints s).flatMap (toLe 4)) scales proj items (bdPlan d) caps none time
      alpha := alpha, items := n }

/-- An item of a parent image with its word at the start tick. -/
def parentItem (b : Bytes) (words : List (Nat × Nat)) (o : Nat) : BuildItem :=
  { key := imgKey b o, attr := mGetD words o (imgRecAttr b 4 o)
    enc := ⟨imgRowScale b o, imgRowCodes b o, imgSideList b o⟩, norm2 := imgRowNorm b o, sketch := imgRecSketch b 4 o
    primary := imgListOf b 4 o
    second := ((List.range (imgSpills b)).find? (fun i => imgRecOrd b 5 i == o)).map (imgListOf b 5) }

/-- An incremental build (06 R184). -/
def buildIncremental (d : Nat) (b : Bytes) (words visits : List (Nat × Nat)) (caps : List Nat) (time free : Nat) (deletes : List Nat)
    (input : List (Nat × Nat × List Nat)) : BuildResult :=
  let s : BuildShape := ⟨bdLot d, imgLot b, bdShard d, bdShards d, imgDim b, imgMetric b, imgFormat b, imgSketch b, imgDegree b,
    imgEntries b, imgLists b⟩
  let scales := imgScales b
  let csv := scaleVals free scales
  let proj := secSub b 10 0 (s.sketch * s.dim)
  let xs := input.map (fun x => normalise (s.metric == 2) (x.2.2.map bf16.val))
  let n := xs.length
  let sample := (samplePositions n (min n (64 * s.lists))).map (fun i => xs.getD i [])
  let alpha := alphaOf (bdAlpha d) s.fmt csv free sample
  let kept := ((List.range (imgItems b)).map (parentItem b words)).filter (fun x =>
    !deletes.contains x.key && !(bdDrop d && x.attr.testBit 63) && !input.any (fun y => y.1 == x.key))
  let items := kept ++ input.map (buildItem s b proj csv alpha free (decide (0 < imgSpills b)) (bdMargin d))
  if 2 ^ 35 < items.length ∨ listsTooLong s.lists items then { error := 1 }
  else
    { image := assembleImage s (secSub b 2 0 (imgLists b * imgCent b)) (secSub b 3 0 (4 * imgEntries b)) scales proj items (bdPlan d) caps
        (some visits) time
      alpha := alpha, items := items.length }

/-! ## Room (06 R178) -/

/-- Bytes of the largest image that n items of a shape can make. -/
def worstImage (dim fmt sketch degree lists n : Nat) (spill : Bool) : Nat :=
  let up (x : Nat) := roundUp x 4096
  4096 + up (32 * lists) + up (lists * roundUp (16 + codeBytes fmt dim + 3 * degree) 64) + up 64
    + up (n * recordBytes sketch) + (if spill then up (n * recordBytes sketch) + up (16 * n) else 0)
    + up (n * (16 + codeBytes fmt dim)) + up (252 * n) + up (4 * dim) + up (sketch * dim) + up (8 * n) + up (8 * lists) + up (4 * lists)

end Sys2Proof.Machine
end

