-- ==== Sys2Proof/Machine/Admission.lean ====
section
/-! DEFINITION. Admission (04 R104 to R118, 14 R404, R409, 02 R47 to R49): the candidates of a batch, gate 1,
preparation and probe, gate 2, re-admission of affected queries, and the posting of completions. -/

namespace Sys2Proof.Machine

/-! ## Posting (04 R109, 05 R153, R164) -/

/-- Count a status that this module decides or posts: 1 SHORT, 2 PARTIAL, 3 DEFERRED, 4 BUSY, 5 BAD_REQUEST, 6 NO_LOT,
7 FAULT (04 R130, 05 R164, 02 R50). -/
def Module.countStatus (m : Module) (st : Nat) : Module :=
  match st with
  | 1 => m.count 0x30F0 0x03 1
  | 2 => m.count 0x30F0 0x04 1
  | 3 => m.count 0x1100 0x1B 1
  | 4 => m.count 0x1200 0x09 1
  | 5 => m.count 0x1200 0x0A 1
  | 6 => m.count 0x1200 0x0B 1
  | 7 => m.count 0x30F0 0x05 1
  | _ => m

/-- Post a query's completion in its slot: OUTSTANDING falls by one (05 R153). -/
def Module.postQuery (m : Module) (session slot : Nat) (bs : Bytes) : Module :=
  ((m.onSession session (fun x => { x with outstanding := x.outstanding - 1 })).post session slot bs).countStatus (leAt bs 0 1 % 16)

/-- Send a shard answer to the entry module in ANSWER cells, or hold it as this module's own (05 R156, 14 R411). -/
def Module.sendAnswer (m : Module) (entry tag : Nat) (a : Bytes) : Module :=
  if !m.inFrames then m
  else
    let ps := cellPieces a
    (ps.zip (List.range ps.length)).foldl (fun (m : Module) p => (m.sendTo entry 16 (put tag 32 8 + put p.2 8 0) p.1).1) m

/-- Take a query out of flight. -/
def Module.dropQuery (m : Module) (id : Nat) : Module :=
  { m with search := { m.search with live := m.search.live.filter (fun q => q.id != id) } }

/-- Change a query in flight. -/
def Module.onQuery (m : Module) (id : Nat) (f : Query → Query) : Module :=
  { m with search := { m.search with live := m.search.live.map (fun q => if q.id = id then f q else q) } }

/-- A query in flight. -/
def Module.query (m : Module) (id : Nat) : Option Query := m.search.live.find? (fun q => q.id == id)

/-- Settle a query without entries: a completion at its host, or an answer to its entry module (05 R153, R154, 04 R120). -/
def Module.settleQuery (m : Module) (q : Query) (st : Nat) : Module :=
  let m := m.dropQuery q.id
  if q.role = 2 then
    let shard := match m.lotOf q.lot with
      | some l => imgShard l.bytes
      | none => 0
    (m.sendAnswer q.entryDev q.tag (bareAnswer st m.device shard q.tag q.lot)).countStatus (if 4 ≤ st ∧ st ≤ 6 then st else 0)
  else m.postQuery q.session q.slot (bareCompletion st q.lot q.admSfc)

/-! ## Candidates (04 R106, 14 R409) -/

/-- One query of a batch before gate 1. -/
structure Cand where
  /-- admission order: arrival, 0 local or 1 multicast, port or entry device, session or tag, message order, position -/
  order : List Nat
  query : Query
  malformed : Bool := false
  fits : Bool := true
  /-- a group's query that was not forwarded (04 R108) -/
  unforwarded : Bool := false
  /-- FRAMES of the named tower exceed D - 3 at an entry that runs towers (14 R412) -/
  towerAt : Bool := false
  kMax : Nat := 1024
  elems : Nat := 0
  flen : Nat := 0
  inline_ : Bool := false
  deriving DecidableEq, Repr

/-- The candidates of a QUERY message (04 R102, R104, R105). -/
def Module.arrivalCands (m : Module) (n : Nat) (a : Arrival) : List Cand :=
  let b := a.msg
  let bad := msgMalformed b false
  let cnt := if 1 ≤ msgCount b ∧ msgCount b ≤ 64 then msgCount b else 1
  let p := m.paramsOf b a.overrides a.filter
  let km := match m.session a.session with
    | some x => x.kMax
    | none => 0
  (List.range cnt).map (fun i =>
    { order := [a.time, 0, a.port, a.session, a.order, i], malformed := bad, fits := decide (i < a.fits)
      unforwarded := a.group.isSome && a.tag.isNone, kMax := km, elems := msgElems b
      towerAt := (match a.group with
        | some g => mapTowerAt (m.shardMap g)
        | none => false)
      flen := effectiveFilterLen b p, inline_ := msgFilterSel b == 2
      query := { session := a.session, slot := (msgSlot b + i) % 2 ^ 32, port := a.port, share := ceilDiv b.length cnt
                 role := if a.group.isSome then 1 else 0, group := a.group.getD 0, tag := (a.tag.getD 0 + i) % 2 ^ 32
                 params := p, inputKind := msgKind b, input := if bad then [] else msgInput b i, admSfc := n, start := n, depth := m.clock.depth
                 massF := m.cfg 0x30F0 0x01, beta := m.cfg 0x30F0 0x02, desc := if 1 ≤ p.tower ∧ p.tower ≤ 15 then m.tower p.tower else [] } })

/-- The candidates of an accepted multicast batch (14 R407 to R409, R412). -/
def Module.batchCands (m : Module) (b : Batch) : List Cand :=
  match b.endRec with
  | none => []
  | some er =>
    let e := leAt er 0 64
    let df := sub er 64 (fld e 271 256)
    (b.records.filter (fun r => decide (r.1 < fld e 447 416))).map (fun r =>
      let h := leAt r.2 0 64
      let p := recordParams r.2 e df
      let raw := fld h 367 352 * (if fld h 239 232 = 1 then 4 else 2)
      { order := [fld h 511 448, 1, b.entry, r.1, 0, 0], elems := fld h 367 352
        flen := if fld h 247 240 = 2 ∧ !h.testBit 231 then fld h 383 368 else p.filter.length
        inline_ := fld h 247 240 == 2 && !h.testBit 231
        query := { role := 2, entryDev := b.entry, tag := r.1, group := b.group, params := p, inputKind := fld h 239 232, staged := h.testBit 200
                   input := sub r.2 (64 + roundUp (fld h 383 368) 64) raw, admSfc := b.sfc, start := b.sfc, depth := m.clock.depth
                   massF := fld e 383 376, beta := fld e 415 384
                   desc := if 1 ≤ p.tower ∧ p.tower ≤ 15 then m.tower p.tower else [] } })

/-- Lexicographic order of candidates. -/
def orderLe : List Nat → List Nat → Bool
  | x :: xs, y :: ys => decide (x < y) || (x == y && orderLe xs ys)
  | _, _ => true

/-! ## Gate 1 (04 R104, R108, R112, R116, R118) -/

/-- The stream set of a tower can run its work (08 R254). -/
def Module.towerRuns (m : Module) (desc : Bytes) : Bool :=
  let s := m.streamSet (towerStream desc)
  (s.state == 2 || s.state == 5) && armTower s.header

/-- The charges of gate 1 for a query with home tile h (04 R116, R118). A staged query runs no tower here. -/
def Module.gate1Charges (m : Module) (l : LotData) (q : Query) (h : Nat) : List Charge :=
  let t := if q.params.tower = 0xFF then [] else m.towerCharges q.params.tower q.desc q.start
  let p := m.probeCharge l q.params h q.start q.depth
  t ++ [p] ++ (if q.depth ≤ 3 then [] else
    scanBound l q.params.pWide (scanFrame q.start q.depth) :: rerankCharges l q.params h q.start q.depth q.role q.port q.share)

/-- Count an admission by both gates (04 R130). -/
def Module.admitted (m : Module) : Module :=
  let m := m.count 0x1200 0x08 1
  { m with search := { m.search with lastAdmitted := m.search.lastAdmitted + 1 } }

/-- An earlier query of the session in the batch has received BUSY (04 R108). -/
def Module.busyBefore (m : Module) (q : Query) : Bool := m.search.busy.any (fun p => p.1 == q.session && decide (p.2 < q.id))

/-- The Headgate is draining: n_s has come (02 R54, 04 R108). -/
def Module.draining (m : Module) : Bool := m.clock.drainEnd.isSome && m.clock.drainFrom.all (fun f => decide (f ≤ m.clock.sfc))

/-- Streaming commits more than the frame has, and no query is admitted to the frame (08 R252). -/
def Module.overStreamed (m : Module) (f : Nat) : Bool :=
  let g : Ledger := mGetD (m.openLedger f).search.ledger f {}
  decide (m.lpddrLeft f < g.stream)

/-- Refuse a query of the batch BUSY, and later queries of its session with it (04 R108). -/
def Module.refuseBusy (m : Module) (q : Query) : Module :=
  let m := m.settleQuery q 4
  if q.role = 2 then m else { m with search := { m.search with busy := (q.session, q.id) :: m.search.busy } }

/-- Admit a query past gate 1, or nothing where a charge does not fit (04 R112, R116). -/
def Module.pass1 (m : Module) (l : LotData) (q : Query) : Option Module :=
  let h := m.search.passed % 512
  if q.params.tower ≠ 0xFF ∧ !m.towerRuns q.desc then none
  else match m.tryCharge (m.gate1Charges l q h) with
    | none => none
    | some m =>
      let m := if q.params.tower = 0xFF then m else m.countTower q.params.tower (towerFrames q.desc) q.start
      let q := { q with home := h, stage := 0, q := [], visit := [], due := [], base := [], wide := [], towerAt := 0 }
      some { m with search := { m.search with passed := m.search.passed + 1, live := m.search.live ++ [q] } }

/-- Gate 1 on one new candidate. pos is its position in the batch. -/
def Module.gate1One (m : Module) (pos : Nat) (c : Cand) : Module :=
  let q := { c.query with id := m.search.nextId }
  let m := { m with search := { m.search with nextId := m.search.nextId + 1 } }
  if m.draining then m.refuseBusy (match m.lots.active with
    | some l => { q with lot := l.number }
    | none => q)
  else match m.lots.active with
  | none => if c.malformed then m.settleQuery q 5 else m.settleQuery q 6
  | some l =>
    let q := { q with lot := l.number, attrFrame := scanFrame q.start q.depth, mergeSfc := q.start + q.depth }
    let ok := if q.staged then queryOk l.bytes q.params c.kMax 0 (imgDim l.bytes) (zeros (2 * imgDim l.bytes)) [] q.depth c.flen c.inline_
      else queryOk l.bytes q.params c.kMax q.inputKind c.elems q.input q.desc q.depth c.flen c.inline_
    let entryTower := c.towerAt && q.params.tower != 0xFF && decide (q.depth - 3 < towerFrames q.desc)
    if c.malformed || !ok || entryTower then m.settleQuery q 5
    else if 1048576 ≤ pos ∨ !c.fits ∨ c.unforwarded ∨ (q.role = 1 ∧ !m.inFrames) ∨ (q.role ≠ 2 ∧ m.busyBefore q) ∨ m.overStreamed m.clock.sfc then m.refuseBusy q
    else match m.pass1 l q with
      | some m => if q.depth ≤ 3 then m else m.admitted
      | none => m.refuseBusy q

/-- Restart the affected queries whose cost fits, ahead of new arrivals, oldest admission first (02 R48). -/
def Module.readmit (m : Module) : Module :=
  if m.draining || m.overStreamed m.clock.sfc then m
  else (sortBy (fun (a b : Query) => decide (a.admSfc < b.admSfc ∨ (a.admSfc = b.admSfc ∧ a.id ≤ b.id))) (m.search.live.filter (fun q => q.stage == 4))).foldl
    (fun (m : Module) q => match m.lotOf q.lot with
      | none => m
      | some l =>
        let q' := { q with start := m.clock.sfc, depth := m.clock.depth, deferred := true }
        match (m.dropQuery q.id).pass1 l q' with
        | some m => m
        | none => m) m

/-! ## Preparation and probe (04 R123 to R126) -/

/-- The input of preparation, as exact values: the tower's outputs, or the BF16 input; none before they are here, and
the inner none where a value is not finite (04 R124). -/
def Module.prepInput (m : Module) (l : LotData) (q : Query) : Option (Option (List Rat)) :=
  let fp (vs : List Nat) : Option (List Rat) := if vs.all fp32.isFin then some (vs.map fp32.val) else none
  if q.staged then q.towerOut.map fp
  else if q.params.tower = 0xFF then some (some ((inputBf16 q.input (imgDim l.bytes)).map bf16.val))
  else
    let n := imgDim l.bytes
    let bs := m.lpRead q.towerAt (4 * n)
    some (fp ((List.range n).map (fun i => leAt bs (4 * i) 4)))

/-- The owner tiles of a visit set. -/
def ownersOf (l : LotData) (visit : List Nat) : List Nat :=
  sortBy (fun (a b : Nat) => decide (a ≤ b)) (dedup (visit.map (fun i => l.owner.getD i 0)))

/-- A query leaves the probe for its scan: its owners are due, and its lists are counted as visited (06 R184). -/
def Module.enterScan (m : Module) (l : LotData) (q : Query) : Module :=
  let m := m.onQuery q.id (fun q => { q with stage := if q.visit.isEmpty then 2 else 1, due := ownersOf l q.visit })
  m.onLot q.lot (fun x => { x with visits := q.visit.foldl (fun v i => mAdd v i 1) x.visits })

/-- Prepare and probe one query in its preparation frame (04 R124 to R126); at depth 4 and above it then waits for its
scan. -/
def Module.prepare1 (m : Module) (q : Query) : Module :=
  match m.lotOf q.lot with
  | none => m
  | some l => match m.prepInput l q with
    | none => m
    | some none => m.settleQuery q 5
    | some (some xs) => match prepare l.bytes xs with
      | none => m.settleQuery q 5
      | some r =>
        let w := probePool l.bytes r.q r.q2 q.params
        let q := { q with q := r.q, q2 := r.q2, sketch := r.sketch, visit := (w.2.take q.params.pWide).map (·.num) }
        let m := m.onQuery q.id (fun _ => q)
        if !l.graphResident && w.1.any (fun i => m.lotPoisoned q.lot (imgCentOff l.bytes i) (imgCent l.bytes)) then
          (m.onQuery q.id (fun q => { q with stage := 4 })).count 0x4000 0x14 1
        else if q.depth ≤ 3 then m else m.enterScan l q

/-- The queries that prepare in the current frame, tower queries or the others. -/
def Module.prepareDue (m : Module) (towers : Bool) : Module :=
  (m.search.live.filter (fun q => q.stage == 0 && q.q.isEmpty && probeFrame q.start q.depth == m.clock.sfc
    && ((q.params.tower != 0xFF || q.staged) == towers))).foldl Module.prepare1 m

/-! ## Gate 2 (04 R117) -/

/-- Gate 2 on one query: its visits and its charges, or BUSY; an affected query that does not fit stays affected
(02 R48). -/
def Module.gate2One (m : Module) (q : Query) : Module :=
  match m.lotOf q.lot with
  | none => m
  | some l =>
    let f := scanFrame q.start q.depth
    let fail (m : Module) := if q.deferred then m.onQuery q.id (fun q => { q with stage := 4 }) else m.refuseBusy q
    if q.role ≠ 2 ∧ !q.deferred ∧ m.busyBefore q then fail m
    else
      let m := m.openLedger f
      match m.tryCharge (m.scanCharge l q.visit q.attrFrame f :: rerankCharges l q.params q.home q.start q.depth q.role q.port q.share) with
      | none => fail m
      | some m =>
        let m := if q.deferred then m else m.admitted
        (m.countVisits q.lot q.attrFrame f q.visit).enterScan l q

/-- Gate 2 of the current batch, once its last probe has finished. -/
def Module.runGate2 (m : Module) : Module :=
  if m.search.gate2 ∨ !m.search.gate1 then m
  else
    let m := m.prepareDue true
    let qs := m.search.live.filter (fun q => q.stage == 0 && decide (q.depth ≤ 3) && q.start == m.clock.sfc && !q.q.isEmpty)
    let m := qs.foldl Module.gate2One m
    { m with search := { m.search with gate2 := true } }

/-! ## Towers (08 R257, log 34) -/

/-- Bytes between two inputs of a tower. -/
def towerStride (desc : Bytes) : Nat := roundUp (leAt desc 14 2 * (if leAt desc 13 1 = 1 then 4 else 2)) 64

/-- Where the supervisor keeps the inputs of a batch of a tower set: eighths of the set's LPDDR5X range in turn. -/
def towerArea (s : StreamSet) (batch : Nat) : Nat := armLpBase s.header + batch % 8 * (armLpBytes s.header / 512 * 64)

/-- Write a batch's tower inputs, and note where the outputs go. -/
def Module.towerInputs (m : Module) (tower : Nat) : Module :=
  let desc := m.tower tower
  let s := m.streamSet (towerStream desc)
  let qs := m.search.live.filter (fun q => q.params.tower == tower && q.start == m.clock.sfc && q.stage == 0 && q.towerAt == 0 && !q.staged)
  let base := towerArea s m.clock.sfc
  let out := base + qs.length * towerStride desc
  (qs.zip (List.range qs.length)).foldl (fun (m : Module) p =>
    (m.lpWrite (base + p.2 * towerStride desc) (fit p.1.input (towerStride desc))).onQuery p.1.id
      (fun q => { q with towerAt := out + 4 * towerOutDim desc * p.2 })) m

/-- The re-arm that the supervisor gives a TOWER set in frame n: B13, B14 and B15 of the oldest batch whose tower frame
it is, and the frame index; none where no query needs the tower. -/
def Module.towerRearm (m : Module) (id : Nat) : Option (Nat × Nat × Nat × Nat) :=
  (List.range 15).findSome? (fun i =>
    let desc := m.tower (i + 1)
    if towerStream desc ≠ id ∨ !(leAt desc 0 4).testBit 0 then none
    else
      let n := m.clock.sfc
      let qs := m.search.live.filter (fun q => q.params.tower == i + 1 && q.stage == 0 && !q.staged && decide (q.start ≤ n ∧ n < q.start + towerFrames q.desc))
      match qs.map (·.start) with
      | [] => none
      | a :: r =>
        let b := listMin a r
        let c := (qs.filter (fun q => q.start == b)).length
        let base := towerArea (m.streamSet id) b
        some (base, base + c * towerStride desc, n - b, c))

/-! ## Gate 1 as a whole -/

/-- Gate 1 of the latest tick: re-admissions, the batch in admission order, towers, and the first preparations. It waits
while a multicast batch of the tick is undecided (14 R409). -/
def Module.runGate1 (m : Module) : Module :=
  if m.search.gate1 then m
  else if m.cascade.batches.any (fun b => b.sfc == m.clock.sfc && m.receives b && b.verdict == 0) then m
  else
    let local_ := m.search.batch.flatMap (m.arrivalCands m.clock.sfc)
    let multi := (m.cascade.batches.filter (fun b => b.sfc == m.clock.sfc && b.verdict == 1)).flatMap m.batchCands
    let cs := sortBy (fun (a b : Cand) => orderLe a.order b.order) (local_ ++ multi)
    let m := { m with search := { m.search with batch := [], gate1 := true, gate2 := false, busy := [], passed := 0
                                                lastBatch := cs.length, lastAdmitted := 0 } }
    let m := m.readmit
    let m := (cs.zip (List.range cs.length)).foldl (fun (m : Module) p => m.gate1One p.2 p.1) m
    let m := (List.range 15).foldl (fun (m : Module) i => m.towerInputs (i + 1)) m
    m.prepareDue false

end Sys2Proof.Machine
end

