-- ==== Sys2Proof/Machine/SearchOps.lean ====
section
/-! DEFINITION. The scan, the re-rank and the merge as the module runs them (05 R133, R141 to R161), and the arrival of
messages on QUERY sessions (04 R102 to R107, 14 R407). -/

namespace Sys2Proof.Machine

/-! ## Messages (04 R102 to R105) -/

/-- Take the oldest whole message of a session. -/
def Module.takeMessage (m : Module) (s : Nat) : Option ((Nat × Bytes) × Module) :=
  match m.session s with
  | none => none
  | some x => match x.unparsed with
    | [] => none
    | a :: r => some (a, m.setSession s { x with unparsed := r })

/-- A message is discarded without a completion (04 R105, 06 R175). -/
def Module.discard (m : Module) (s : Nat) : Module := (m.count 0x1200 0x12 1).event 0x0002 2 s

/-- The overrides that a SET_DEFAULTS message leaves (04 R103). -/
def newOverrides (b : Bytes) (ov : List (Nat × Nat)) : List (Nat × Nat) :=
  [(0, msgK b), (1, msgProbe b), (2, msgRerank b), (3, msgWiden b), (4, msgWidth b), (5, msgArith b), (6, msgMetric b), (7, msgTower b)].foldl
    (fun ov p => if p.2 = 0 then ov else mPut ov p.1 (if p.1 = 3 ∧ p.2 = 0xFFFF then 0 else p.2)) ov

/-- A SET_DEFAULTS message takes effect, and its completion waits for its arrival tick (04 R103). -/
def Module.takeDefaults (m : Module) (s : Nat) (b : Bytes) : Module :=
  match m.session s with
  | none => m
  | some x =>
    if msgDiscarded b x.slots then m.discard s
    else
      let bad := defaultsInvalid b x.kMax
      let m := if bad then m else m.onSession s (fun x => { x with
        overrides := newOverrides b x.overrides
        filter := if msgFilterSel b = 1 then some [] else if msgFilterSel b = 2 then some (msgFilter b) else x.filter })
      { m with search := { m.search with defaultsDue := m.search.defaultsDue ++ [(s, msgSlot b, if bad then 5 else 0, m.clock.next)] } }

/-- Forward the queries of a message to the receivers of their batch (14 R407). -/
def Module.forwardQueries (m : Module) (g : Nat) (a : Arrival) : Module :=
  let n := m.clock.sfc + 1
  match m.cascade.own.find? (fun o => o.group == g && o.sfc == n) with
  | none => m
  | some o =>
    let b := a.msg
    let tower := effective (msgTower b) a.overrides 7 (m.cfg 0x2100 0x08)
    let staged := mapTowerAt (m.shardMap g) && tower != 0xFF
    let t0 := m.search.batchTag
    let m := (List.range (msgCount b)).foldl (fun (m : Module) i =>
      m.sendRecord o.set_ 13 g (t0 + i) (queryRecord m.device g (t0 + i) a.time i b a.overrides a.filter staged)) m
    let masked := msgFilterSel b == 0 && a.filter.isNone
    { m with
      search := { m.search with batchTag := t0 + msgCount b }
      cascade := { m.cascade with own := m.cascade.own.map (fun x => if x.group = g ∧ x.sfc = n then { x with tags := x.tags + msgCount b, masked := x.masked || masked } else x) } }

/-- A QUERY message joins the batch of the tick that follows its arrival (04 R104 to R107). -/
def Module.takeQuery (m : Module) (s arrival : Nat) (b : Bytes) : Module :=
  match m.session s with
  | none => m
  | some x =>
    if msgDiscarded b x.slots then m.discard s
    else
      let n := if 1 ≤ msgCount b ∧ msgCount b ≤ 64 then msgCount b else 1
      let group := m.portGroup x.port
      let send := group.isSome && m.inFrames && !msgMalformed b false && m.cascade.own.any (fun o => some o.group == group && o.sfc == m.clock.sfc + 1)
      let a : Arrival := { time := arrival, port := x.port, session := s, order := (m.search.arrivals.filter (fun y => y.session == s)).length
                           msg := b, overrides := x.overrides, filter := x.filter, fits := min n (m.cfg 0x1200 0x02 - x.outstanding)
                           group := group, tag := if send then some m.search.batchTag else none }
      let m := m.setSession s { x with outstanding := x.outstanding + n }
      let m := match group with
        | some g => if send then m.forwardQueries g a else m
        | none => m
      { m with search := { m.search with arrivals := m.search.arrivals ++ [a] } }

/-! ## The scan (05 R133, R141 to R144) -/

/-- The visitors of a list in the current frame with one attribute frame, in admission order (05 R133). -/
def Module.visitors (m : Module) (lot i attr : Nat) : List Query :=
  m.search.live.filter (fun q => (q.stage == 1 || q.stage == 2) && q.lot == lot && q.attrFrame == attr && scanFrame q.start q.depth == m.clock.sfc
    && q.visit.contains i)

/-- Of each member of a group and record of a list: does the record displace an entry to the member's tail (05 R142)? -/
def passMoves (hist : List OldWord) (l : LotData) (tile i : Nat) (q : Query) : List Bool :=
  let base := (q.visit.zip (List.range q.visit.length)).any (fun x => x.1 == i && decide (x.2 < q.params.p))
  let lp := min (32 * ceilDiv q.params.c 32) (imgSketch l.bytes / 2)
  let earlier := (tileLists l q.visit q.params.p tile).filter (fun x => decide (x.1 < i) && x.2 == base)
  let set := earlier.foldl (fun s x => mergeKeys q.params.c s (listCands hist l q.sketch q.attrFrame q.params.filter x.1).1) []
  let cands := (listRecords l.bytes i).map (fun r =>
    let w := attrAt hist l (imgRecOrd l.bytes r.1 r.2) q.attrFrame
    if w.testBit 63 || !filterPass q.params.filter w then none else some (recordKey l.bytes q.sketch r.1 r.2))
  tailMoves lp q.params.c cands set

/-- Clocks that one pass holds the SKE: for each record, ceil(e ÷ 16) - 1 where e > 16 entries move (05 R142). -/
def passStall (hist : List OldWord) (l : LotData) (tile i : Nat) (group : List Query) : Nat :=
  let rows := group.map (passMoves hist l tile i)
  (List.range (listRecs l.bytes i)).foldl (fun n r =>
    let e := (rows.filter (fun x => x.getD r false)).length
    n + (if 16 < e then ceilDiv e 16 - 1 else 0)) 0

/-- Count the passes that a query opens on a tile: it is the first member of a resident query group (05 R133, R142). -/
def Module.countPasses (m : Module) (l : LotData) (q : Query) (tile : Nat) : Module :=
  (tileLists l q.visit q.params.p tile).foldl (fun (m : Module) x =>
    let vs := m.visitors q.lot x.1 q.attrFrame
    let qw := queriesPerPass (imgSketch l.bytes)
    let k := vs.findIdx (fun v => v.id == q.id)
    if k % qw ≠ 0 then m
    else (m.count 0x30F0 0x09 1).count 0x30F0 0x0A (passStall m.lots.history l tile x.1 ((vs.drop k).take qw))) m

/-- A staged list of a query on a tile holds poisoned records (12 Table 12-6). -/
def Module.stagedPoison (m : Module) (l : LotData) (q : Query) (tile : Nat) : Bool :=
  let r := imgRec l.bytes
  (tileLists l q.visit q.params.p tile).any (fun x => !l.resident.getD x.1 false
    && (m.lotPoisoned q.lot (imgOff l.bytes 4 + r * imgPriFirst l.bytes x.1) (r * imgPriCount l.bytes x.1)
      || m.lotPoisoned q.lot (imgOff l.bytes 5 + r * imgSecFirst l.bytes x.1) (r * imgSecCount l.bytes x.1)))

/-- A tile's contribution reaches a query's home tile and is merged (05 R143, R144). -/
def Module.contribute (m : Module) (id tile : Nat) (measured : List (Nat × Nat × Nat)) : Module :=
  match m.query id with
  | none => m
  | some q => match m.lotOf q.lot with
    | none => m
    | some l =>
      if q.stage ≠ 1 ∨ scanFrame q.start q.depth ≠ m.clock.sfc ∨ !q.due.contains tile ∨ (m.tileHealth tile).state = 1 then m
      else if m.stagedPoison l q tile then (m.onQuery id (fun q => { q with stage := 4 })).count 0x4000 0x14 1
      else
        let m := m.countPasses l q tile
        let r := localSets m.lots.history l q tile
        let dup := Config.freeValue m.fresh % (2 * secondRecords l q tile + 1)
        let m := ((m.count 0x30F0 0x06 r.2.2).count 0x30F0 0x07 dup).drawn
        let due := q.due.filter (fun t => t != tile)
        let m := m.onQuery id (fun q => { q with
          base := mergeKeys q.params.c q.base r.1, wide := mergeKeys q.params.c q.wide r.2.1, due := due, stage := if due.isEmpty then 2 else 1 })
        measured.foldl (fun (m : Module) x => m.measure q.lot x.1 x.2.1 x.2.2) m

/-! ## Re-rank and completion (05 R149 to R156) -/

/-- Image ranges that the re-rank of an ordinal reads: row, side list, key (05 R149). -/
def rerankReads (b : Bytes) (o : Nat) : List (Nat × Nat) :=
  [(imgRowOff b o, imgRow b), (imgOff b 8 + 4 * imgRowSide b o, 4 * imgRowEsc b o), (imgOff b 11 + 8 * o, 8)]

/-- Status of a shard answer (05 R155, Table 05-6). -/
def answerStatus (q : Query) (count : Nat) : Nat := if q.deferred then 3 else if count < q.params.k then 1 else 0

/-- A shard answer of this module goes to its entry module, or waits here for the merge. -/
def Module.giveAnswer (m : Module) (q : Query) (a : Bytes) : Module :=
  if q.role = 2 then (m.sendAnswer q.entryDev q.tag a).dropQuery q.id
  else
    let h : Answer := { entryTag := q.tag, sfc := q.admSfc, device := m.device, shard := leAt a 9 1, header := a.take 64, recs := a.drop 64 }
    { m.onQuery q.id (fun q => { q with stage := 3 }) with search := { (m.onQuery q.id (fun q => { q with stage := 3 })).search with
        answers := m.search.answers ++ [h] } }

/-- The re-rank of one query in its re-rank frame (05 R149, R155). -/
def Module.rerank (m : Module) (id : Nat) : Module :=
  match m.query id with
  | none => m
  | some q => match m.lotOf q.lot with
    | none => m
    | some l =>
      if q.stage ≠ 2 ∨ rerankFrame q.start q.depth ≠ m.clock.sfc then m
      else
        let b := l.bytes
        let bad := (q.rerankSet.1.flatMap (fun k => rerankReads b (k % 2 ^ 35))).filter (fun r => m.lotPoisoned q.lot r.1 r.2)
        let m := if q.rerankSet.2 then m.count 0x30F0 0x08 1 else m
        let m := m.count 0x4000 0x14 bad.length
        if !bad.isEmpty then
          if q.role = 0 then m.settleQuery q 7
          else m.giveAnswer q (bareAnswer 7 m.device (imgShard b) q.tag q.lot)
        else if q.role = 0 then (m.dropQuery id).postQuery q.session q.slot (q.result b m.device)
        else
          let n := min q.params.k q.rerankSet.1.length
          m.giveAnswer q (q.answer b m.device (answerStatus q n))

/-- The entry module merges the answers of one query, and posts it (05 R158 to R161, 14 R411, R413). -/
def Module.mergeQuery (m : Module) (q : Query) : Module :=
  match m.lotOf q.lot with
  | none => m
  | some l =>
    let ok := (m.cascade.own.filter (fun o => o.group == q.group && o.sfc == q.admSfc)).flatMap (·.accepted)
    let mine (a : Answer) : Bool := a.entryTag == q.tag && a.sfc == q.admSfc
    let as := m.search.answers.filter (fun a => mine a && (a.device == m.device || ok.contains a.device))
    let r := q.merged (imgMetric l.bytes) (imgShards l.bytes) as
    let m := ((m.dropQuery q.id).count 0x30F0 0x0B r.2).postQuery q.session q.slot r.1
    { m with search := { m.search with answers := m.search.answers.filter (fun a => !mine a) } }

/-- After the merge cut-off, every query of the entry that is due is merged (14 R411). -/
def Module.cascadeMerge (m : Module) : Module :=
  let late := decide (m.clock.tickTime m.clock.sfc + m.cfg 0x4200 0x13 ≤ m.clock.now)
  (m.search.live.filter (fun q => q.role == 1 && (decide (q.mergeSfc < m.clock.sfc) || (q.mergeSfc == m.clock.sfc && late)))).foldl Module.mergeQuery m

/-! ## Receivers (14 R409, R412) -/

/-- A receiver decides a batch at its cut-off (14 R409). -/
def Module.decideBatch (m : Module) (b : Batch) : Module :=
  let ok := b.whole && m.inFrames
  let m := m.onBatch b.entry b.group b.sfc (fun b => { b with verdict := if ok then 1 else 2 })
  let d := batchDone (if ok then 0 else 1) b.group b.sfc
  let m := (m.sendTo b.entry 11 d.1 d.2).1
  if ok then m else m.count 0x4200 0x18 1

/-- A batch of the tick is decided (14 R409). -/
def Module.acceptBatch (m : Module) (entry group : Nat) : Module :=
  match m.batchOf entry group m.clock.sfc with
  | none => m
  | some b => if !m.receives b || b.verdict ≠ 0 then m else m.decideBatch b

/-- Give staged queries the tower outputs that have arrived whole (14 R412). -/
def Module.fillTowers (m : Module) : Module :=
  { m with search := { m.search with live := m.search.live.map (fun q =>
      if q.staged && q.towerOut.isNone then match m.batchOf q.entryDev q.group q.admSfc, m.lotOf q.lot with
        | some b, some l => { q with towerOut := b.towerVals q.tag (imgDim l.bytes) }
        | _, _ => q
      else q) } }

/-- Staged queries that lack their outputs at the cut-off are dropped (14 R412). -/
def Module.towerLate (m : Module) : Module :=
  let cut (q : Query) := m.clock.tickTime (probeFrame q.start q.depth) + m.cfg 0x4200 0x13
  let due := m.search.live.filter (fun q => q.staged && q.towerOut.isNone && decide (probeFrame q.start q.depth ≤ m.clock.sfc) && decide (cut q ≤ m.clock.now))
  due.foldl (fun (m : Module) q => (m.dropQuery q.id).count 0x4200 0x19 1) m

/-- An entry that runs towers sends their outputs before the preparation frame (14 R412). -/
def Module.sendTowers (m : Module) : Module :=
  let due := m.search.live.filter (fun q => q.role == 1 && q.params.tower != 0xFF && mapTowerAt (m.shardMap q.group) && q.stage == 0
    && probeFrame q.start q.depth == m.clock.sfc + 1)
  due.foldl (fun (m : Module) q => match m.cascade.own.find? (fun o => o.group == q.group && o.sfc == q.admSfc) with
    | some o => m.sendRecord o.set_ 15 q.group q.tag (m.lpRead q.towerAt (4 * towerOutDim q.desc))
    | none => m) m

/-! ## Deferred queries (02 R49) -/

/-- Affected queries past their limit complete FAULT. -/
def Module.deferExpiry (m : Module) : Module :=
  (m.search.live.filter (fun q => (q.stage == 4 || q.deferred) && decide (q.admSfc + m.cfg 0x1100 0x17 ≤ m.clock.sfc))).foldl
    (fun (m : Module) q => m.settleQuery q 7) m

end Sys2Proof.Machine
end

