-- ==== Sys2Proof/Machine/LotOps.lean ====
section
/-! DEFINITION. The Lot library and Lots in LPDDR5X (06 R165 to R176): loading, staging, switching, what is freed and
when, attribute logs, and where a Lot's copy lies in the managed region (log 45). -/

namespace Sys2Proof.Machine

/-! ## Loads (06 R167, R168, R176) -/

/-- cap[t] of every tile under the SLICE_RESERVE_BYTES in force (03 R93). -/
def Module.lotCaps (m : Module) : List Nat := (List.range 512).map (capOf (m.cfg 0x2000 0x12))

/-- A user stream set holds Weir lists (08 R250). -/
def Module.weirTaken (m : Module) : Bool := m.streams.sets.any (fun p => armWeirCount p.2.header != 0)

/-- The words of an attribute log that differ from the image's, once replayed (06 R176). -/
def replayLog (b : Bytes) (log : List (Nat × Nat)) : List (Nat × Nat) :=
  log.foldl (fun ws p => mPutZ ws p.1 p.2 (imgRecAttr b 4 p.1)) []

/-- The refusals of a LOT_LOAD, 0 for none (06 R168). -/
def Module.loadCheck (m : Module) (n : Nat) : Nat :=
  match mGet m.lots.library n with
  | none => 33
  | some x =>
    if m.lots.staged.isSome then 34
    else if m.lots.loadState = 1 then 35
    else if m.lots.active.any (fun l => l.number == n) then 36
    else if m.managedFree < imgLoadBytes x.bytes then 32
    else 0

/-- A load ends without a staged Lot: its memory is free, and the event says so (06 R167). -/
def Module.loadFailed (m : Module) (n : Nat) : Module :=
  ({ m with lots := { m.lots with loadState := 3, loading := 0 } }).event 0x0003 2 (put n 32 32 + put 3 8 0)

/-- A load begins, unless a user stream holds Weir lists (06 R167, 08 R250). -/
def Module.startLoad (m : Module) (n why : Nat) : Module :=
  let m := { m with lots := { m.lots with loadFor := why } }
  if m.weirTaken then m.loadFailed n else { m with lots := { m.lots with loadState := 1, loading := n, loadProgress := 0 } }

/-- The Lot that a verified image and its log make (03 R93 to R96, 06 R176). -/
def Module.lotData (m : Module) (x : LotImage) (p : Placed) : LotData :=
  { number := imgLot x.bytes, bytes := x.bytes, words := replayLog x.bytes x.log, owner := p.owner, resident := p.resident
    graphResident := p.graph, caps := m.lotCaps }

/-- A Lot becomes the staged Lot; a copy that is new holds no poisoned burst. -/
def Module.stageLot (m : Module) (l : LotData) : Module :=
  { m with lots := { m.lots with staged := some l, loadState := 2, loading := 0 } }

/-- The running load ends: copied, verified and placed, or failed; the answer says which (06 R167, 03 R90). -/
def Module.endLoad (m : Module) (readOk : Bool) : Module × Bool :=
  let n := m.lots.loading
  match (if readOk then mGet m.lots.library n else none) with
  | none => (m.loadFailed n, false)
  | some x =>
    let p := placeImage x.bytes m.lotCaps
    let code := imgVerify x.bytes m.boot.ownerKey (m.cfgB 0x2000 0x10) (m.cfgB 0x2000 0x11) p
    let m := { m with lots := { m.lots with verifyLast := code, loadProgress := imgLoadBytes x.bytes } }
    if code ≠ 0 then
      (((m.count 0x2000 0x19 1).event 0x0003 1 (put n 32 32 + put code 8 0)).loadFailed n, false)
    else
      let m := { m with mem := { m.mem with lotPoison := m.mem.lotPoison.filter (fun p => p.1 != n) } }
      ((m.stageLot (m.lotData x p)).event 0x0003 2 (put n 32 32 + put 2 8 0), true)

/-! ## The phases of a start -/

/-- START_STATE as the phases run: LOADING while the start-up load runs, SERVING_NO_LOT from the first tick, SERVING
once a Lot was active (17 Table 17-2). -/
def Module.notePhase (m : Module) : Module :=
  let p := m.boot.startState
  if p < 2 ∨ p = 5 then m
  else
    let q := if m.clock.ticked ∧ m.lots.active.isSome then 5
      else if m.lots.loadState = 1 ∧ 2 ≤ m.lots.loadFor then 4
      else if m.clock.ticked then 3 else p
    { m with boot := { m.boot with startState := q } }

/-! ## Bound queries and what is freed (03 R79, 06 R173) -/

/-- A query bound to a Lot has not completed (03 R79). -/
def Module.lotBound (m : Module) (n : Nat) : Bool := m.search.live.any (fun q => q.lot == n)

/-- A superseded Lot is kept: a query is bound to it, or it is the latest superseded one under HOLD_PREVIOUS
(03 R79, 06 R173). -/
def Module.keepsLot (m : Module) (n : Nat) : Bool := m.lotBound n || (m.cfgB 0x2000 0x47 && n == m.lots.previous)

/-- Free the superseded Lots that are not kept, and note which is held (03 R79, 06 R173). -/
def Module.freeLots (m : Module) : Module :=
  let r := m.lots.retained.filter (fun l => m.keepsLot l.number)
  { m with lots := { m.lots with
      retained := r
      held := match r.find? (fun l => !m.lotBound l.number) with
        | some l => l.number
        | none => 0 } }

/-- The staged Lot is freed; a superseded Lot that a rollback staged stays retained while queries are bound to it, and
its attribute writes still wait (06 R169). -/
def Module.unstage (m : Module) : Module :=
  match m.lots.staged with
  | none => m
  | some l =>
    let keep := m.lotBound l.number
    { m with
      lots := { m.lots with staged := none, loadState := 0, retained := if keep then m.lots.retained ++ [l] else m.lots.retained
                            words := if keep then m.lots.words else m.lots.words.filter (fun w => w.lot != l.number) }
      boot := { m.boot with startupSwitch := false } }

/-- PREVIOUS_LOT is still loaded, as a retained or held Lot (06 R173). -/
def Module.retainedLot (m : Module) (n : Nat) : Option LotData := m.lots.retained.find? (fun l => l.number == n)

/-- A retained Lot is staged again without a load (06 R173). -/
def Module.restage (m : Module) (l : LotData) : Module :=
  ({ m with lots := { m.lots with retained := m.lots.retained.filter (fun x => x.number != l.number)
                                  held := if m.lots.held = l.number then 0 else m.lots.held } }).stageLot l

/-! ## Switches (06 R170 to R172) -/

/-- A switch is pending in this module's schedule. -/
def Module.switchPending (m : Module) : Bool := m.schedule.any (fun a => a.kind == 5)

/-- What a KIND 5 action asks for can be applied (06 R171). -/
def Module.switchOk (m : Module) (v : Nat) : Bool :=
  v == 0 || (m.lots.staged.any (fun l => l.number == v) && decide (m.lots.retained.length < 8))

/-- The attribute words of a Lot that waited for it to become active (03 R76). -/
def Lots.activate (x : Lots) (l : LotData) (n : Nat) : LotData :=
  { l with words := (x.words.filter (fun w => w.lot == l.number && decide (w.target ≤ n))).foldl
             (fun ws w => mPutZ ws w.ordinal w.word (imgRecAttr l.bytes 4 w.ordinal)) l.words
           interval := n, visits := [], figures := [] }

/-- Apply a Lot switch at tick n (06 R171, R173). -/
def Module.switchLot (m : Module) (v n : Nat) : Module :=
  if !m.switchOk v then (m.count 0x2000 0x4D 1).event 0x0003 3 v
  else
    let x := m.lots
    let old := x.active
    let now := if v = 0 then none else x.staged.map (fun l => x.activate l n)
    { m with lots := { x with
        active := now, activeSince := n
        staged := if v = 0 then x.staged else none
        loadState := if v = 0 then x.loadState else 0
        retained := match old with
          | some l => x.retained ++ [{ l with since := n }]
          | none => x.retained
        previous := match old with
          | some l => l.number
          | none => x.previous
        committed := v
        words := if v = 0 then x.words else x.words.filter (fun w => !(w.lot == v && decide (w.target ≤ n))) } }

/-- The builder's or the start-up's own switch of the staged Lot, at the earliest frame permitted (06 R186, 17 R486). -/
def Module.ownSwitch (m : Module) (v : Nat) : Module :=
  if m.health.unsparable ∨ m.switchPending ∨ m.hostFull then m.event 0x0003 3 v
  else m.place { kind := 5, arg := v, target := m.leadFrame, host := true }

/-! ## Coverage of a cascade switch (06 R172) -/

/-- This module as the master reads it. -/
def Module.ownMember (m : Module) : MemberLot :=
  { device := m.device
    staged := match m.lots.staged with
      | some l => l.number
      | none => 0
    shard := match m.lots.staged with
      | some l => imgShard l.bytes
      | none => 0
    shards := match m.lots.staged with
      | some l => imgShards l.bytes
      | none => 0
    committed := m.lots.committed
    active := match m.lots.active with
      | some l => l.number
      | none => 0 }

/-- The modules that have V staged: this one, and the others as read by remote access. -/
def Module.withStaged (m : Module) (members : List MemberLot) (v : Nat) : List MemberLot :=
  (m.ownMember :: members.filter (fun x => m.mates.contains x.device)).filter (fun x => x.staged == v)

/-- The modules with V staged cover every shard index. -/
def coversShards (l : List MemberLot) : Bool :=
  match l with
  | [] => false
  | x :: _ => (List.range x.shards).all (fun i => l.any (fun y => y.shard == i))

/-! ## The attribute log (06 R175, R176) -/

/-- Append entries to a Lot's attribute log. -/
def Module.appendLog (m : Module) (lot : Nat) (es : List (Nat × Nat)) : Module :=
  { m with lots := { m.lots with library := mMod m.lots.library lot (fun x => { x with log := x.log ++ es }) } }

/-- The log has room for n entries more, with an extent free where one is needed (15 R422). -/
def Module.logRoom (m : Module) (lot n : Nat) : Bool :=
  match mGet m.lots.library lot with
  | none => false
  | some x => decide (x.log.length + n ≤ 1073741824) && decide (logSpace (x.log.length + n) - logSpace x.log.length ≤ m.libraryFree)

/-! ## Where a Lot's copy lies (12 R356, log 45) -/

/-- Bytes of a Lot's copy before a section: its sections follow one another in ascending TYPE. -/
def copyBase (b : Bytes) (t : Nat) : Nat := ((imgSecs b).filter (fun s => decide (s.typ < t))).foldl (fun a s => a + s.len) 0

/-- The offset in the image of a byte of the copy. -/
def copyToImage (b : Bytes) (p : Nat) : Option Nat :=
  ((imgSecs b).find? (fun s => s.typ != 14 && decide (copyBase b s.typ ≤ p ∧ p < copyBase b s.typ + s.len))).map
    (fun s => s.off + (p - copyBase b s.typ))

/-- The offset in the copy of a byte of the image. -/
def imageToCopy (b : Bytes) (o : Nat) : Nat :=
  match (imgSecs b).find? (fun s => decide (s.off ≤ o ∧ o < s.off + s.len)) with
  | some s => copyBase b s.typ + (o - s.off)
  | none => 0

/-- The Lots in LPDDR5X with the local offset of each copy: the managed region is allocated from the top downward, the
start-up allocations first (12 R356, log 45). -/
def Module.lotBases (m : Module) : List (LotData × Nat) :=
  ((m.lots.active.toList ++ m.lots.staged.toList ++ m.lots.retained).foldl
    (fun (a : List (LotData × Nat) × Nat) l => (a.1 ++ [(l, a.2 - l.space)], a.2 - l.space))
    ([], m.lpddrUsable - (historySpace + pipelineSpace + writeCacheSpace))).1

end Sys2Proof.Machine
end

