-- ==== Sys2Proof/Machine/Lots.lean ====
section
/-! DEFINITION. Meanings of the Lot rows (06 R166 to R176, 12 R363). -/

namespace Sys2Proof.Machine

/-! ## Loading and staging (06 R167 to R169, R173) -/

/-- A write of LOT_LOAD executes (06 R167, R168). -/
def Module.runLotLoad (m : Module) (r : VReq) (c : Client) : Module :=
  m.checked r c (fun m _ v => m.untargeted r (fun m =>
    let n := leNat v
    let e := if m.health.unsparable then 80 else m.loadCheck n
    if e ≠ 0 then m.refuse r e else (m.startLoad n 0).ack r 0))

/-- LOT_LOAD. -/
def lotLoad (t : Nat) (m : Module) : Module := m.serve t (fun r _ => r.writes 0x2000 0x40) Module.runLotLoad
/-- LOT_LOAD. -/
def execLotLoad (t : Nat) (s : State) : Host.Outcome State Fault Refusal := .next { s with m := lotLoad t s.m }

/-- The start-up load of one Lot, when the library holds it and it fits (17 R485). -/
def Module.startupLoad (m : Module) (n why : Nat) : Option Module :=
  if n = 0 ∨ m.loadCheck n ≠ 0 then none else some (m.startLoad n why)

/-- No start-up Lot is staged (17 R485). -/
def Module.startupFailed (m : Module) (n : Nat) : Module :=
  ({ m with boot := { m.boot with startupLot := 0, startupResult := 3 } }).event 0x0003 6 (put n 32 32 + put 3 8 0)

/-- Fall back to PREVIOUS_LOT (17 R485). -/
def Module.startupFallback (m : Module) : Module :=
  match m.startupLoad m.lots.previous 3 with
  | some x => x.event 0x0003 6 (put m.lots.previous 32 32 + put 2 8 0)
  | none => m.startupFailed m.lots.committed

/-- What follows the end of a load, by what asked for it (06 R186, 17 R485, R486). -/
def Module.afterLoad (m : Module) (n : Nat) (ok : Bool) : Module :=
  match m.lots.loadFor with
  | 1 => if ok && !m.inCascadeConfig then m.ownSwitch n else m
  | 2 => if ok then { m with boot := { m.boot with startupLot := n, startupSwitch := true } } else m.startupFallback
  | 3 => if ok then { m with boot := { m.boot with startupLot := n, startupSwitch := true } } else m.startupFailed n
  | _ => m

/-- LOAD_DONE: the running load has read its last byte, or the read failed (06 R167). -/
def loadDone (t : Nat) (readOk : Bool) (m : Module) : Module :=
  let m := m.at t
  if m.lots.loadState ≠ 1 then m
  else
    let n := m.lots.loading
    let x := m.endLoad readOk
    (x.1.afterLoad n x.2).notePhase
/-- LOAD_DONE. -/
def execLoadDone (t : Nat) (readOk : Bool) (s : State) : Host.Outcome State Fault Refusal := .next { s with m := loadDone t readOk s.m }

/-- A write of LOT_UNSTAGE executes (06 R169). -/
def Module.runLotUnstage (m : Module) (r : VReq) (c : Client) : Module :=
  m.checked r c (fun m _ _ => m.untargeted r (fun m =>
    match m.lots.staged with
    | none => m.refuse r 39
    | some l =>
      if m.schedule.any (fun a => a.kind == 5 && a.arg == l.number) then m.refuse r 37 else m.unstage.ack r m.clock.sfc))

/-- LOT_UNSTAGE. -/
def lotUnstage (t : Nat) (m : Module) : Module := m.serve t (fun r _ => r.writes 0x2000 0x43) Module.runLotUnstage
/-- LOT_UNSTAGE. -/
def execLotUnstage (t : Nat) (s : State) : Host.Outcome State Fault Refusal := .next { s with m := lotUnstage t s.m }

/-- A write of LOT_ROLLBACK executes: PREVIOUS_LOT is staged, without a load when it is held or retained (06 R173). -/
def Module.runLotRollback (m : Module) (r : VReq) (c : Client) : Module :=
  m.checked r c (fun m _ _ => m.untargeted r (fun m =>
    let n := m.lots.previous
    match m.retainedLot n with
    | none =>
      let e := m.loadCheck n
      if e ≠ 0 then m.refuse r e else (m.startLoad n 0).ack r 0
    | some l =>
      if m.lots.staged.isSome then m.refuse r 34
      else if m.lots.loadState = 1 then m.refuse r 35
      else if m.lots.active.any (fun a => a.number == n) then m.refuse r 36
      else if m.weirTaken then (m.loadFailed n).ack r 0
      else (m.restage l).ack r m.clock.sfc))

/-- LOT_ROLLBACK. -/
def lotRollback (t : Nat) (m : Module) : Module := m.serve t (fun r _ => r.writes 0x2000 0x48) Module.runLotRollback
/-- LOT_ROLLBACK. -/
def execLotRollback (t : Nat) (s : State) : Host.Outcome State Fault Refusal := .next { s with m := lotRollback t s.m }

/-- A write of HOLD_PREVIOUS 0 executes: the held Lot is freed (06 R173). -/
def Module.runHoldClear (m : Module) (r : VReq) (c : Client) : Module :=
  m.checked r c (fun m o v => m.untargeted r (fun m => (m.setNow o 0 v).freeLots.ack r m.clock.sfc))

/-- HOLD_PREVIOUS_CLEAR. -/
def holdPreviousClear (t : Nat) (m : Module) : Module := m.serve t (fun r v => r.writes 0x2000 0x47 && v == [0]) Module.runHoldClear
/-- HOLD_PREVIOUS_CLEAR. -/
def execHoldPreviousClear (t : Nat) (s : State) : Host.Outcome State Fault Refusal := .next { s with m := holdPreviousClear t s.m }

/-! ## Switching (06 R170 to R172) -/

/-- The action of a switch at frame n, placed where R172 says. -/
def Module.placeSwitch (m : Module) (r : VReq) (members : List MemberLot) (lot dev n : Nat) : Module :=
  let a : Action := { kind := 5, arg := lot, target := n }
  let has := m.withStaged members lot
  if !m.inCascadeConfig then (if lot ≠ 0 ∧ has.isEmpty then m.refuse r 39 else m.placeAt r a [])
  else if dev ≠ 0 then
    if lot ≠ 0 ∧ !has.any (fun x => x.device == dev - 1) then m.refuse r 39
    else if dev - 1 = m.device then m.placeAt r a [] else m.placeOnly r a [dev - 1]
  else if lot = 0 then m.placeAt r a m.mates
  else if m.ownMember.staged ≠ lot ∨ !coversShards has then m.refuse r 39
  else m.placeAt r a ((has.map (·.device)).filter (fun d => d != m.device))

/-- A write of LOT_SWITCH executes (06 R170, R172). -/
def Module.runLotSwitch (members : List MemberLot) (m : Module) (r : VReq) (c : Client) : Module :=
  m.checked r c (fun m _ v =>
    let lot := leAt v 0 4
    let dev := leAt v 4 4
    let known := dev == 0 || (m.isMaster && (dev - 1 == m.device || m.mates.contains (dev - 1)))
    if !known && (!m.inCascadeConfig || m.device == 0) then m.refuse r 8
    else m.untargeted r (fun m => m.withLead r (leAt v 8 8) (fun m n =>
      if m.health.unsparable then m.refuse r 80
      else if m.inCascadeConfig && m.device != 0 then m.refuse r 13
      else if m.switchPending then m.refuse r 37
      else m.placeSwitch r members lot dev n)))

/-- LOT_SWITCH. -/
def lotSwitch (t : Nat) (members : List MemberLot) (m : Module) : Module :=
  m.serve t (fun r _ => r.writes 0x2000 0x44) (Module.runLotSwitch members)
/-- LOT_SWITCH. -/
def execLotSwitch (t : Nat) (members : List MemberLot) (s : State) : Host.Outcome State Fault Refusal :=
  .next { s with m := lotSwitch t members s.m }

/-! ## The library (06 R165, R166, R169) -/

/-- The argument of an import is in range, and names a CONTROL session in READY (06 Table 06-2). -/
def Module.importArgOk (m : Module) (v : Bytes) : Bool :=
  let n := leAt v 16 8
  leAt v 24 8 == 0 && decide (4096 ≤ n ∧ n ≤ 2 ^ 41) && n % 4096 == 0
    && (match m.session (leAt v 0 4) with
        | some x => x.typ == 3 && x.state == 2
        | none => false)

/-- A write of LOT_IMPORT executes (06 R166). -/
def Module.runLotImport (m : Module) (r : VReq) (c : Client) : Module :=
  m.checked r c (fun m _ v => m.untargeted r (fun m =>
    let n := leAt v 16 8
    if !m.importArgOk v then m.refuse r 42
    else if m.lots.importState = 1 then m.refuse r 50
    else if 64 ≤ m.lots.library.length then m.refuse r 51
    else if m.libraryFree < n ∨ m.cistern.readOnly then m.refuse r 32
    else (({ m with lots := { m.lots with importState := 1, importError := 0, importArg := v } }).rdmaRead
      (leAt v 0 4) (leAt v 8 8) (leAt v 4 4) n).ack r 0))

/-- LOT_IMPORT. -/
def lotImport (t : Nat) (m : Module) : Module := m.serve t (fun r _ => r.writes 0x2000 0x49) Module.runLotImport
/-- LOT_IMPORT. -/
def execLotImport (t : Nat) (s : State) : Host.Outcome State Fault Refusal := .next { s with m := lotImport t s.m }

/-- The error of an import whose bytes, as far as they came, are these; 0 for none (06 R166). -/
def Module.importResult (m : Module) (data : Bytes) : Nat :=
  let n := leAt m.lots.importArg 16 8
  let lot := imgLot data
  if data.length < 4096 then 5
  else if leAt data 0 8 ≠ 0x0000544F4C324E46 then 1
  else if leAt data 8 2 ≠ 1 then 2
  else if lot = 0 ∨ lot = 0xFFFFFFFF ∨ mHas m.lots.library lot then 3
  else if imgBytes data ≠ n then 4
  else if data.length ≠ n then 5
  else if m.libraryFree < n ∨ 64 ≤ m.lots.library.length ∨ m.cistern.readOnly then 6
  else 0

/-- IMPORT_DONE: the import's last byte has arrived, or it has failed after these (06 R166). -/
def importDone (t : Nat) (data : Bytes) (m : Module) : Module :=
  let m := m.at t
  if m.lots.importState ≠ 1 then m
  else
    let e := m.importResult data
    if e = 0 then
      { m with lots := { m.lots with importState := 2, importError := 0, importArg := []
                                     library := mPut m.lots.library (imgLot data) { bytes := data } } }
    else
      ({ m with lots := { m.lots with importState := 3, importError := e, importArg := [] } }).event 0x0003 7
        (put (if data.length < 4096 then 0 else imgLot data) 32 32 + put e 8 0)
/-- IMPORT_DONE. -/
def execImportDone (t : Nat) (data : Bytes) (s : State) : Host.Outcome State Fault Refusal := .next { s with m := importDone t data s.m }

/-- An image is in use (06 R169). -/
def Module.lotInUse (m : Module) (n : Nat) : Bool :=
  (m.lotOf n).isSome || m.lots.held == n || m.lots.committed == n || (m.lots.loadState == 1 && m.lots.loading == n)
    || (m.lots.buildState == 1 && bdMode (leNat m.lots.buildDesc) == 1 && bdParent (leNat m.lots.buildDesc) == n)

/-- A write of LOT_DELETE executes (06 R169). -/
def Module.runLotDelete (m : Module) (r : VReq) (c : Client) : Module :=
  m.checked r c (fun m _ v => m.untargeted r (fun m =>
    let n := leNat v
    if !mHas m.lots.library n then m.refuse r 33
    else if m.lotInUse n then m.refuse r 38
    else ({ m with lots := { m.lots with library := mDel m.lots.library n } }).ack r m.clock.sfc))

/-- LOT_DELETE. -/
def lotDelete (t : Nat) (m : Module) : Module := m.serve t (fun r _ => r.writes 0x2000 0x4C) Module.runLotDelete
/-- LOT_DELETE. -/
def execLotDelete (t : Nat) (s : State) : Host.Outcome State Fault Refusal := .next { s with m := lotDelete t s.m }

/-- LOT_REPAIRED: the oldest poisoned burst of a Lot in LPDDR5X has been rewritten from its image (12 R363). -/
def lotRepaired (t : Nat) (m : Module) : Module :=
  let m := m.at t
  let bases := m.lotBases
  match m.mem.lotPoison.find? (fun p => bases.any (fun b => b.1.number == p.1)) with
  | none => m
  | some p => match bases.find? (fun b => b.1.number == p.1) with
    | none => m
    | some b =>
      (({ m with mem := { m.mem with lotPoison := m.mem.lotPoison.erase p } }).count 0x4000 0x15 1).event 0x0003 5
        (b.2 + imageToCopy b.1.bytes p.2)
/-- LOT_REPAIRED. -/
def execLotRepaired (t : Nat) (s : State) : Host.Outcome State Fault Refusal := .next { s with m := lotRepaired t s.m }

/-! ## Attribute writes (06 R174 to R176) -/

/-- COUNT of an ATTR_WRITE message. -/
def attrCount (b : Bytes) : Nat := leAt b 8 2
/-- LOT. -/
def attrLot (b : Bytes) : Nat := leAt b 4 4
/-- REPLY_SLOT. -/
def attrSlot (b : Bytes) : Nat := leAt b 12 4
/-- Entry i: ordinal and word. -/
def attrEntry (b : Bytes) (i : Nat) : Nat × Nat := (leAt b (64 + 16 * i) 8 % 2 ^ 35, leAt b (72 + 16 * i) 8)
/-- The entries. -/
def attrEntries (b : Bytes) : List (Nat × Nat) := (List.range (attrCount b)).map (attrEntry b)

/-- The message is malformed (06 Tables 06-4 and 06-5). -/
def attrMalformed (b : Bytes) : Bool :=
  leAt b 0 1 != 0x10 || leAt b 1 3 != 0 || leAt b 10 2 != 0 || !allZero (sub b 16 48)
    || decide (attrCount b < 1 ∨ 4096 < attrCount b) || b.length != 64 + 16 * attrCount b
    || (List.range (attrCount b)).any (fun i => leAt b (64 + 16 * i) 8 / 2 ^ 35 != 0)

/-- Entries that the attribute history will take for writes that wait (03 R78). -/
def Module.historyPending (m : Module) : Nat :=
  (dedup ((m.lots.words.filter (fun w => m.lots.active.any (fun l => l.number == w.lot))).map (fun w => (w.ordinal, w.target)))).length

/-- STATUS and FIRST_BAD of a message (06 R175, Table 06-6). -/
def Module.attrStatus (m : Module) (b : Bytes) : Nat × Nat :=
  let lot := attrLot b
  let act := m.lots.active.any (fun l => l.number == lot)
  match (if act then m.lots.active else m.lots.staged.filter (fun l => l.number == lot)) with
  | none => (if attrMalformed b then 5 else 1, 0)
  | some l =>
    let es := attrEntries b
    if attrMalformed b then (5, 0)
    else match findIdx (fun e => decide (imgItems l.bytes ≤ e.1)) es with
      | some i => (2, i)
      | none =>
        if act ∧ 4194304 < m.lots.history.length + m.historyPending + (dedup (es.map (·.1))).length then (3, 0)
        else if !m.logRoom lot es.length then (4, 0)
        else (0, 0)

/-- EFFECT_SFC of an applied message (06 Table 06-6). -/
def Module.attrEffect (m : Module) (lot : Nat) : Nat :=
  let f := m.clock.firstFrame
  if m.lots.active.any (fun l => l.number == lot) then f
  else match m.schedule.find? (fun a => a.kind == 5 && a.arg == lot) with
    | some a => max f a.target
    | none => 2 ^ 64 - 1

/-- The 64-byte reply (06 Table 06-6). -/
def attrReply (st count bad lot effect : Nat) : Bytes :=
  toLe 64 (put st 4 0 + put count 16 32 + put bad 16 48 + put lot 32 64 + put effect 64 96)

/-- A message on a CONTROL session takes effect (06 R174 to R176). -/
def Module.takeAttr (m : Module) (s : Nat) (b : Bytes) : Module :=
  match m.session s with
  | none => m
  | some x =>
    if b.length < 64 ∨ x.slots ≤ attrSlot b then m.discard s
    else
      let st := m.attrStatus b
      let lot := attrLot b
      if st.1 ≠ 0 then m.post s (attrSlot b) (attrReply st.1 0 st.2 lot 0)
      else
        let es := attrEntries b
        let f := m.clock.firstFrame
        let e := m.attrEffect lot
        let m := m.appendLog lot es
        let m := { m with lots := { m.lots with words := m.lots.words ++ es.map (fun (e : Nat × Nat) => ({ lot := lot, ordinal := e.1, word := e.2, target := f } : PendWord)) } }
        m.post s (attrSlot b) (attrReply 0 es.length 0 lot e)

/-- ATTR_WRITE: the oldest message of a CONTROL session (06 R174). -/
def attrWrite (t s : Nat) (m : Module) : Module :=
  let m := m.at t
  match m.session s with
  | none => m
  | some x =>
    if x.typ ≠ 3 ∨ x.state ≠ 2 then m
    else match m.takeMessage s with
      | some a => a.2.takeAttr s a.1.2
      | none => m
/-- ATTR_WRITE. -/
def execAttrWrite (t session : Nat) (s : State) : Host.Outcome State Fault Refusal := .next { s with m := attrWrite t session s.m }

end Sys2Proof.Machine
end

