-- ==== Sys2Proof/Machine/Build.lean ====
section
/-! DEFINITION. Meanings of the builder's rows (06 R177 to R186). -/

namespace Sys2Proof.Machine

/-! ## Starting (06 R178) -/

/-- The Lot number that replaces a LOT_NUMBER of 0 (06 R178). -/
def Module.nextLot (m : Module) : Nat :=
  let n := (m.lots.library.map (·.1)).foldl max m.lots.committed + 1
  if n < 0xFFFFFFFF then n
  else ((List.range 67).map (· + 1)).foldl (fun best n =>
    if best = 0 ∧ n ≠ m.lots.committed ∧ n ≠ m.lots.previous ∧ !mHas m.lots.library n then n else best) 0

/-- The parent's image of an incremental build. -/
def Module.parentImage (m : Module) (d : Nat) : Option Bytes := (mGet m.lots.library (bdParent d)).map (·.bytes)

/-- Items of an input: from INPUT_BYTES, or from the count that begins a counted input in the Store area. A counted
input of a host has not been read yet. -/
def Module.inputItems (m : Module) (d dim : Nat) : Nat :=
  if bdBytes d ≠ 0 then bdBytes d / (16 + 2 * dim)
  else if bdSource d = 0 then match m.storeRead (bdInput d) 8 with
    | some b => leNat b / (16 + 2 * dim)
    | none => 0
  else 0

/-- The descriptor breaks a range: of its own fields, a parent that the library lacks, a session that is not a CONTROL
session in READY (06 Table 06-7). -/
def Module.buildDescOk (m : Module) (d : Nat) : Bool :=
  (bdSource d == 0 || (match m.session (bdSession d) with
      | some x => x.typ == 3 && x.state == 2
      | none => false))
    && (if bdMode d = 1 then match m.parentImage d with
        | some b => bdOk d (imgDim b)
        | none => false
      else bdOk d (bdDim d))

/-- Library bytes that a build needs: the worst image, and 16 bytes of scratch for each input item (06 R178). -/
def Module.buildNeeds (m : Module) (d : Nat) : Nat :=
  if bdMode d = 1 then match m.parentImage d with
    | some b =>
      let n := m.inputItems d (imgDim b)
      worstImage (imgDim b) (imgFormat b) (imgSketch b) (imgDegree b) (imgLists b) (imgItems b + n) (decide (0 < imgSpills b)) + 16 * n
    | none => 0
  else
    let n := m.inputItems d (bdDim d)
    worstImage (bdDim d) (bdFormat d) (bdSketch d) (bdDegree d) (if bdLists d = 0 then autoLists n else bdLists d) n (bdSpill d) + 16 * n

/-- A write of BUILD_START executes (06 R178). -/
def Module.runBuildStart (m : Module) (r : VReq) (c : Client) : Module :=
  m.checked r c (fun m o v => m.withLead r r.target (fun m n =>
    let v := if v.isEmpty then m.cfgBytes 0x2200 0x0C 0 else v
    let v := if leAt v 0 4 = 0 then splice v 0 (toLe 4 m.nextLot) else v
    let d := leNat v
    if m.health.unsparable then m.refuse r 80
    else if m.lots.buildState = 1 then m.refuse r 40
    else if mHas m.lots.library (bdLot d) then m.refuse r 41
    else if !m.buildDescOk d then m.refuse r 42
    else if m.libraryFree < m.buildNeeds d ∨ m.cistern.readOnly then m.refuse r 32
    else if 64 ≤ m.lots.library.length then m.refuse r 51
    else if m.hostFull then m.refuse r 12
    else
      let m := m.place { kind := 0, key := odKey o.index o.sub 0, value := v, target := n, host := true }
      ({ m with lots := { m.lots with
          buildState := 1, buildError := 0, buildPhase := 0, buildItems := 0, buildStart := n, buildCancel := none, buildDesc := v
          buildWords := [], buildMemory := m.cfg 0x2200 0x08, buildHold := m.buildNeeds d } }).ack r n))

/-- BUILD_START. -/
def buildStart (t : Nat) (m : Module) : Module := m.serve t (fun r _ => r.writes 0x2200 0x01) Module.runBuildStart
/-- BUILD_START. -/
def execBuildStart (t : Nat) (s : State) : Host.Outcome State Fault Refusal := .next { s with m := buildStart t s.m }

/-- The reads of host memory that a build of SOURCE 1 begins with: its input, or the count of a counted one, and its
delete list (06 R178, R179, 13 R380). -/
def Module.buildReads (m : Module) (d : Nat) : Module :=
  if bdSource d = 0 then m
  else
    let m := m.rdmaRead (bdSession d) (bdInput d) (bdKey d) (if bdBytes d = 0 then 8 else bdBytes d)
    if bdDeleteBytes d = 0 then m else m.rdmaRead (bdSession d) (bdDelete d) (bdKey d) (bdDeleteBytes d)

/-- The builder's phase begins at its start tick, with the parent's words as they stand (06 R184). -/
def Module.beginBuild (m : Module) : Module :=
  let m := m.buildReads (leNat m.lots.buildDesc)
  let p := bdParent (leNat m.lots.buildDesc)
  let words := match (m.lots.active.toList ++ m.lots.staged.toList).find? (fun l => l.number == p) with
    | some l => l.words
    | none => match mGet m.lots.library p with
      | some x => replayLog x.bytes x.log
      | none => []
  { m with lots := { m.lots with buildPhase := 1, buildWords := words } }

/-! ## Cancelling and ending (06 R185, R186) -/

/-- A write of BUILD_CANCEL executes (06 R185). -/
def Module.runBuildCancel (m : Module) (r : VReq) (c : Client) : Module :=
  m.checked r c (fun m o v => m.atTick r (fun m n =>
    if m.hostFull then m.refuse r 12
    else
      let m := m.place { kind := 0, key := odKey o.index o.sub 0, value := v, target := n, host := true }
      ({ m with lots := { m.lots with buildCancel := if m.lots.buildState = 1 then some n else m.lots.buildCancel } }).ack r n))

/-- BUILD_CANCEL. -/
def buildCancel (t : Nat) (m : Module) : Module := m.serve t (fun r _ => r.writes 0x2200 0x02) Module.runBuildCancel
/-- BUILD_CANCEL. -/
def execBuildCancel (t : Nat) (s : State) : Host.Outcome State Fault Refusal := .next { s with m := buildCancel t s.m }

/-- The build ends with a state and an error (18 Table 18-3). -/
def Module.stopBuild (m : Module) (st err : Nat) : Module :=
  ({ m with lots := { m.lots with buildState := st, buildError := err, buildPhase := 0, buildEnd := some m.clock.sfc, buildCancel := none
                                  buildWords := [], buildHold := 0, buildMemory := 0 } }).event 0x0004 1
    (put (bdLot (leNat m.lots.buildDesc)) 32 32 + put err 8 8 + put st 8 0)

/-- The input of a build: its records' bytes, from the Store area or from the host (06 R179). -/
def Module.buildInput (m : Module) (d : Nat) (host : Option Bytes) : Option Bytes :=
  let counted (b : Bytes) : Option Bytes := if b.length < 8 + leAt b 0 8 then none else some ((b.drop 8).take (leAt b 0 8))
  let whole (b : Bytes) : Option Bytes := if b.length < bdBytes d then none else some (b.take (bdBytes d))
  if bdSource d = 1 then match host with
    | none => none
    | some b => if bdBytes d = 0 then counted b else whole b
  else if bdBytes d ≠ 0 then m.storeRead (bdInput d) (bdBytes d)
  else match m.storeRead (bdInput d) 8 with
    | none => none
    | some b => m.storeRead (bdInput d + 8) (leNat b)

/-- The delete list of a build. -/
def Module.buildDeletes (m : Module) (d : Nat) (host : Option Bytes) : Option (List Nat) :=
  let keys (b : Bytes) := (List.range (bdDeleteBytes d / 8)).map (fun i => leAt b (8 * i) 8)
  if bdDeleteBytes d = 0 then some []
  else if bdSource d = 1 then match host with
    | none => none
    | some b => if b.length < bdDeleteBytes d then none else some (keys b)
  else (m.storeRead (bdDelete d) (bdDeleteBytes d)).map keys

/-- The block at MODEL_ADDR of a full build. -/
def Module.buildModel (m : Module) (d : Nat) : Option Bytes :=
  if bdMode d = 1 ∨ (bdProj d ≠ 2 ∧ bdScale d ≠ 2) then some []
  else
    let n := bdSketch d * bdDim d + 4 * bdDim d
    match m.locateN (bdModel d) n with
    | .unmapped => none
    | .remote _ _ => none
    | l => let r := m.readLoc l n; if r.2 then none else some r.1

/-- The outcome of the running build (06 R179 to R184). -/
def Module.buildOutcome (m : Module) (input deletes : Option Bytes) : BuildResult :=
  let d := leNat m.lots.buildDesc
  let parent := m.parentImage d
  let dim := if bdMode d = 1 then (parent.map imgDim).getD 0 else bdDim d
  let free := Config.freeValue m.fresh
  match m.buildInput d input, m.buildDeletes d deletes, m.buildModel d with
  | some b, some del, some model =>
    let recs := inputRecords dim b
    if inputBad recs then { error := 1 }
    else if bdMode d = 0 then buildFull d m.lotCaps m.clock.now free model recs
    else match parent with
      | none => { error := 4 }
      | some p =>
        let visits := match m.lots.active with
          | some l => if l.number = bdParent d then l.visits else []
          | none => []
        buildIncremental d p m.lots.buildWords visits m.lotCaps m.clock.now free del recs
  | _, _, _ => { error := if bdMode d = 1 ∧ parent.isNone then 4 else 3 }

/-- BUILD_ENDED: the builder has read its last input byte and written its last image byte; what the host gave for
SOURCE 1 comes with the row. -/
def buildEnded (t : Nat) (input deletes : Option Bytes) (m : Module) : Module :=
  let m := m.at t
  if m.lots.buildState ≠ 1 ∨ m.lots.buildPhase = 0 then m
  else
    let x := m.buildOutcome input deletes
    let n := bdLot (leNat m.lots.buildDesc)
    let m := m.drawn
    let e := if x.error ≠ 0 then x.error
      else if m.cistern.readOnly ∨ 64 ≤ m.lots.library.length ∨ mHas m.lots.library n
        ∨ m.libraryFree + m.lots.buildHold < x.image.length then 2 else 0
    if e ≠ 0 then m.stopBuild 3 e
    else
      let m := { m with lots := { m.lots with library := mPut m.lots.library n { bytes := x.image, builtHere := true }
                                              buildItems := x.items, buildAlpha := x.alpha } }
      let m := m.stopBuild 2 0
      if !m.cfgB 0x2200 0x0D then m
      else if m.loadCheck n ≠ 0 ∨ m.health.unsparable then m.event 0x0003 2 (put n 32 32 + put 3 8 0)
      else m.startLoad n 1
/-- BUILD_ENDED. -/
def execBuildEnded (t : Nat) (input deletes : Option Bytes) (s : State) : Host.Outcome State Fault Refusal :=
  .next { s with m := buildEnded t input deletes s.m }

end Sys2Proof.Machine
end

