-- ==== Sys2Proof/Machine/Lookup.lean ====
section
/-! DEFINITION. Look-ups of embedding tables (10 R288 to R298): requests, planning, owners' pooling, completion, hot
rows and replicas. -/

namespace Sys2Proof.Machine

/-! ## Look-up request header (10 Table 10-2), 512 bits as a number -/

/-- TABLE. -/
def lkTable (h : Nat) : Nat := fld h 5 0
/-- MEAN. -/
def lkMean (h : Nat) : Bool := h.testBit 16
/-- WEIGHTED. -/
def lkWeighted (h : Nat) : Bool := h.testBit 17
/-- DONE_EVT. -/
def lkEvt (h : Nat) : Nat := fld h 23 18
/-- BAGS. -/
def lkBags (h : Nat) : Nat := fld h 43 24
/-- BAG_SOFF. -/
def lkBagOff (h : Nat) : Nat := fld h 64 44
/-- OUT_SOFF. -/
def lkOut (h : Nat) : Nat := fld h 85 65
/-- IDX_SOFF. -/
def lkIdx (h : Nat) : Nat := fld h 106 86
/-- WEIGHT_SOFF. -/
def lkW (h : Nat) : Nat := fld h 127 107

/-- Add to a field of a table's statistics: 0 LOOKUPS, 1 OCCURRENCES, 2 INVALID, 3 NULL, 4 ROW_FETCHES, 5 HOT_HITS,
6 REPLICA_HITS, 7 EMPTY_BAGS (10 Table 10-6). -/
def Module.tabCount (m : Module) (table field n : Nat) : Module := m.countI 0x3200 0x07 (table * 8 + field) n

/-- The bag bounds of a request of a context. -/
def Module.lkBounds (m : Module) (t : Nat) (c : Ctx) (h : Nat) : List Nat :=
  let bs := m.sliceRead t (c.at (lkBagOff h)) (4 * (lkBags h + 1))
  (List.range (lkBags h + 1)).map (fun i => leAt bs (4 * i) 4)

/-- Bounds start at 0, do not decrease, and end at most at 2^26. -/
def boundsOk (bs : List Nat) : Bool :=
  bs.headD 1 == 0 && (bs.zip (bs.drop 1)).all (fun p => decide (p.1 ≤ p.2)) && decide (bs.getLastD 0 ≤ 2 ^ 26)

/-- The request's header and arrays keep to Table 10-2 and the context's region (10 R288, R289). -/
def Module.lkOk (m : Module) (t : Nat) (c : Ctx) (h : Nat) : Bool :=
  fld h 511 384 == 0 && fld h 279 128 == 0 && fld h 15 6 == 0 && decide (1 ≤ lkBags h) && lkIdx h % 2 == 0 && lkOut h % 4 == 0
  && c.holds (lkBagOff h) (4 * (lkBags h + 1))
  && (let bs := m.lkBounds t c h
      boundsOk bs && c.holds (lkIdx h) (8 * bs.getLastD 0) && (!lkWeighted h || c.holds (lkW h) (4 * bs.getLastD 0)))

/-- The bag of occurrence i. -/
def bagOf (bs : List Nat) (i : Nat) : Nat := ((bs.drop 1).filter (fun e => decide (e ≤ i))).length

/-- The occurrences of a request: bag, index, weight. -/
def Module.lkOccs (m : Module) (t : Nat) (c : Ctx) (h : Nat) : List (Nat × Nat × Nat) :=
  let bs := m.lkBounds t c h
  let n := bs.getLastD 0
  let xs := m.sliceRead t (c.at (lkIdx h)) (8 * n)
  let ws := m.sliceRead t (c.at (lkW h)) (4 * n)
  (List.range n).map (fun i => (bagOf bs i, leAt xs (8 * i) 8, if lkWeighted h then leAt ws (4 * i) 4 else one32))

/-- Write STATUS and the counts, and advance DONE_EVT (10 R289). -/
def Module.lkFinish (m : Module) (t addr status missing valid invalid : Nat) : Module :=
  let h := leNat (m.sliceRead t addr 64)
  let h' := h - put (fld h 383 280) 104 280 + put status 8 280 + put invalid 32 288 + put valid 32 320 + put missing 32 352
  (m.sliceWrite t addr (toLe 64 h')).advance t (lkEvt h) 0 1

/-! ## Where a bag is pooled (10 R283, R298) -/

/-- The tile of this module that holds replicas of a row of owner o for requester r. -/
def replicaTile (rt o r : Nat) : Nat := (o + (r % rt) * 512 / rt) % 512

/-- A row as distinct fetches see it: the composed index of a composed table, else the row number (10 R290). -/
def fetchKey (d x : Nat) : Nat := if tabMode d = 2 then x else tabRow d x

/-- The row of an index is replicated at a tile of this module. -/
def Module.replicated (m : Module) (tile d x : Nat) : Bool :=
  ((m.tile tile).hotRow (tabNumber d) (tabVersion d) (tabRow d x)).any (fun h => h.replica)

/-- The routes of a request's valid occurrences: one per owner and pooling place; a pooling tile of 512 means the
owner's own module. -/
def Module.lkRoutes (m : Module) (t req d : Nat) (occ : List (Nat × Nat × Nat)) : List Route :=
  let rt := max 1 (m.cfg 0x3200 0x0D)
  let own (o : Nat × Nat × Nat) := (tabOwnerDev d (tabRow d o.2.1), tabOwnerTile d (tabRow d o.2.1))
  (dedup (occ.map own)).flatMap (fun w =>
    let os := occ.filter (fun o => own o == w)
    let p := replicaTile rt w.2 t
    let here := w.1 == m.device
    let atReplica (b : Nat) := !(here && t % rt == 0) && (os.filter (fun o => o.1 == b)).all (fun o => m.replicated p d o.2.1)
    let mk (pool : Nat) (l : List (Nat × Nat × Nat)) : List Route :=
      if l.isEmpty then [] else [{ device := m.device, tile := t, request := req, ownDev := w.1, owner := w.2, pool := pool, table := tabNumber d, occ := l }]
    mk p (os.filter (fun o => atReplica o.1)) ++ mk (if here then w.2 else 512) (os.filter (fun o => !atReplica o.1)))

/-! ## Costs (10 R293, Table 10-4) -/

/-- Number of bags in a route. -/
def Route.bags (r : Route) : Nat := (dedup (r.occ.map (·.1))).length

/-- Distinct fetches of a route. -/
def Route.fetches (r : Route) (d : Nat) : List Nat := dedup (r.occ.map (fun o => fetchKey d o.2.1))

/-- LPDDR5X bytes of one row. -/
def rowFetchBytes (d : Nat) : Nat := 64 * ceilDiv (tabStride d + 63) 64

/-- Clocks and LPDDR5X bytes of a route at its pooling tile; seen lists the fetches already charged in the frame. -/
def Module.routeCost (m : Module) (d : Nat) (r : Route) (seen : List (Nat × Nat × Nat)) : Nat × Nat :=
  let new := (r.fetches d).filter (fun k => !seen.contains (r.pool, r.table, k))
  let two := if tabMode d = 2 then 2 else 1
  let hot (k : Nat) := ((m.tile r.pool).hotRow (tabNumber d) (tabVersion d) (if tabMode d = 2 then tabRow d k else k)).isSome
  let bytes := new.foldl (fun a k => a + rowFetchBytes d * ((if hot k then 0 else 1) + (two - 1))) 0
  let send := (8 + ceilDiv (r.bags * tabDim d * 4) 256) * (if tabCombine d then 10 else 1)
  (8 + ceilDiv r.occ.length 16 + new.length * (8 + ceilDiv (tabStride d) 256) * two
    + 8 + r.occ.length * ceilDiv (tabDim d) 64 + r.bags * ceilDiv (tabDim d) 32 + send, bytes)

/-- The look-up grant of a tile in the current frame (10 R293). -/
def Module.lookGrant (m : Module) : Nat := m.cfg 0x3200 0x08 * budgetClocks m.clock.period m.clock.step / 256
/-- The look-up grant of LPDDR5X bytes in the current frame. -/
def Module.lookBytes (m : Module) : Nat := m.cfg 0x3200 0x08 * lpddrBudget m.clock.period / 256

/-! ## LOOKUP cells (10 R290, R291, R296, R297; encoding log 40) -/

/-- Send a LOOKUP cell under the next tag. -/
def Module.sendLookup (m : Module) (dst kind : Nat) (last : Bool) (n table : Nat) (combine : Bool) (tile req owner x off row : Nat)
    (data : Bytes) : Module :=
  let pay := toLe 1 kind ++ toLe 1 (b2n last) ++ toLe 2 n ++ toLe 1 table ++ toLe 1 (b2n combine) ++ toLe 2 tile ++ toLe 4 req
    ++ toLe 2 owner ++ zeros 2 ++ toLe 4 x ++ toLe 4 off ++ toLe 8 row ++ data
  let m := (m.sendTo dst 17 m.cascade.nextTag (fit pay 256)).1
  { m with cascade := { m.cascade with nextTag := (m.cascade.nextTag + 1) % 2 ^ 48 } }

/-- Send a list in pieces of n, telling each piece whether it is the last. -/
def sendPieces {α : Type} (n : Nat) (l : List α) (f : Module → List α → Nat → Bool → Module) (m : Module) : Module :=
  let ps := chunks n l
  (ps.zip (List.range ps.length)).foldl (fun (m : Module) p => f m p.1 (n * p.2) (p.2 + 1 == ps.length)) m

/-- Send a route to its owner's module. -/
def Module.sendRoute (m : Module) (r : Route) : Module :=
  sendPieces 14 r.occ (fun m l off last => m.sendLookup r.ownDev 0 last l.length r.table false r.tile r.request r.owner 0 off 0
    (l.map (fun o => toLe 4 o.1 ++ toLe 8 o.2.1 ++ toLe 4 o.2.2)).flatten) m

/-- The replicas of a row go at the next tick (10 R287). -/
def Module.staleRow (m : Module) (table row : Nat) : Module :=
  { m with tables := { m.tables with stale := m.tables.stale ++ [(table, row)] } }

/-- An owner tells the other modules of a table that a row changes at the next tick (10 R287). -/
def Module.sendStale (m : Module) (d table row : Nat) : Module :=
  (((List.range (tabModules d)).map (fun i => tabFirst d + i)).filter (fun x => x != m.device)).foldl (fun (m : Module) dev =>
    m.sendLookup dev 4 true 0 table false 0 0 0 0 0 row []) m

/-! ## Planning (10 R289, R290, R293) -/

/-- Plan one request that a mailbox names, at byte addr of the tile's slice. seen lists the fetches charged in the frame. -/
def Module.lkPlan (m : Module) (seen : List (Nat × Nat × Nat)) (t k addr : Nat) : Module × List (Nat × Nat × Nat) :=
  let c := m.ctx t k
  let h := leNat (m.sliceRead t addr 64)
  if !(decide (c.region ≤ addr) && decide (addr + 64 ≤ c.region + c.bytes)) then (m, seen)
  else if !m.lkOk t c h then (m.lkFinish t addr 3 0 0 0, seen)
  else match (m.table (lkTable h)).active with
    | none => (m.lkFinish t addr 4 0 0 0, seen)
    | some d =>
      if !c.holds (lkOut h) (lkBags h * tabDim d * 4) then (m.lkFinish t addr 3 0 0 0, seen)
      else
        let occ := m.lkOccs t c h
        let nul := (occ.filter (fun o => o.2.1 == nullIndex)).length
        let ok := occ.filter (fun o => tabValid d o.2.1)
        let bad := occ.length - ok.length - nul
        let m := (m.tabCount (lkTable h) 3 nul).tabCount (lkTable h) 2 bad
        let req := k * 2 ^ 23 + addr
        let rs := m.lkRoutes t req d ok
        let want := dedup (rs.flatMap (fun r => (dedup (r.occ.map (·.1))).map (fun b => (r.ownDev, r.owner, b))))
        let mine := 64 + ceilDiv occ.length 16 + 8 + want.length * ceilDiv (tabDim d) 64 + lkBags h * ceilDiv (tabDim d) 32
        let cost := (rs.filter (fun r => r.pool != 512)).foldl (fun (a : List (Nat × Nat) × Nat × List (Nat × Nat × Nat)) r =>
          let x := m.routeCost d r a.2.2
          (mAdd a.1 r.pool x.1, a.2.1 + x.2, a.2.2 ++ (r.fetches d).map (fun f => (r.pool, r.table, f)))) (mAdd [] t mine, 0, seen)
        let spent (p : Nat × Nat) := mGetD m.tables.spentClocks p.1 0 + p.2
        if cost.1.all (fun p => decide (spent p ≤ m.lookGrant)) && decide (m.tables.spentBytes + cost.2.1 ≤ m.lookBytes) then
          let m := { m with tables := { m.tables with
            spentClocks := cost.1.foldl (fun l p => mAdd l p.1 p.2) m.tables.spentClocks
            spentBytes := m.tables.spentBytes + cost.2.1
            routes := m.tables.routes ++ rs.filter (fun r => r.pool != 512)
            lookups := m.tables.lookups ++ [{ tile := t, ctx := k, addr := addr, frame := m.clock.sfc, table := lkTable h, desc := d
                                              valid := ok.length, invalid := occ.length - ok.length, want := want }] } }
          ((rs.filter (fun r => r.pool == 512)).foldl Module.sendRoute m, cost.2.2)
        else ((m.lkFinish t addr 1 0 ok.length (occ.length - ok.length)).count 0x3200 0x0F 1, seen)

/-- Read the mailbox of one context, and set COUNT to 0 (10 R289). -/
def Module.lkMailbox (m : Module) (seen : List (Nat × Nat × Nat)) (t k : Nat) : Module × List (Nat × Nat × Nat) :=
  let c := m.ctx t k
  let a := c.region + c.bytes - 256
  let n := min 63 (m.slice32 t a)
  let offs := (List.range n).map (fun i => c.at (m.slice32 t (a + 4 + 4 * i)))
  let m := if n = 0 then m else m.sliceWrite t a (zeros 4)
  offs.foldl (fun (r : Module × List (Nat × Nat × Nat)) o => r.1.lkPlan r.2 t k o) (m, seen)

/-- A tick reads the mailboxes of every armed context, in ascending tile and context order; routes not pooled before it
are of no use (10 R289). -/
def Module.lkTick (m : Module) : Module :=
  let m := { m with tables := { m.tables with spentClocks := [], spentBytes := 0, routes := [] } }
  (m.tiles.foldl (fun (r : Module × List (Nat × Nat × Nat)) p =>
    if (m.tileHealth p.1).state = 1 then r
    else p.2.ctxs.foldl (fun r q =>
      if (m.streamSet q.2.setId).state == 1 || q.2.bytes == 0 then r else r.1.lkMailbox r.2 p.1 q.1) r) (m, [])).1

/-! ## Owners (10 R290, R291, R296) -/

/-- Merge the state of a non-finite partial. -/
def Acc.join (a b : Acc) : Acc :=
  ⟨wrapVat (a.v + b.v), if b.st = 0 then a.st else vatState a.st b.xval⟩

/-- The partial sum of a bag at a pooling tile: exact, rounded once to FP32 with COMBINE 0 (10 R291). -/
def Module.partial_ (m : Module) (tile d : Nat) (occ : List (Nat × Nat × Nat)) : List Acc :=
  let as := occ.foldl (fun as o => poolAdd as o.2.2 (m.tabValue tile d o.2.1)) (List.replicate (tabDim d) Acc.zero)
  if tabCombine d then as else as.map (fun a => Acc.zero.add (fp32.xval a.round32))

/-- A partial as its pattern and state. -/
def Acc.pair (a : Acc) : Nat × Nat := (unsgn 320 a.v, a.st)

/-- Take elements of a partial that arrives at its requester (10 R291, R294). -/
def Module.takePartial (m : Module) (tile req dev owner bag : Nat) (vals : List (Nat × Nat)) : Module :=
  let same (q : Nat × Nat × Nat × List (Nat × Nat)) := q.1 == dev && q.2.1 == owner && q.2.2.1 == bag
  { m with tables := { m.tables with lookups := m.tables.lookups.map (fun l =>
      if l.tile = tile ∧ l.ctx * 2 ^ 23 + l.addr = req ∧ l.frame = m.clock.sfc then
        if l.parts.any same then { l with parts := l.parts.map (fun q => if same q then (q.1, q.2.1, q.2.2.1, q.2.2.2 ++ vals) else q) }
        else { l with parts := l.parts ++ [(dev, owner, bag, vals)] }
      else l) } }

/-- Send a partial to its requester, on this module or another. -/
def Module.givePartial (m : Module) (r : Route) (bag : Nat) (combine : Bool) (as : List Acc) : Module :=
  if r.device = m.device then m.takePartial r.tile r.request r.ownDev r.owner bag (as.map Acc.pair)
  else sendPieces (if combine then 5 else 56) as (fun m l off last =>
    m.sendLookup r.device 1 last l.length r.table combine r.tile r.request r.owner bag off 0
      (l.map (fun a => if combine then toLe 40 (unsgn 320 a.v) ++ toLe 1 a.st else toLe 4 a.round32)).flatten) m

/-- Count the occurrences of a row at its owner tile, here or by a record to the owner's module (10 R296). -/
def Module.countAtOwner (m : Module) (r : Route) (rows : List (Nat × Nat)) : Module :=
  if r.ownDev = m.device then m.onTile r.owner (fun x => rows.foldl (fun x p => x.countRow r.table p.1 p.2) x)
  else sendPieces 28 rows (fun m l _ last => m.sendLookup r.ownDev 2 last l.length r.table false r.owner 0 0 0 0 0
    (l.map (fun p => toLe 8 (put p.1 40 0 + put (min p.2 (2 ^ 24 - 1)) 24 40))).flatten) m

/-- Does a read for the index meet poisoned data? -/
def Module.rowPoison (m : Module) (tile d x : Nat) : Bool :=
  let hot := ((m.tile tile).hotRow (tabNumber d) (tabVersion d) (tabRow d x)).isSome
  (!hot && !(m.poisonIn (tabRowAddr d (tabRow d x)) (tabStride d)).isEmpty)
  || (tabMode d == 2 && !(m.poisonIn (tabRemBase d + x % tabRemRows d * tabStride d) (tabStride d)).isEmpty)

/-- A pooling tile forms the partials of every route that has reached it whole (10 R290). A row that stays
uncorrectable faults the service context (08 R259, 12 Table 12-6), and its bag sends no partial. -/
def Module.ownerPool (m : Module) (tile : Nat) : Module :=
  let rs := m.tables.routes.filter (fun r => r.pool == tile && r.whole)
  let m := { m with tables := { m.tables with routes := m.tables.routes.filter (fun r => !(r.pool == tile && r.whole)) } }
  let keys := dedup (rs.flatMap (fun r => match (m.table r.table).active with
    | some d => (r.fetches d).map (fun f => (r.table, f))
    | none => []))
  let m := keys.foldl (fun (m : Module) k => match (m.table k.1).active with
    | none => m
    | some d =>
      let m := match (m.tile tile).hotRow (tabNumber d) (tabVersion d) (if tabMode d = 2 then tabRow d k.2 else k.2) with
        | some h => m.tabCount k.1 (if h.replica then 6 else 5) 1
        | none => m.tabCount k.1 4 1
      if tabMode d = 2 then m.tabCount k.1 4 1 else m) m
  let m := rs.foldl (fun (m : Module) r => match (m.table r.table).active with
    | none => m
    | some d =>
      let rows := sortBy (fun (a b : Nat) => decide (a ≤ b)) (dedup (r.occ.map (fun o => tabRow d o.2.1)))
      (m.countAtOwner r (rows.map (fun x => (x, (r.occ.filter (fun o => tabRow d o.2.1 == x)).length)))).tabCount r.table 1 r.occ.length) m
  let bad := rs.any (fun r => (m.table r.table).active.any (fun d => r.occ.any (fun o => m.rowPoison tile d o.2.1)))
  let m := rs.foldl (fun (m : Module) r => match (m.table r.table).active with
    | none => m
    | some d => (dedup (r.occ.map (·.1))).foldl (fun (m : Module) b =>
        let os := r.occ.filter (fun o => o.1 == b)
        if os.any (fun o => m.rowPoison tile d o.2.1) then m else m.givePartial r b (tabCombine d) (m.partial_ tile d os)) m) m
  if bad then (m.count 0x4000 0x14 1).pipelineFault tile 15 else m

/-! ## Completion (10 R291, R294) -/

/-- The partials of a request that have arrived whole. -/
def Lookup.arrived (l : Lookup) : List (Nat × Nat × Nat × List (Nat × Nat)) :=
  l.parts.filter (fun q => decide (q.2.2.2.length = tabDim l.desc))

/-- Every awaited partial has arrived. -/
def Lookup.full (l : Lookup) : Bool := l.want.all (fun w => l.arrived.any (fun q => (q.1, q.2.1, q.2.2.1) == w))

/-- The output of one bag from the partials that arrived, and whether it is an empty bag. -/
def Lookup.bag (l : Lookup) (mean : Bool) (b count : Nat) : List Nat × Bool :=
  let ps := l.arrived.filter (fun q => q.2.2.1 == b)
  if ps.isEmpty then (List.replicate (tabDim l.desc) 0, true)
  else
    let as := ps.foldl (fun as q => (as.zip q.2.2.2).map (fun p => p.1.join ⟨sgn 320 p.2.1, p.2.2⟩)) (List.replicate (tabDim l.desc) Acc.zero)
    (as.map (fun a => if mean then (match a.xval with
      | .fin v s => (XVal.fin (v / count) s).round fp32
      | x => x.round fp32) else a.round32), false)

/-- Complete a request: its output, STATUS, counts and DONE_EVT. -/
def Module.lkComplete (m : Module) (l : Lookup) : Module :=
  let c := m.ctx l.tile l.ctx
  let h := leNat (m.sliceRead l.tile l.addr 64)
  let occ := (m.lkOccs l.tile c h).filter (fun o => tabValid l.desc o.2.1)
  let bags := (List.range (lkBags h)).map (fun b => l.bag (lkMean h) b (occ.filter (fun o => o.1 == b)).length)
  let missing := (l.want.filter (fun w => !l.arrived.any (fun q => (q.1, q.2.1, q.2.2.1) == w))).length
  let m := m.sliceWrite l.tile (c.at (lkOut h)) (bags.flatMap (fun b => b.1.flatMap (toLe 4)))
  let m := ((m.tabCount l.table 7 (bags.filter (·.2)).length).tabCount l.table 0 1).lkFinish l.tile l.addr (if missing = 0 then 0 else 2) missing l.valid l.invalid
  { m with tables := { m.tables with lookups := m.tables.lookups.erase l } }

/-- Requests of a tile whose partials have all arrived complete (10 R291). -/
def Module.lkCombine (m : Module) (tile : Nat) : Module :=
  (m.tables.lookups.filter (fun l => l.tile == tile && l.full)).foldl Module.lkComplete m

/-- Requests not complete by tick F + 2 complete from the partials that arrived (10 R294). -/
def Module.lkOverdue (m : Module) : Module :=
  (m.tables.lookups.filter (fun l => decide (l.frame < m.clock.sfc))).foldl Module.lkComplete m

/-! ## Hot rows and replicas (10 R295 to R299) -/

/-- The order of candidates: estimate descending, then table and row ascending. -/
def candBefore (a b : Nat × Nat × Nat) : Bool :=
  decide (b.2.2 < a.2.2 ∨ (a.2.2 = b.2.2 ∧ (a.1 < b.1 ∨ (a.1 = b.1 ∧ a.2.1 ≤ b.2.1))))

/-- Entries while they fit, in order. -/
def takeFit {α : Type} (size : α → Nat) : Nat → List α → List α
  | _, [] => []
  | room, x :: r => if size x ≤ room then x :: takeFit size (room - size x) r else []

/-- A table whose switch falls on refresh tick r or the tick before it (10 R297). -/
def Module.switchNear (m : Module) (t r : Nat) : Bool :=
  m.schedule.any (fun a => a.kind == 6 && a.arg / 2 ^ 32 == t && a.target == r) || (match (m.table t).old with
    | some o => o.2 == r
    | none => false)

/-- The hot row of a table row read at its owner. -/
def Module.hotOf (m : Module) (t row : Nat) (replica : Bool) : Option HotRow :=
  match (m.table t).active with
  | some d => some { table := t, version := tabVersion d, row := row, data := m.lpRead (tabRowAddr d row) (tabStride d), replica := replica }
  | none => none

/-- Lexicographic order of lists of numbers. -/
def lexLe : List Nat → List Nat → Bool
  | x :: xs, y :: ys => decide (x < y) || (x == y && lexLe xs ys)
  | _, _ => true

/-- Order of incoming replicas: estimate descending, owner device, owner tile, table, row. -/
def incomingBefore (a b : Incoming) : Bool :=
  lexLe [2 ^ 32 - a.estimate, a.device, a.owner, a.row.table, a.row.row] [2 ^ 32 - b.estimate, b.device, b.owner, b.row.table, b.row.row]

/-- Send a replicated row to its holding tiles on every module of its table (10 R298). -/
def Module.sendReplicas (m : Module) (owner est : Nat) (h : HotRow) : Module :=
  let rt := max 1 (m.cfg 0x3200 0x0D)
  match (m.table h.table).active with
  | none => m
  | some d =>
    (List.range (tabModules d)).foldl (fun (m : Module) i =>
      let dev := tabFirst d + i
      let js := if dev = m.device then (List.range rt).drop 1 else List.range rt
      js.foldl (fun (m : Module) j =>
        let tile := (owner + j * 512 / rt) % 512
        if dev = m.device then { m with tables := { m.tables with incoming := m.tables.incoming ++
            [{ tile := tile, estimate := est, device := m.device, owner := owner, row := { h with replica := true } }] } }
        else sendPieces 224 h.data (fun m l off last => m.sendLookup dev 3 last l.length h.table false tile h.version owner est off h.row l) m) m) m

/-- One tile chooses its hot and replicated rows for refresh tick r (10 R297). -/
def Module.refreshTile (m : Module) (t r : Nat) : Module :=
  let x := m.tile t
  let chosen := (sortBy candBefore (x.cands.filter (fun c => decide (m.cfg 0x3200 0x0B ≤ c.2.2) && !m.switchNear c.1 r)))
  let rows := chosen.filterMap (fun c => (m.hotOf c.1 c.2.1 false).map (fun h => (c.2.2, h)))
  let own := takeFit (fun p => p.2.data.length) (m.cfg 0x3200 0x09 * 3 / 4) rows
  let kept := x.hot.filter (fun h => m.switchNear h.table r)
  let m := m.onTile t (fun y => { y with standby := kept ++ own.map (·.2) })
  (rows.filter (fun p => decide (m.cfg 0x3200 0x0C ≤ p.1))).foldl (fun (m : Module) p => m.sendReplicas t p.1 p.2) m

/-- Tick R - 1: every tile chooses, and the flip is scheduled for tick R (10 R297). -/
def Module.hotRefresh (m : Module) : Module :=
  let r := m.clock.sfc + 1
  if r % max 1 (m.cfg 0x3200 0x0A) ≠ 0 ∨ m.schedule.any (fun a => a.kind == 7 && a.target == r) then m
  else (m.tiles.foldl (fun (m : Module) p => m.refreshTile p.1 r) m).place { kind := 7, target := r }

/-- Tick R: the areas flip, the incoming replicas fill their last quarter, and every count is halved (10 R297). -/
def Module.hotFlip (m : Module) : Module :=
  let tiles := dedup (m.tiles.map (·.1) ++ m.tables.incoming.map (·.tile))
  let m := tiles.foldl (fun (m : Module) t =>
    let inc := takeFit (fun i => i.row.data.length) (m.cfg 0x3200 0x09 / 4) (sortBy incomingBefore (m.tables.incoming.filter (fun i => i.tile == t)))
    m.onTile t (fun x => { x with
      hot := x.standby ++ inc.map (·.row), standby := x.hot
      counts := (x.counts.map (fun p => (p.1, p.2 / 2))).filter (fun p => p.2 != 0)
      cands := x.cands.map (fun c => (c.1, c.2.1, c.2.2 / 2)) })) m
  { m with tables := { m.tables with incoming := [] } }

/-- Tick N: a table switch takes effect (10 R285, R286, R299). -/
def Module.switchTable (m : Module) (t version : Nat) : Module :=
  let x := m.table t
  let release := x.active.map (fun d => (d, m.clock.sfc + 1))
  let drop (m : Module) := { m with tiles := m.tiles.map (fun (p : Nat × Tile) => (p.1, { p.2 with
    hot := p.2.hot.filter (fun h => h.table != t), standby := p.2.standby.filter (fun h => h.table != t)
    cands := p.2.cands.filter (fun c => c.1 != t) })) }
  let m := if version = 0 ∧ x.active.isNone ∨ version ≠ 0 ∧ x.staged.isNone then m else m.event 0x0006 1 (put version 32 0 + put t 6 32)
  if version = 0 then (drop m).onTable t (fun x => { x with active := none, old := release, restore := none, restoreOk := false, restoreLoads := [] })
  else match x.staged with
    | none => m
    | some d =>
      let m := m.onTable t (fun x => { x with
        active := some d, staged := none, old := release, loads := [], touched := false
        restore := some d, restoreOk := decide (tabModules d = 1) && !x.touched && x.loadsCover d, restoreLoads := x.loads })
      match x.active with
      | some a =>
        if tabSameMapping a d then
          let new (h : HotRow) : HotRow := if h.table = t then { h with version := tabVersion d, data := m.lpRead (tabRowAddr d h.row) (tabStride d) } else h
          { m with tiles := m.tiles.map (fun (p : Nat × Tile) => (p.1, { p.2 with hot := p.2.hot.map new, standby := p.2.standby.map new })) }
        else drop m
      | none => drop m

/-- Tick N + 1: the old region is released, and TABLE_ACTIVE shows the new descriptor (10 R286). -/
def Module.releaseTables (m : Module) : Module :=
  let m := { m with tables := { m.tables with tables := m.tables.tables.map (fun (p : Nat × Table) => (p.1, { p.2 with shown := p.2.active })) } }
  m.tables.tables.foldl (fun (m : Module) p => match p.2.old with
    | some o => if o.2 ≤ m.clock.sfc then
        { m.onTable p.1 (fun x => { x with old := none }) with
          mem := { m.mem with reserved := m.mem.reserved.filter (fun r => !(r.2.2 == p.1 * 2 && (r.1 == tabBase o.1 || r.1 == tabRemBase o.1))) } }
      else m
    | none => m) m

/-- A LOOKUP cell arrives (10 R290, R291, R296, R297; encoding log 40). -/
def Module.takeLookup (m : Module) (src : Nat) (p : Bytes) : Module :=
  let n := leAt p 2 2
  let last := leAt p 1 1 != 0
  let tile := leAt p 6 2 % 512
  let req := leAt p 8 4
  let owner := leAt p 12 2 % 512
  let x := leAt p 16 4
  let off := leAt p 20 4
  let data := p.drop 32
  match leAt p 0 1 with
  | 0 =>
    let occ := (List.range n).map (fun i => (leAt data (16 * i) 4, leAt data (16 * i + 4) 8, leAt data (16 * i + 12) 4))
    let same (r : Route) := r.device == src && r.tile == tile && r.request == req && r.owner == owner && !r.whole
    if m.tables.routes.any same then
      { m with tables := { m.tables with routes := m.tables.routes.map (fun r => if same r then { r with occ := r.occ ++ occ, whole := last } else r) } }
    else { m with tables := { m.tables with routes := m.tables.routes ++
        [{ device := src, tile := tile, request := req, ownDev := m.device, owner := owner, pool := owner, table := leAt p 4 1, occ := occ, whole := last }] } }
  | 1 =>
    let combine := leAt p 5 1 != 0
    let vals := (List.range n).map (fun i =>
      if combine then (leAt data (41 * i) 40, leAt data (41 * i + 40) 1) else (Acc.zero.add (fp32.xval (leAt data (4 * i) 4))).pair)
    m.takePartial tile req src owner x vals
  | 2 =>
    let rows := (List.range n).map (fun i => (leAt data (8 * i) 5, leAt data (8 * i + 5) 3))
    m.onTile tile (fun y => rows.foldl (fun y r => y.countRow (leAt p 4 1) r.1 r.2) y)
  | 4 => m.staleRow (leAt p 4 1) (leAt p 24 8)
  | _ =>
    let row := leAt p 24 8
    let same (i : Incoming) := i.tile == tile && i.device == src && i.owner == owner && i.row.table == leAt p 4 1 && i.row.row == row
    if 0 < off then
      { m with tables := { m.tables with incoming := m.tables.incoming.map (fun i => if same i then { i with row := { i.row with data := i.row.data ++ data.take n } } else i) } }
    else
      let i : Incoming := { tile := tile, estimate := x, device := src, owner := owner
                            row := { table := leAt p 4 1, version := req, row := row, data := data.take n, replica := true } }
      { m with tables := { m.tables with incoming := m.tables.incoming ++ [i] } }

end Sys2Proof.Machine
end

