-- ==== Sys2Proof/Machine/JobSteps.lean ====
section
/-! DEFINITION. The steps of reduction jobs (11 R312 to R336): contributions, low-rank factors, sparse sweeps, the
token, the verdict, and what acting on a verdict does. -/

namespace Sys2Proof.Machine

/-! ## Starting (11 R312, R326, R333) -/

/-- The warm-buffer bits of the LOWRANK tensor at table index i (11 R333). -/
def seedBits (seed i n : Nat) : List Nat :=
  let h := shake256 (ascii "FN2QSEED" ++ toLe 8 seed ++ toLe 2 i) (ceilDiv n 8)
  (List.range n).map (fun e => if (leAt h (e / 8) 1).testBit (e % 8) then 0x3F80 else 0xBF80)

/-- Zero every lane of a job. -/
def Module.zeroLanes (m : Module) (j : Nat) : Module :=
  let b := (m.job j).config
  let z := m.jobSizes b
  (m.lpClear (m.jobRegion b 0) (z.getD 0 0)).lpClear (m.jobRegion b 1) (z.getD 1 0)

/-- Empty area k (0 and 1 hold areas, 2 owner area) of every SPARSE tensor. -/
def Module.emptyAreas (m : Module) (j : Nat) (ks : List Nat) : Module :=
  let b := (m.job j).config
  (jobOfKind b 2).foldl (fun (m : Module) p =>
    ks.foldl (fun (m : Module) k =>
      m.clearArea (m.jobRegion b (sparseIndex b p.1 + k)) (keyedStride (m.tableDim (tenTable p.2))) (tenSlots p.2)) m) m

/-- A cold start: GRAD, error buffers, hold and owner areas and lanes are zero, the warm buffers seeded (11 R312, R333). -/
def Module.coldStart (m : Module) (j : Nat) : Module :=
  let b := (m.job j).config
  let z := m.jobSizes b
  let m := (m.zeroLanes j).emptyAreas j [0, 1, 2]
  let m := (jobOfKind b 1).foldl (fun (m : Module) p =>
    let k := lowIndex b p.1
    let warm := ((seedBits (jobSeed b) p.1 (tenN p.2 * tenRank p.2)).map (toLe 2)).flatten
    let m := [0, 1, 2].foldl (fun (m : Module) i => m.lpClear (m.jobRegion b (k + i)) (z.getD (k + i) 0)) m
    (m.lpWrite (m.jobRegion b (k + 3)) warm).lpWrite (m.jobRegion b (k + 4)) warm) m
  m.onJob j (fun x => { x with bufCopy := 0 })

/-- Copy the committed hold areas into the working ones (11 R326). -/
def Module.copyHold (m : Module) (j : Nat) : Module :=
  let x := m.job j
  let b := x.config
  (jobOfKind b 2).foldl (fun (m : Module) p =>
    let k := sparseIndex b p.1
    let n := (m.jobSizes b).getD k 0
    m.lpWrite (m.jobRegion b (k + (1 - x.bufCopy))) (m.lpRead (m.jobRegion b (k + x.bufCopy)) n)) m

/-- A step starts at tick n: the deadline action is placed, and the per-step marks are reset (11 R313, R314, R336). What
an unknown verdict of the step before needs stays until it is acted on (11 R323). -/
def Module.stepStart (m : Module) (j n : Nat) : Module :=
  let late := (m.job j).lateStep.isSome
  let m := if late then m else m.copyHold j
  let m := m.onJob j (fun x => { x with
    start := n, complete1 := none, complete2 := none, late := false, holdOverflow := false, ownerOverflow := false
    satCount := 0, nonCount := 0, token := none, phase1 := none, acted := false
    factP := if late then x.factP else [], af := if late then x.af else []
    digestNow := { step := x.step }, digestLast := if late then x.digestNow else x.digestLast })
  m.place { kind := 8, arg := j, target := (m.job j).deadline }

/-! ## Low-rank factors (11 R330 to R332) -/

/-- Exact sum of products. -/
def xdot (as bs : List XVal) : XVal := (as.zip bs).foldl (fun a p => a.add (p.1.mul p.2)) (.fin 0 false)

/-- One value converted to GFX64, for a job. -/
def gfxSend (f : Nat) (xs : List XVal) : List (Nat × Bool × Bool) := xs.map (gfxOf f)

/-- Send factor values of a tensor from factor element base on: into this member's own lane, and as factor cells to the
successor (11 R321; cell encoding log 35). -/
def Module.sendFactors (m : Module) (j base : Nat) (gs : List (Nat × Bool × Bool)) : Module :=
  let b := (m.job j).config
  let lane := m.ownLane b
  let m := m.countConv j (gs.filter (fun g => g.2.1)).length (gs.filter (fun g => g.2.2)).length
  let vs := gs.map (·.1)
  let m := (vs.zip (List.range vs.length)).foldl (fun (m : Module) v => m.msaAdd j (m.factorAddr b lane (base + v.2)) v.1) m
  if m.ringNext b (m.ownPos b) = m.ownPos b then m
  else ((chunks 30 vs).zip (List.range (ceilDiv vs.length 30))).foldl (fun (m : Module) c =>
    m.sendRing j (2 ^ 41) (toLe 1 2 ++ toLe 1 1 ++ toLe 1 lane ++ toLe 1 0 ++ toLe 2 c.1.length ++ zeros 2 ++ toLe 8 (base + 30 * c.2)
      ++ (c.1.map (toLe 8)).flatten)) m

/-- BF16 values of the committed warm buffer, by (j, t). -/
def Module.warm (m : Module) (j i : Nat) : List Nat :=
  let x := m.job j
  let t := jobTensor x.config i
  let bs := m.lpRead (m.jobRegion x.config (lowIndex x.config i + 3 + x.bufCopy)) (tenN t * tenRank t * 2)
  (List.range (tenN t * tenRank t)).map (fun e => leAt bs (2 * e) 2)

/-- The P factor of one tensor at tick C (11 R330). -/
def Module.pFactor (m : Module) (j i : Nat) : Module :=
  let x := m.job j
  let b := x.config
  let t := jobTensor b i
  let mm := tenM t
  let n := tenN t
  let r := tenRank t
  let f := jobFrac b
  let grad := m.lpRead (m.jobRegion b (lowIndex b i)) (mm * n * 8)
  let err := m.lpRead (m.jobRegion b (lowIndex b i + 1 + x.bufCopy)) (mm * n * 4)
  let af := (List.range (mm * n)).map (fun e => ((XVal.fin (gfxVal f (leAt grad (8 * e) 8)) false).add (fp32.xval (leAt err (4 * e) 4))).round fp32)
  let ab := af.map (fun v => bf16.xval (narrow32 v))
  let qw := (m.warm j i).map bf16.xval
  let col (u : Nat) := (List.range n).map (fun jj => qw.getD (jj * r + u) (.fin 0 false))
  let pl := ((chunks n ab).map (fun row => (List.range r).map (fun u => xdot row (col u)))).flatten
  (m.onJob j (fun x => { x with af := mPut x.af i af })).sendFactors j (factorBase b i) (gfxSend f pl)

/-- The lanes summed: lane 0 and those of a mask (11 R325). -/
def laneList (lanes mask : Nat) : List Nat := (List.range lanes).filter (fun l => l == 0 || mask.testBit l)

/-- The sum over lanes of words at an address function, a signed integer modulo 2^64. -/
def Module.laneSum (m : Module) (ls : List Nat) (addr : Nat → Nat) : Nat := ls.foldl (fun a l => a + leNat (m.lpRead (addr l) 8)) 0 % 2 ^ 64

/-- Orthonormalise one column against the earlier ones (11 R331). -/
def orthoColumn (done : List (List Nat)) (c : List Nat) : List Nat :=
  let c := done.foldl (fun c u =>
    let d := (xdot (c.map fp32.xval) (u.map fp32.xval)).round fp32
    (c.zip u).map (fun p => ((fp32.xval p.1).add ((fp32.xval (neg32 d)).mul (fp32.xval p.2))).round fp32)) c
  let s := xdot (c.map fp32.xval) (c.map fp32.xval)
  match s with
  | .fin v _ =>
    if v.num = 0 then c.map (fun _ => 0)
    else
      let rho := fp32.roundSqrt (1 / v)
      c.map (fun y => ((fp32.xval y).mul (fp32.xval rho)).round fp32)
  | .inf _ => c.map (fun y => ((fp32.xval y).mul (.fin 0 false)).round fp32)
  | .nan => c.map (fun _ => nan32)

/-- P orthonormalised, by columns: BF16 values (11 R331). -/
def orthoP (f mm r : Nat) (p : List Nat) : List Nat :=
  let cols := (List.range r).map (fun u => (List.range mm).map (fun i => (XVal.fin (gfxVal f (p.getD (i * r + u) 0)) false).round fp32))
  let qs := cols.foldl (fun done c => done ++ [orthoColumn done c]) []
  ((List.range mm).map (fun i => qs.map (fun c => narrow32 (c.getD i 0)))).flatten

/-- The lanes that phase 1 takes, from its bitmap (11 R325). -/
def lanesOf (b : Bytes) (ok : Nat → Bool) : Nat :=
  (List.range (jobMembers b)).foldl (fun mask p =>
    if jobRole b p = 1 then
      if ok p then setBit mask (jobLane b p) true else setBit mask (jobLane b p + 1) true
    else mask) 0

/-- The Q factor of one tensor at tick C + r: P orthonormalised, new error buffer, factor cells (11 R331, R332). -/
def Module.qFactor (m : Module) (j i mask : Nat) : Module :=
  let x := m.job j
  let b := x.config
  let t := jobTensor b i
  let mm := tenM t
  let n := tenN t
  let r := tenRank t
  let f := jobFrac b
  let ls := laneList (jobLanes b) mask
  let p := (List.range (mm * r)).map (fun e => m.laneSum ls (fun l => m.factorAddr b l (factorBase b i + e)))
  let pb := orthoP f mm r p
  let pbx := pb.map bf16.xval
  let af := (mGetD x.af i [])
  let abx := af.map (fun v => bf16.xval (narrow32 v))
  let pcol (u : Nat) := (List.range mm).map (fun ii => pbx.getD (ii * r + u) (.fin 0 false))
  let acol (jj : Nat) := (List.range mm).map (fun ii => abx.getD (ii * n + jj) (.fin 0 false))
  let gs := gfxSend f ((List.range n).map (fun jj => (List.range r).map (fun u => xdot (acol jj) (pcol u)))).flatten
  let ql := gs.map (·.1)
  let err := ((List.range mm).map (fun ii => (List.range n).map (fun jj =>
    let s := xdot ((List.range r).map (fun u => pbx.getD (ii * r + u) (.fin 0 false)))
      ((List.range r).map (fun u => .fin (gfxVal f (ql.getD (jj * r + u) 0)) false))
    ((fp32.xval (af.getD (ii * n + jj) 0)).add ((XVal.fin (-1) true).mul s)).round fp32))).flatten
  let m := m.lpWrite (m.jobRegion b (lowIndex b i + 2 - x.bufCopy)) (err.map (toLe 4)).flatten
  (m.onJob j (fun x => { x with factP := mPut x.factP i pb })).sendFactors j (factorBase b i + mm * r) gs

/-! ## Sparse sweep (11 R334) -/

/-- Send the working hold area of a SPARSE tensor to the owners, in ascending slot order. -/
def Module.sweep (m : Module) (j i : Nat) : Module :=
  let x := m.job j
  let b := x.config
  let t := jobTensor b i
  match (m.table (tenTable t)).active with
  | none => m
  | some d =>
    let base := m.jobRegion b (sparseIndex b i + 1 - x.bufCopy)
    let stride := keyedStride (tabDim d)
    (List.range (2 ^ tenSlots t)).foldl (fun (m : Module) h =>
      let key := leNat (m.lpRead (base + h * stride) 8)
      if key = emptyKey then m
      else
        let vals := (List.range (tabDim d)).map (fun c => leNat (m.lpRead (base + h * stride + 8 + 8 * c) 8))
        ((chunks 30 vals).zip (List.range (ceilDiv vals.length 30))).foldl (fun (m : Module) c =>
          m.takeLine { port := 0, job := j, device := tabOwnerDev d (key / 256), addr := key, keyed := true, tensor := i
                       lane := m.ownLane b, first := 30 * c.2
                       values := (List.range c.1.length).map (fun e => (30 * c.2 + e, c.1.getD e 0)) }) m) m

/-- A SPARSE tensor sends in the current step. -/
def Job.sendsSparse (x : Job) (t : Nat) : Bool := decide (x.step % tenEvery t = tenEvery t - 1)

/-! ## The verdict (11 R322 to R325) -/

/-- The first present ring position, and the last. -/
def Module.ringEnds (m : Module) (b : Bytes) : Nat × Nat :=
  let ps := (List.range (jobMembers b)).filter (fun p => m.present (jobDev b p))
  (ps.headD 0, ps.getLastD 0)

/-- Bitmap of the ring positions that have left cascade frames (11 R324). -/
def Module.leftBits (m : Module) (b : Bytes) : Nat :=
  (List.range (jobMembers b)).foldl (fun a p => if m.present (jobDev b p) then a else setBit a p true) 0

/-- Bit of a ring position in every phase. -/
def bitsAll (two : Bool) (t : StepToken) (p : Nat) : Bool := t.bits2.testBit p && (!two || t.bits1.testBit p)

/-- The verdict of a step from its token (11 R325; the order of reasons log 39). -/
def formVerdict (b : Bytes) (step start : Nat) (tok : StepToken) : Verdict :=
  let two := jobTwoPhase b
  let n := jobMembers b
  let left := (List.range n).filter (fun p => tok.left.testBit p)
  let bothZero (p : Nat) : Bool :=
    let q := ((List.range n).find? (fun q => jobPair b q == jobPair b p && jobRole b q == 3 - jobRole b p)).getD p
    (!tok.bits2.testBit p && !tok.bits2.testBit q) || (two && !tok.bits1.testBit p && !tok.bits1.testBit q)
  let missing := (List.range n).filter (fun p =>
    (jobRole b p == 0 && !bitsAll two tok p) || (jobRole b p != 0 && bothZero p))
  let backups := ((List.range n).filter (fun p => jobRole b p == 1 && !bitsAll two tok p)).length
  let base : Verdict := { step := step, start := start, saturated := tok.saturated, nonfinite := tok.nonfinite
                          lanes1 := lanesOf b (fun p => tok.bits1.testBit p), lanes2 := lanesOf b (bitsAll two tok) }
  if !left.isEmpty then { base with outcome := 1, reason := 2, firstMissing := left.headD 511 }
  else if !missing.isEmpty then { base with outcome := 1, reason := 1, firstMissing := missing.headD 511 }
  else if tok.overflow then { base with outcome := 1, reason := 3, firstMissing := 511 }
  else if jobPolicy b && (tok.saturated != 0 || tok.nonfinite != 0) then { base with outcome := 2, backups := backups }
  else { base with backups := backups }

/-- Keep a verdict, newest first, of the last 4 steps; one for the same step and start stands (11 R323). -/
def Job.keepVerdict (x : Job) (v : Verdict) : Job :=
  if x.verdicts.any (fun w => w.step == v.step && w.start == v.start) then x else { x with verdicts := (v :: x.verdicts).take 4 }

/-- The verdict of the current step, if held. -/
def Job.verdictNow (x : Job) : Option Verdict := x.verdicts.find? (fun v => v.step == x.step && v.start == x.start)

/-! ## The token (11 R322; cell encoding log 35) -/

/-- Payload of a TOKEN cell; the start tick tells the repeats of a step apart. -/
def tokenPayload (phase lap step start : Nat) (t : StepToken) : Bytes :=
  toLe 32 t.bits1 ++ toLe 32 t.bits2 ++ toLe 32 t.left ++ toLe 4 t.saturated ++ toLe 4 t.nonfinite ++ toLe 1 (b2n t.overflow)
    ++ toLe 1 phase ++ toLe 1 lap ++ zeros 1 ++ toLe 4 step ++ toLe 8 start

/-- The token in a payload: phase, lap, step, contents. -/
def tokenOf (p : Bytes) : Nat × Nat × Nat × StepToken :=
  (leAt p 105 1, leAt p 106 1, leAt p 108 4,
   { bits1 := leAt p 0 32, bits2 := leAt p 32 32, left := leAt p 64 32, saturated := leAt p 96 4, nonfinite := leAt p 100 4
     overflow := leAt p 104 1 != 0 })

/-- Send the token on to the ring successor. -/
def Module.sendToken (m : Module) (j phase lap : Nat) (t : StepToken) : Module :=
  let x := m.job j
  (m.sendTo (m.ringSucc x.config) 19 (put j 6 0) (tokenPayload phase lap x.step x.start t)).1

/-- The end of a phase is known here: the phase-1 contents, or the verdict of the step. -/
def Module.phaseDone (m : Module) (j phase : Nat) (t : StepToken) : Module :=
  m.onJob j (fun x => if phase = 1 then { x with phase1 := some t } else x.keepVerdict (formVerdict x.config x.step x.start t))

/-- This member's contribution to a phase. -/
def Job.complete (x : Job) (phase : Nat) : Bool :=
  if phase = 1 then x.complete1 == some true && !x.late else x.complete2 == some true && !x.late && !x.holdOverflow

/-- This member's part of the first lap: flush, its bit, its counts. -/
def Module.tokenJoin (m : Module) (j phase : Nat) (t : StepToken) : Module × StepToken :=
  let m := m.flushLines j
  let x := m.job j
  let p := m.ownPos x.config
  let ok := x.complete phase
  (m, { t with bits1 := if phase = 1 then setBit t.bits1 p ok else t.bits1
               bits2 := if phase = 1 then t.bits2 else setBit t.bits2 p ok
               left := t.left ||| m.leftBits x.config
               saturated := satAdd 32 t.saturated x.satCount, nonfinite := satAdd 32 t.nonfinite x.nonCount })

/-- The start tick of a phase has passed at this member. -/
def Job.phaseBegun (x : Job) (phase sfc : Nat) : Bool :=
  decide (x.close + (if phase = 2 ∧ jobTwoPhase x.config then jobRing x.config else 0) ≤ sfc)

/-- A token is at this member (11 R322). -/
def Module.tokenAt (m : Module) (j phase lap : Nat) (t : StepToken) : Module :=
  let x := m.job j
  let ends := m.ringEnds x.config
  let p := m.ownPos x.config
  if !x.phaseBegun phase m.clock.sfc then m.onJob j (fun x => { x with token := some (phase * 4 + lap, t) })
  else if lap = 0 then
    let r := m.tokenJoin j phase t
    if ends.1 = ends.2 then r.1.phaseDone j phase { r.2 with overflow := r.2.overflow || x.ownerOverflow }
    else r.1.sendToken j phase (if p = ends.2 then 1 else 0) r.2
  else if lap = 1 then
    let t := { t with overflow := t.overflow || x.ownerOverflow }
    if p = ends.2 then (m.phaseDone j phase t).sendToken j phase 2 t else m.sendToken j phase 1 t
  else
    let m := m.phaseDone j phase t
    if m.ringNext x.config p = ends.2 then m else m.sendToken j phase 2 t

/-- Position 0 issues the token at a phase's start tick; a token that waited here goes on (11 R322). -/
def Module.phaseToken (m : Module) (j phase : Nat) : Module :=
  let x := m.job j
  let m := if m.ownPos x.config = (m.ringEnds x.config).1 then
      m.tokenAt j phase 0 (match x.phase1 with
        | some t => if phase = 2 then { bits1 := t.bits1, left := t.left } else {}
        | none => {})
    else m
  match (m.job j).token with
  | some (k, t) => if k / 4 = phase then (m.onJob j (fun x => { x with token := none })).tokenAt j phase (k % 4) t else m
  | none => m

/-! ## Phases at their start ticks (11 R313, R315, R322) -/

/-- The done counter has reached its target. -/
def Module.jobDoneNow (m : Module) (b : Bytes) : Bool :=
  evtReached (mGetD (m.tile (jobDoneTile b)).events (jobDoneEvt b) 0) (jobDoneTarget b)

/-- Work of the final phase: the sweep of every SPARSE tensor that sends in this step. -/
def Module.sweepAll (m : Module) (j : Nat) : Module :=
  let x := m.job j
  (jobOfKind x.config 2).foldl (fun (m : Module) p => if x.sendsSparse p.2 then m.sweep j p.1 else m) m

/-- What a running job does at tick n, after its steps have started. -/
def Module.phaseTick (m : Module) (j n : Nat) : Module :=
  let x := m.job j
  let b := x.config
  if x.state ≠ 2 then m
  else if n = x.close then
    let ok := m.jobDoneNow b
    if jobTwoPhase b then
      let m := m.onJob j (fun x => { x with complete1 := some ok, complete2 := some ok })
      ((jobOfKind b 1).foldl (fun (m : Module) p => m.pFactor j p.1) m).phaseToken j 1
    else ((m.onJob j (fun x => { x with complete2 := some ok })).sweepAll j).phaseToken j 2
  else if jobTwoPhase b && n == x.close + jobRing b then
    match x.phase1 with
    | some t => (((jobOfKind b 1).foldl (fun (m : Module) p => m.qFactor j p.1 (lanesOf b (fun q => t.bits1.testBit q))) m).sweepAll j).phaseToken j 2
    | none => ((m.onJob j (fun x => { x with complete2 := some false })).sweepAll j).phaseToken j 2
  else m

/-! ## Acting on a verdict (11 R326 to R329, R332) -/

/-- An SGD step on a stored parameter: exact, one rounding (11 R327). -/
def sgdStep (f : Fmt) (p lr : Nat) (g : Rat) : Nat :=
  ((f.xval p).add ((XVal.fin (-1) true).mul ((fp32.xval lr).mul (.fin g false)))).round f

/-- Store one owned element's update: DELIVER or SGD. -/
def Module.applyElem (m : Module) (t e : Nat) (g : Rat) : Module :=
  if tenUpdate t = 0 then m.lpWrite (tenParam t + 4 * e) (toLe 4 (round32 g))
  else if tenBf16 t then
    let a := tenParam t + 2 * e
    m.lpWrite a (toLe 2 (sgdStep bf16 (leNat (m.lpRead a 2)) (tenLr t) g))
  else
    let a := tenParam t + 4 * e
    m.lpWrite a (toLe 4 (sgdStep fp32 (leNat (m.lpRead a 4)) (tenLr t) g))

/-- The owner update of a DENSE tensor on this member's shard (11 R327). -/
def Module.updateDense (m : Module) (j : Nat) (t : Nat) (ls : List Nat) : Module :=
  let b := (m.job j).config
  let lo := m.ownPos b * jobShard b
  (List.range (jobShard b)).foldl (fun (m : Module) e =>
    if tenBase t ≤ lo + e ∧ lo + e < tenBase t + tenElems t then
      m.applyElem t e (gfxVal (jobFrac b) (m.laneSum ls (fun l => m.denseAddr b l e)))
    else m) m

/-- Q of a LOWRANK tensor, by (j, t). -/
def Module.qSum (m : Module) (j i : Nat) (ls : List Nat) : List Nat :=
  let b := (m.job j).config
  let t := jobTensor b i
  (List.range (tenN t * tenRank t)).map (fun e => m.laneSum ls (fun l => m.factorAddr b l (factorBase b i + tenM t * tenRank t + e)))

/-- A LOWRANK tensor: the new warm buffer, and at its owner the update (11 R332). -/
def Module.updateLow (m : Module) (j i : Nat) (ls : List Nat) : Module :=
  let x := m.job j
  let b := x.config
  let t := jobTensor b i
  let f := jobFrac b
  let r := tenRank t
  let q := m.qSum j i ls
  let m := m.lpWrite (m.jobRegion b (lowIndex b i + 4 - x.bufCopy)) ((q.map (fun g => toLe 2 (narrow32 (round32 (gfxVal f g))))).flatten)
  if tenOwner t ≠ m.ownPos b then m
  else
    let pb := (mGetD x.factP i []).map (fun v => if bf16.isFin v then bf16.val v else 0)
    let qv := q.map (gfxVal f)
    (List.range (tenM t)).foldl (fun (m : Module) ii => (List.range (tenN t)).foldl (fun (m : Module) jj =>
      m.applyElem t (ii * tenN t + jj) (dotR ((List.range r).map (fun u => pb.getD (ii * r + u) 0)) ((List.range r).map (fun u => qv.getD (jj * r + u) 0)))) m) m

/-- The rows of an owner area with an entry in a taken lane: row numbers in ascending order (11 R328). -/
def Module.areaRows (m : Module) (base stride log2 : Nat) (ls : List Nat) : List Nat :=
  let ks := ((List.range (2 ^ log2)).map (fun h => leNat (m.lpRead (base + h * stride) 8))).filter (fun k => k != emptyKey && ls.contains (k % 256))
  sortBy (fun a b => decide (a ≤ b)) (dedup (ks.map (· / 256)))

/-- The code of a value in a row format with TABLE_SCALE, clamped to ±qmax (11 R328); a NaN takes a free code (log 2). -/
def scaledCode (fmt : Nat) (free : Nat) (x : XVal) : Nat :=
  let g := if fmt = 2 then 3 else if fmt = 3 then 2 else fmt
  let q := qmaxOf g
  match x with
  | .fin v _ =>
    let r := roundGrid g v
    gridCode g (if q < r then q else if r < -q then -q else r)
  | .inf neg => gridCode g (if neg then -q else q)
  | .nan => free % 2 ^ (if fmt = 3 then 4 else 8)

/-- OUT_FMT of 07 Table 07-9 for a narrow ROW_FMT: INT8, INT4, FP8-E4M3, FP8-E5M2. -/
def rowOutFmt (fmt : Nat) : Nat := if fmt = 2 then 3 else if fmt = 3 then 2 else fmt

/-- A row re-encoded from its new values y (11 R328). -/
def encodeRow (d free : Nat) (ys : List Nat) : Bytes :=
  let f := tabFmt d
  if f = 0 then (ys.map (toLe 4)).flatten
  else if f = 1 then (ys.map (fun y => toLe 2 (narrow32 y))).flatten
  else if tabScaleMode d then
    packCodes (rowOutFmt f - 2) (ys.map (fun y => scaledCode f free ((fp32.xval y).mul (.fin (1 / fp32.val (tabScale d)) false))))
  else
    let r := narrowRow (rowOutFmt f) false 1 ys (ys.map (fun _ => one32))
    toLe 16 r.scale ++ packCodes (rowOutFmt f - 2) r.codes

/-- TABLE_SGD of one row: its new bytes (11 R328). -/
def Module.sgdRow (m : Module) (j i d row : Nat) (ls : List Nat) : Bytes :=
  let x := m.job j
  let b := x.config
  let t := jobTensor b i
  let base := m.jobRegion b (sparseIndex b i + 2)
  let stride := keyedStride (tabDim d)
  let slots := (ls.map (fun l => (m.keyProbe base stride (tenSlots t) (row * 256 + l) (2 ^ tenSlots t) (keySlot (tenSlots t) (row * 256 + l)) 0).1)).zip ls
  let used := slots.filterMap (fun s => match s.1 with
    | some h => if leNat (m.lpRead (base + h * stride) 8) = row * 256 + s.2 then some h else none
    | none => none)
  let g (c : Nat) := gfxVal (jobFrac b) (used.foldl (fun a h => a + leNat (m.lpRead (base + h * stride + 8 + 8 * c) 8)) 0 % 2 ^ 64)
  let e := tabDecode d (m.lpRead (tabRowAddr d row) (tabStride d))
  encodeRow d (m.freeBits 8) ((e.zip (List.range e.length)).map (fun p =>
    (p.1.add ((XVal.fin (-1) true).mul ((fp32.xval (tenLr t)).mul (.fin (g p.2) false)))).round fp32))

/-- TABLE_SGD of a SPARSE tensor: rows to rewrite at tick D + 1 (11 R328). -/
def Module.updateSparse (m : Module) (j i : Nat) (ls : List Nat) : Module :=
  let b := (m.job j).config
  let t := jobTensor b i
  match (m.table (tenTable t)).active with
  | none => m
  | some d =>
    let rows := m.areaRows (m.jobRegion b (sparseIndex b i + 2)) (keyedStride (tabDim d)) (tenSlots t) ls
    let new := rows.map (fun r => (tenTable t, r, m.sgdRow j i d r ls))
    new.foldl (fun (m : Module) r => m.sendStale d r.1 r.2.1) (m.onJob j (fun x => { x with rows := x.rows ++ new })).drawn

/-- The owner updates of an APPLIED step, and the commit of its buffers (11 R326, R327). -/
def Module.applyStep (m : Module) (j : Nat) (v : Verdict) : Module :=
  let x := m.job j
  let b := x.config
  let ls := laneList (jobLanes b) v.lanes2
  let m := (jobOfKind b 0).foldl (fun (m : Module) p => m.updateDense j p.2 ls) m
  let m := (jobOfKind b 1).foldl (fun (m : Module) p => m.updateLow j p.1 ls) m
  let m := (jobOfKind b 2).foldl (fun (m : Module) p => if x.sendsSparse p.2 then
      (m.updateSparse j p.1 ls).clearArea (m.jobRegion b (sparseIndex b p.1 + 1 - x.bufCopy)) (keyedStride (m.tableDim (tenTable p.2))) (tenSlots p.2)
    else m) m
  m.onJob j (fun x => { x with bufCopy := 1 - x.bufCopy, step := (x.step + 1) % 2 ^ 32 })

/-- The step record (11 Table 11-4). -/
def stepRecord (j deadline : Nat) (v : Verdict) : Bytes :=
  toLe 32 (put j 6 0 + put v.outcome 8 64 + put v.reason 4 72 + put v.firstMissing 9 79 + put v.backups 8 88 + put v.nonfinite 32 96
    + put v.saturated 32 128 + put v.step 32 160 + put deadline 64 192)

/-- Act on a verdict (11 R323, R326, R327, R329); a late one may come when the next step has begun. -/
def Module.actOn (m : Module) (j : Nat) (v : Verdict) : Module :=
  let x := m.job j
  let b := x.config
  let m := if v.outcome = 0 then (m.applyStep j v).count 0x3300 0x0E 1
    else
      let m := m.event 0x0007 1 (put v.step 32 0 + put j 6 32)
      if v.outcome = 1 then m.count 0x3300 0x13 1
      else (m.onJob j (fun x => { x with step := (x.step + 1) % 2 ^ 32 })).count 0x3300 0x14 1
  let m := (m.zeroLanes j).emptyAreas j [2]
  let m := if x.start = v.start then m else m.copyHold j
  let rec_ := stepRecord j (v.start + jobSpan b) v
  let m := (m.lpWrite (jobStatusAddr b) rec_).count 0x3300 0x15 v.backups
  let m := m.onJob j (fun y => { y with record := rec_, acted := if y.start = v.start then true else y.acted, lateStep := none
                                        digestNow := if y.start = v.start then y.digestNow else { y.digestNow with step := y.step }
                                        digestLast := if y.start = v.start then y.digestNow else y.digestLast })
  m.advance (jobNotifyTile b) (jobNotifyEvt b) 0 1

/-- Tick D of a job: it acts on the verdict it holds, or acts late (11 R323). -/
def Module.deadlineAct (m : Module) (j : Nat) : Module :=
  let x := m.job j
  if x.state ≠ 2 ∨ x.acted ∨ m.clock.sfc ≠ x.deadline then m
  else match x.verdictNow with
    | some v => m.actOn j v
    | none => m.onJob j (fun x => { x with lateStep := some x.step, acted := true })

/-- Rows of a job rewritten at tick D + 1: LPDDR5X, the owner's hot copy, and out of every replica (10 R287, 11 R328). -/
def Module.rewriteRows (m : Module) (j : Nat) : Module :=
  let rows := (m.job j).rows
  let m := rows.foldl (fun (m : Module) r => match (m.table r.1).active with
    | none => m
    | some d =>
      let m := (m.lpWrite (tabRowAddr d r.2.1) r.2.2).regionTouched (tabRowAddr d r.2.1) r.2.2.length
      let put (h : HotRow) : HotRow := if h.table = r.1 ∧ h.row = r.2.1 ∧ !h.replica then { h with data := r.2.2 } else h
      let m := { m with tiles := m.tiles.map (fun (p : Nat × Tile) => (p.1, { p.2 with hot := p.2.hot.map put, standby := p.2.standby.map put })) }
      (m.staleRow r.1 r.2.1).count 0x3300 0x1B 1) m
  m.onJob j (fun x => { x with rows := [] })

/-- The rows of every job are rewritten, and replicas of rewritten rows go until the next refresh (10 R287). -/
def Module.rewriteAll (m : Module) : Module :=
  let m := m.jobs.jobs.foldl (fun (m : Module) p => m.rewriteRows p.1) m
  let gone (h : HotRow) : Bool := h.replica && m.tables.stale.contains (h.table, h.row)
  { m with
    tiles := m.tiles.map (fun (p : Nat × Tile) => (p.1, { p.2 with
      hot := p.2.hot.filter (fun h => !gone h), standby := p.2.standby.filter (fun h => !gone h) }))
    tables := { m.tables with incoming := m.tables.incoming.filter (fun i => !gone i.row), stale := [] } }

/-- A job at tick n (11 R312, R313): its start, the next step, or its end, and then its phases. On a master that is no
member it only counts as running. -/
def Module.jobTick (m : Module) (j n : Nat) : Module :=
  let x := m.job j
  if (jobPos x.config m.device).isNone then
    if x.state = 1 ∧ x.pending = some n then m.onJob j (fun x => { x with state := if m.cfgB 0x3300 0x01 then 2 else 1, pending := none }) else m
  else
  let m := if x.state = 1 ∧ x.pending = some n then
      if m.cfgB 0x3300 0x01 then
        ((m.onJob j (fun x => { x with state := 2, step := 0, pending := none, stopping := false, verdicts := [], lateStep := none })).coldStart j).stepStart j n
      else m.onJob j (fun x => { x with pending := none })
    else if x.state = 2 ∧ n = x.deadline + 1 then
      if x.stopping then m.onJob j (fun x => { x with state := 1, stopping := false }) else m.stepStart j n
    else m
  m.phaseTick j n

/-- Every job at tick n. -/
def Module.jobsTick (m : Module) (n : Nat) : Module := m.jobs.jobs.foldl (fun (m : Module) p => m.jobTick p.1 n) m

/-! ## Ring cells (11 R320, R321, R336; encoding log 35) -/

/-- A RING cell arrives from the predecessor. -/
def Module.takeRing (m : Module) (arg : Nat) (pay : Bytes) : Module :=
  let j := fld arg 5 0
  let hi := fld arg 47 6
  let x := m.job j
  let m := m.count 0x3300 0x1A 1
  if x.state ≠ 2 then m
  else
    let m := m.onJob j (fun x => x.received pay)
    if !hi.testBit 41 then
      m.takeLine { port := 0, job := j, device := fld hi 40 33, addr := 256 * fld hi 32 0, lane := 0
                   values := (List.range 32).map (fun i => (i, leAt pay (8 * i) 8)) }
    else
      let n := leAt pay 4 2
      let vs := (List.range n).map (fun i => leAt pay (16 + 8 * i) 8)
      if leAt pay 0 1 = 1 then
        let first := leAt pay 6 2
        m.takeLine { port := 0, job := j, device := leAt pay 1 1, lane := leAt pay 2 1, tensor := leAt pay 3 1, first := first, addr := leAt pay 8 8
                     keyed := true, values := (List.range n).map (fun e => (first + e, vs.getD e 0)) }
      else
        let hops := leAt pay 1 1
        let b := x.config
        let m := (vs.zip (List.range n)).foldl (fun (m : Module) v => m.msaAdd j (m.factorAddr b (leAt pay 2 1) (leAt pay 8 8 + v.2)) v.1) m
        if hops + 1 < jobMembers b then m.sendRing j hi (splice pay 1 (toLe 1 (hops + 1))) else m

/-- A TOKEN cell arrives. -/
def Module.takeToken (m : Module) (arg : Nat) (pay : Bytes) : Module :=
  let j := fld arg 5 0
  let r := tokenOf pay
  if (m.job j).state ≠ 2 ∨ r.2.2.1 ≠ (m.job j).step ∨ leAt pay 112 8 ≠ (m.job j).start then m else m.tokenAt j r.1 r.2.1 r.2.2.2

/-- An ABORT says that a link of a job's ring left UP in a phase: the step's verdict is FAILED (14 R416). -/
def Module.takeAbort (m : Module) (arg : Nat) (pay : Bytes) : Module :=
  let j := fld arg 5 0
  let x := m.job j
  if x.state ≠ 2 ∨ leAt pay 0 4 ≠ x.step ∨ x.acted then m
  else
    let v : Verdict := { step := x.step, start := x.start, outcome := 1, reason := 2, firstMissing := leAt pay 4 2 }
    m.onJob j (fun x => { x with verdicts := (v :: x.verdicts.filter (fun w => !(w.step == v.step && w.start == v.start))).take 4 })

/-- The verdict in the 64 bytes that a member reads from its predecessor: the step record, then the backup lanes taken
in phase 1 and in the final phase, one bit per pair (log 35). -/
def verdictOf (b : Bytes) (r : Bytes) : Verdict :=
  let w := leAt r 0 32
  let lanes (mask : Nat) := lanesOf b (fun p => !mask.testBit (jobPair b p))
  { step := fld w 191 160, start := fld w 255 192 - jobSpan b, outcome := fld w 71 64, reason := fld w 75 72, firstMissing := fld w 87 79
    backups := fld w 95 88, nonfinite := fld w 127 96, saturated := fld w 159 128, lanes1 := lanes (leAt r 32 16), lanes2 := lanes (leAt r 48 16) }

/-- A late verdict arrives: the member acts on it (11 R323). -/
def Module.lateVerdict (m : Module) (j : Nat) (r : Bytes) : Module :=
  let x := m.job j
  let v := verdictOf x.config r
  if x.state = 2 ∧ x.lateStep = some v.step then ((m.onJob j (fun x => x.keepVerdict v)).actOn j v).count 0x3300 0x16 1 else m

/-! ## A link that leaves UP (14 R391, R416) -/

/-- The job is in a phase of its step. -/
def Module.inPhase (m : Module) (j : Nat) : Bool :=
  let x := m.job j
  x.state == 2 && decide (x.close ≤ m.clock.sfc ∧ m.clock.sfc < x.deadline)

/-- Flood an ABORT for every job in a phase whose ring route to the successor begins with a port (14 R416). -/
def Module.abortJobs (m : Module) (p : Nat) : Module :=
  ((m.jobs.jobs.filter (fun e => m.inPhase e.1 && m.ringPort e.2.config == some p)).map (·.1)).foldl (fun (m : Module) j =>
    let x := m.job j
    let pay := toLe 4 x.step ++ toLe 2 (m.ringNext x.config (m.ownPos x.config))
    let m := { m with cascade := { m.cascade with aborts := ((m.device, j, x.step) :: m.cascade.aborts).take 256 } }
    let m := (m.upPorts.filter (fun q => q != p)).foldl (fun (m : Module) q => m.sendCell q (mkCell (m.linkPort q).neighDev m.device 20 0 0 j pay)) m
    m.takeAbort j pay) m

/-- A link changes its state: one that leaves UP first aborts the steps whose ring it carries. -/
def Module.linkTo (m : Module) (p st : Nat) : Module :=
  (if (m.linkPort p).state = 3 ∧ st ≠ 3 then m.abortJobs p else m).setLink p st

end Sys2Proof.Machine
end

