-- ==== Sys2Proof/Machine/Select.lean ====
section
/-! DEFINITION. Selection on a tile: SKSCAN, WINS, WDRAIN, ARGMAX and the winner writes of a collective (chapter 9,
08 R235, R236). -/

namespace Sys2Proof.Machine

/-- Replace the runs of a tile. -/
def Module.setRuns (m : Module) (t : Nat) (l : List Run) : Module := m.onTile t (fun x => { x with runs := l })

/-! ## SKSCAN (05 R134, 08 R235) -/

/-- Sketch width W of an SKSCAN. -/
def skW (w : Nat) : Nat := 64 * 2 ^ fld w 115 113
/-- GROUP_N. -/
def skN (w : Nat) : Nat := fld w 157 149
/-- REC_COUNT. -/
def skRecs (w : Nat) : Nat := fld w 112 85

/-- The group entries of an SKSCAN (08 Table 08-9). -/
def Module.skGroup (m : Module) (t k w : Nat) : List Nat :=
  (List.range (skN w)).map (fun i => leNat (m.sliceRead t ((m.ctx t k).at (fld w 148 128) + 16 * i) 16))

/-- WLIST of a group entry. -/
def grpList (g : Nat) : Nat := fld g 50 43
/-- WCOUNT of a group entry. -/
def grpCount (g : Nat) : Nat := fld g 55 51
/-- TAIL_CAP of a group entry. -/
def grpTail (g : Nat) : Nat := fld g 100 85

/-- The filter of a group entry: none, or the bytes that its header gives. -/
def Module.grpFilter (m : Module) (t k g : Nat) : Bytes :=
  if g.testBit 42 then
    let a := (m.ctx t k).at (fld g 41 21)
    m.sliceRead t a (8 + 16 * leNat (m.sliceRead t a 1))
  else []

/-- Two entries of a group share lists. -/
def groupClash : List Nat → Bool
  | [] => false
  | g :: r => r.any (fun h => spansMeet (grpList g) (grpCount g) (grpList h) (grpCount h)) || groupClash r

/-- Faults of an SKSCAN. -/
def Module.skCheck (m : Module) (s : StreamSet) (t k w : Nat) : Nat :=
  let c := m.ctx t k
  let gs := m.skGroup t k w
  let runs := (m.tile t).runs
  let ranges := decide (4 < fld w 115 113) || skN w == 0 || decide (16384 / skW w < skN w) || skRecs w == 0
  firstFault [
    (gs.any (fun g => fld g 127 101 != 0 || fld g 63 56 != 0), 2),
    (!c.holds (fld w 84 64) (skRecs w * recordBytes (skW w)) || !c.holds (fld w 148 128) (16 * skN w)
      || gs.any (fun g => !c.holds (fld g 20 0) (skW w / 8) || !c.holds (fld g 84 64) (8 * grpTail g)
        || (g.testBit 42 && !c.holds (fld g 41 21) (m.grpFilter t k g).length)), 3),
    (4 * fld w 84 64 % 16 != 0, 4),
    (ranges || groupClash gs || gs.any (fun g => grpCount g == 0 || decide (16 < grpCount g) || decide (256 < grpList g + grpCount g)
      || spanClash runs (grpList g) (grpCount g)
      || (findRun runs (grpList g) (grpCount g)).any (fun r => r.header != scanHeader (grpCount g))
      || (g.testBit 42 && filterMalformed (m.grpFilter t k g) (m.grpFilter t k g).length)), 10),
    (gs.any (fun g => !s.hasLists (grpList g) (grpCount g)) || m.lots.active.isSome || m.lots.staged.isSome, 11)]

/-- The queries of an SKSCAN as they stand before the pass. -/
def Module.skQueries (m : Module) (t k w : Nat) : List ScanQuery :=
  let c := m.ctx t k
  (m.skGroup t k w).map (fun g =>
    { sketch := leNat (m.sliceRead t (c.at (fld g 20 0)) (skW w / 8))
      filter := m.grpFilter t k g
      run := (findRun (m.tile t).runs (grpList g) (grpCount g)).getD (newRun (grpList g) (grpCount g) (scanHeader (grpCount g)))
      tailCap := grpTail g
      tailOff := c.at (fld g 84 64)
      tail := (List.range (grpTail g)).map (fun i => leNat (m.sliceRead t (c.at (fld g 84 64) + 8 * i) 8)) })

/-- The records of an SKSCAN. -/
def Module.skRecords (m : Module) (t k w : Nat) : List Nat :=
  let a := (m.ctx t k).at (fld w 84 64)
  let n := recordBytes (skW w)
  (List.range (skRecs w)).map (fun i => leNat (m.sliceRead t (a + n * i) n))

/-- The effect of an SKSCAN. -/
def Module.skRun (m : Module) (_ : StreamSet) (t k w : Nat) : CmdRun :=
  let qs := m.skQueries t k w
  let r := scanPass (skW w) (m.skRecords t k w) ⟨qs, 0, 0⟩
  let dups0 := qs.foldl (fun a q => a + q.run.dups) 0
  let m' := r.qs.foldl (fun (m : Module) q =>
    let tl := q.mergeTail
    let run := { q.run with dups := satAdd 32 q.run.dups tl.2 }
    let m := m.setRuns t (putRun (m.tile t).runs run)
    m.sliceWrite t q.tailOff ((tl.1 ++ List.replicate (q.tailCap - tl.1.length) (2 ^ 64 - 1)).map (toLe 8)).flatten) m
  let dups1 := r.qs.foldl (fun a q => a + q.run.dups + q.mergeTail.2) 0
  { m := (((m'.count 0x3080 0x04 (dups1 - dups0)).count 0x30F0 0x06 r.filtered).count 0x30F0 0x09 1).count 0x30F0 0x0A r.stall
    clocks := 16 + skRecs w + r.stall }

/-! ## WINS (09 R265) -/

/-- COUNT of a WINS. -/
def winsCount (w : Nat) : Nat := fld w 104 85
/-- WLIST of a WINS. -/
def winsList (w : Nat) : Nat := fld w 112 105
/-- WCOUNT of a WINS. -/
def winsLists (w : Nat) : Nat := fld w 120 113

/-- The run header at the source of a WINS. -/
def Module.winsHeader (m : Module) (t k w : Nat) : Nat := leNat (m.sliceRead t ((m.ctx t k).at (fld w 84 64)) 16)

/-- The candidates of a WINS, in source order. -/
def Module.winsCands (m : Module) (t k w : Nat) : List Nat :=
  let a := (m.ctx t k).at (fld w 84 64) + 16
  if hdrSrc8 (m.winsHeader t k w) then (List.range (winsCount w)).map (fun i => keyEntry (leNat (m.sliceRead t (a + 8 * i) 8)))
  else (List.range (winsCount w)).map (fun i => leNat (m.sliceRead t (a + 16 * i) 16))

/-- A span of lists has a length and a place (09 R263). -/
def spanOk (wl wc : Nat) : Bool := decide (1 ≤ wc ∧ wc ≤ 128 ∧ wl + wc ≤ 256)

/-- Faults of a WINS. -/
def Module.winsCheck (m : Module) (s : StreamSet) (t k w : Nat) : Nat :=
  let c := m.ctx t k
  let h := m.winsHeader t k w
  let runs := (m.tile t).runs
  firstFault [
    (!hdrReservedOk h, 2),
    (!c.holds (fld w 84 64) (16 + (if hdrSrc8 h then 8 else 16) * winsCount w), 3),
    (winsCount w == 0 || !spanOk (winsList w) (winsLists w) || !hdrInRange h (winsLists w) || spanClash runs (winsList w) (winsLists w)
      || (findRun runs (winsList w) (winsLists w)).any (fun r => r.header != h), 10),
    (!s.hasLists (winsList w) (winsLists w), 11)]

/-- The effect of a WINS. -/
def Module.winsRun (m : Module) (_ : StreamSet) (t k w : Nat) : CmdRun :=
  let h := m.winsHeader t k w
  let r0 := (findRun (m.tile t).runs (winsList w) (winsLists w)).getD (newRun (winsList w) (winsLists w) h)
  let es := m.winsCands t k w
  let r := r0.insertAll es
  { m := ((m.setRuns t (putRun (m.tile t).runs r)).count 0x3080 0x03 (es.filter (fun e => entKey e != 2 ^ 96 - 1)).length).count 0x3080 0x04 (r.dups - r0.dups)
    clocks := 8 + ceilDiv (winsCount w) 32 + winsLists w }

/-! ## WDRAIN (09 R268) -/

/-- WLIST of a WDRAIN. -/
def drainList (w : Nat) : Nat := fld w 92 85
/-- WCOUNT of a WDRAIN. -/
def drainLists (w : Nat) : Nat := fld w 100 93

/-- The run that a WDRAIN drains: the live one, or an empty one with KEEP = 32 × WCOUNT. -/
def Module.drainOf (m : Module) (t w : Nat) : Run :=
  (findRun (m.tile t).runs (drainList w) (drainLists w)).getD (newRun (drainList w) (drainLists w) (scanHeader (drainLists w)))

/-- Clocks of a WDRAIN. -/
def Module.drainClocks (m : Module) (t w : Nat) : Nat := 8 + ceilDiv (m.drainOf t w).keep 16 + (if w.testBit 102 then 4 else 0)

/-- Faults of a WDRAIN. -/
def Module.drainCheck (m : Module) (s : StreamSet) (t k w : Nat) : Nat :=
  firstFault [
    (!(m.ctx t k).holds (fld w 84 64) (16 + 16 * (m.drainOf t w).keep + (if w.testBit 102 then 64 else 0)), 3),
    (!spanOk (drainList w) (drainLists w) || spanClash (m.tile t).runs (drainList w) (drainLists w), 10),
    (!s.hasLists (drainList w) (drainLists w), 11)]

/-- The effect of a WDRAIN. -/
def Module.drainRun (m : Module) (_ : StreamSet) (t k w : Nat) : CmdRun :=
  let m' := m.sliceWrite t ((m.ctx t k).at (fld w 84 64)) ((m.drainOf t w).drain (w.testBit 102))
  { m := if w.testBit 101 then
      m'.setRuns t ((m'.tile t).runs.filter (fun r => !(r.wlist == drainList w && r.wcount == drainLists w)))
    else m'
    clocks := m.drainClocks t w }

/-! ## Winner writes (09 R275, R276) -/

/-- The header of a combine area matches a winner write (09 R276). -/
def areaMatches (h coll rows op fmt : Nat) : Bool := fld h 127 96 == coll && fld h 95 64 == rows && fld h 7 6 == op && fld h 5 3 == fmt

/-- A winner write is applied to the combine area at a byte of a tile's slice: true where it matched (09 R275, R276). -/
def Module.winnerApply (m : Module) (t o coll rows op fmt evt : Nat) (recs : Bytes) : Module × Bool :=
  let h := leNat (m.sliceRead t o 16)
  if !areaMatches h coll rows op fmt then (m.count 0x3080 0x05 1, false)
  else
    let m := (List.range rows).foldl (fun (m : Module) r =>
      let a := o + 16 + 16 * r
      m.sliceWrite t a (toLe 16 (winCombine op fmt (leNat (m.sliceRead t a 16)) (leAt recs (16 * r) 16)))) m
    let m := m.sliceWrite t (o + 4) (toLe 4 (fld h 63 32 + 1))
    ((m.count 0x3080 0x06 1).advance t evt 0 1, true)

/-- WINNER_WRITE on a tile (09 R275). -/
def winnerWrite (t o coll rows op fmt evt : Nat) (recs : Bytes) (m : Module) : Module :=
  if o + 16 + 16 * rows ≤ sliceBytes then (m.winnerApply t o coll rows op fmt evt recs).1 else m

/-- WINNER_WRITE (09 R275): one record of 16 bytes for each row. -/
def execWinnerWrite (tile : Fin 512) (offset coll rows op fmt evt : Nat) (records : Bytes) (s : State) : Host.Outcome State Fault Refusal :=
  if (Instr.winnerWrite tile offset coll rows op fmt evt records).wellFormed then
    .next { s with m := winnerWrite tile offset coll rows op fmt evt records s.m }
  else .refused (.illFormed "WINNER_WRITE")

/-! ## ARGMAX (09 R271 to R274) -/

/-- ROWS. -/
def argRows (w : Nat) : Nat := fld w 125 106
/-- OP. -/
def argOp (w : Nat) : Nat := fld w 127 126
/-- ROW_LEN. -/
def argLen (w : Nat) : Nat := fld w 159 128
/-- FMT. -/
def argFmt (w : Nat) : Nat := fld w 162 160
/-- COLLECTIVE. -/
def argColl (w : Nat) : Bool := w.testBit 163
/-- Stride of the rows. -/
def argStride (w : Nat) : Nat := 16 * ceilDiv (argLen w * winBytes (argFmt w)) 16
/-- Clocks of the rows. -/
def argClocks (w : Nat) : Nat :=
  8 + argRows w * ceilDiv (argStride w) 256 + (if argColl w then 8 + ceilDiv (16 * argRows w) 256 else 0)

/-- The collective header at DST_SOFF (09 Table 09-8). -/
def Module.argHeader (m : Module) (t k w : Nat) : Nat := leNat (m.sliceRead t ((m.ctx t k).at (fld w 105 85)) 32)
/-- The place of the combine area. -/
def Module.argTarget (m : Module) (t k w : Nat) : Nat := (m.ctx t k).addr (fld (m.argHeader t k w) 191 128)

/-- A long row is refused (09 R273). -/
def Module.longRow (m : Module) (w : Nat) : Bool := decide (m.cfg 0x3080 0x02 < argLen w) || (argColl w && m.cfg 0x3080 0x01 == 0)

/-- Faults of an ARGMAX. -/
def Module.argCheck (m : Module) (s : StreamSet) (t k w : Nat) : Nat :=
  let c := m.ctx t k
  let n := 16 + 16 * argRows w
  let tgt := m.locateN (m.argTarget t k w) n
  firstFault [
    (argColl w && fld (m.argHeader t k w) 127 6 != 0, 2),
    (!c.holds (fld w 84 64) (argRows w * argStride w)
      || !c.holds (fld w 105 85) (if argColl w then 32 else argRows w * (if argOp w = 0 then 8 else 16))
      || (argColl w && !(match tgt with
        | .remote _ _ => true
        | l => m.inSetSlice s l n)), 3),
    (argRows w == 0 || argLen w == 0 || argOp w == 3 || decide (2 < argFmt w) || m.longRow w, 10)]

/-- The winner of row r: index and element. -/
def Module.argRow (m : Module) (t k w r : Nat) : Nat × Nat :=
  let a := (m.ctx t k).at (fld w 84 64) + r * argStride w
  let n := winBytes (argFmt w)
  (winRow (argOp w) (argFmt w) 0 none ((List.range (argLen w)).map (fun i => leNat (m.sliceRead t (a + n * i) n)))).getD (0, 0)

/-- The effect of an ARGMAX; waits are the clocks it waited for an acknowledgement. -/
def Module.argRun (waits : Nat) (m : Module) (_ : StreamSet) (t k w : Nat) : CmdRun :=
  let c := m.ctx t k
  let ws := (List.range (argRows w)).map (m.argRow t k w)
  if !argColl w then
    let out := if argOp w = 0 then (ws.map (fun x => toLe 8 x.1)).flatten
      else (ws.map (fun x => toLe 16 (winRecord x.1 (winValue (argFmt w) x.2)))).flatten
    { m := m.sliceWrite t (c.at (fld w 105 85)) out, clocks := argClocks w }
  else
    let h := m.argHeader t k w
    let recs := (ws.map (fun x => toLe 16 (winRecord (fld h 255 192 + x.1) (winValue (argFmt w) x.2)))).flatten
    let coll := fld w 223 192
    match m.locate (m.argTarget t k w) with
    | .remote d a =>
      let hdr := put coll 32 96 + put (argRows w) 32 64 + put (fld h 5 0) 32 32 + put (argOp w) 2 6 + put (argFmt w) 3 3
      let r := m.remoteWinners t k c.setId d a hdr recs
      { m := r.1, clocks := argClocks w + waits, fault := if r.2 then 0 else 14 }
    | .slice u o =>
      let r := m.winnerApply u o coll (argRows w) (argOp w) (argFmt w) (fld h 5 0) recs
      { m := r.1, clocks := argClocks w + waits, fault := if r.2 then 0 else 14 }
    | _ => { m := m, clocks := argClocks w }

end Sys2Proof.Machine
end

