-- ==== Sys2Proof/Machine/MemOps.lean ====
section
/-! DEFINITION. The thermal alert and the clock steps it forces (19 R526 to R531, 02 R46), and memory errors
(12 R362 to R364, 18 R500). -/

namespace Sys2Proof.Machine

/-! ## Clock steps (19 R527 to R529) -/

/-- The effective cap (19 R527). -/
def Module.effectiveCap (m : Module) : Nat := min m.power.cap m.power.capLimit

/-- Key of the emergency step's actions. -/
def emergencyKey : Nat := odKey 0x1100 0x19 0

/-- Key of CAP_LIMIT's actions. -/
def capLimitKey : Nat := odKey 0x7000 0x02 0

/-- An emergency step-down is taken at the first tick whose change-list close has not passed; a pending restore is
cancelled, and at one tick the slower step governs (02 R46, 19 R528, R529). -/
def Module.stepDown (m : Module) (cause step : Nat) : Module :=
  let n := m.clock.firstFrame
  let m := m.unplace (fun a => a.kind == 1 && a.key == emergencyKey && a.value == [0])
  let same := m.schedule.filter (fun a => a.kind == 1 && a.key == emergencyKey && a.target == n)
  let step := same.foldl (fun s a => max s (leNat a.value)) (max step m.power.emergency)
  let m := m.place { kind := 1, key := emergencyKey, value := toLe 1 step, target := n }
  let m := { m with power := { m.power with
      cause := cause, restoreDue := false, calmSince := if m.power.therm then none else some m.clock.now, hold := m.cfg 0x7000 0x06 } }
  (m.event 0x0011 1 (put cause 8 8 + put step 8 0)).count 0x7000 0x0D 1

/-- One step slower than the step in force (19 R528). -/
def Module.slower (m : Module) : Nat := min 3 (m.clock.step + 1)

/-- No cause holds from now on: a hold span begins (19 R529). -/
def Module.calm (m : Module) : Module :=
  { m with power := { m.power with calmSince := some m.clock.now, hold := m.cfg 0x7000 0x06 } }

/-! ## The thermal alert (19 R531) -/

/-- The conditions that assert THERM_L: DATA's sensor index and reading. -/
def Module.hotSensors (m : Module) : List (Nat × Nat) :=
  ((List.range 20).zip m.power.temps).filterMap (fun p =>
    if (p.1 < 16 ∧ 1000 ≤ p.2) ∨ (p.1 = 16 ∧ 500 < p.2) then some (p.1, unsgn 16 p.2) else none)
  ++ m.mem.hotPackages.map (fun p => (32 + p, 0x7FFF))

/-- The alert is over: tile dies below 95 °C, inlet at 48 °C or less, no hot package. -/
def Module.coolEnough (m : Module) : Bool :=
  m.mem.hotPackages.isEmpty && ((List.range 20).zip m.power.temps).all (fun p =>
    (!decide (p.1 < 16) || decide (p.2 < 950)) && (p.1 != 16 || decide (p.2 ≤ 480)))

/-- THERM_L follows the readings: asserting it counts, logs and is an emergency cause (19 R528, R531). -/
def Module.thermal (m : Module) : Module :=
  match m.hotSensors with
  | x :: _ =>
    if m.power.therm then m
    else (({ m with power := { m.power with therm := true } }).count 0x7000 0x0E 1).event 0x0011 3 (put x.2 16 16 + put x.1 8 0)
  | [] => if m.power.therm && m.coolEnough then ({ m with power := { m.power with therm := false } }).calm else m

/-- New readings of the temperatures; sensor 19, the hold-up bank, is its controller's (15 R441). -/
def Module.readTemps (m : Module) (temps : List Int) : Module := { m with power := { m.power with temps := temps.set 19 m.holdup.temp } }

/-! ## Memory errors (12 R362 to R364) -/

/-- UNIT and PLACE of an error (12 Table 12-7). -/
def Module.errorPlace (m : Module) (source addr : Nat) : Nat × Nat :=
  if source = 0 ∨ source = 3 then
    (addr / 256 % 16, if source = 0 then put (addr / 4096) 1 5 + put (addr / 8192) 2 3 else 0)
  else (m.placeOf ((addr - 0x040000000000) / 0x800000 % 512) / 272, 0)

/-- Table 12-7 of an error. -/
def Module.errorRecord (m : Module) (source cls addr syndrome : Nat) : Nat :=
  let p := m.errorPlace source addr
  put syndrome 32 64 + put p.2 8 96 + put p.1 8 104 + put cls 8 112 + put source 8 120 + put addr 64 128 + put m.clock.sfc 64 192

/-- The subindex in 0x4000 of an error's counter; the table has none for a staging line (12 Table 12-8). -/
def errorCounter (source cls : Nat) : Option Nat :=
  if source = 0 then some (match cls with
    | 0 => 0x08
    | 1 => 0x09
    | 2 => 0x0A
    | _ => 0x0B)
  else if source ≤ 2 ∧ cls = 0 then some 0x0C
  else if source ≤ 2 ∧ cls = 2 then some 0x0D
  else none

/-- Corrected errors of a part reach a limit within the window (18 R500): the counts, and whether they do. -/
def ceReaches (l : List (Nat × Nat)) (k limit : Nat) : List (Nat × Nat) × Bool :=
  let l := mAdd l k 1
  (l, decide (limit ≤ mGetD l k 0))

/-- A burst of LPDDR5X is poisoned; one in a Lot's copy waits for its repair (12 R362, R363). -/
def Module.poisonBurst (m : Module) (addr : Nat) : Module :=
  match m.lotBases.find? (fun b => decide (b.2 ≤ addr ∧ addr < b.2 + b.1.space)) with
  | some b => match copyToImage b.1.bytes (addr - b.2) with
    | some o =>
      let k := (b.1.number, o)
      if m.mem.lotPoison.contains k then m else { m with mem := { m.mem with lotPoison := m.mem.lotPoison ++ [k] } }
    | none => m
  | none =>
    let k := addr / 64
    if m.mem.poison.contains k then m
    else { m with mem := { m.mem with poison := insertBy (fun a b => decide (a ≤ b)) k m.mem.poison } }

/-- An uncorrectable unit of a slice reaches what uses the bytes: a user stream faults MEMORY, the service stream faults,
the journal repairs its record from the cache, and resident records are reloaded (12 Table 12-6, R363, 15 R437). -/
def Module.sliceConsumer (m : Module) (t o : Nat) : Module :=
  match (m.tile t).ctxs.find? (fun c => decide (c.2.region ≤ o ∧ o < c.2.region + c.2.bytes)) with
  | some c => m.streamFault t c.1 15
  | none =>
    if 256 ≤ t ∧ t < 272 ∧ 0x200000 ≤ o then m.event 0x000B 4 t
    else if o < 524288 then m.pipelineFault t 15
    else m

/-- The context whose set reserves the Vat block of a byte offset. -/
def Module.vatUser (m : Module) (t o : Nat) : Option Nat :=
  ((m.streams.sets.find? (fun p => armHasTile p.2.header t && (p.2.state == 2)
    && p.2.slotDescs.any (fun d => decide (slotBlock d ≤ o / 128 ∧ o / 128 < slotBlock d + slotBlocks d)))).map (fun p => armCtx p.2.header))

/-- A memory error is recorded, counted and acted on (12 R362 to R364, 18 R500). -/
def Module.memoryFault (m : Module) (source cls addr syndrome : Nat) : Module :=
  let addr := if source = 0 ∨ source = 3 then addr / 64 * 64 else addr / 32 * 32
  let m := match errorCounter source cls with
    | some s => m.count 0x4000 s 1
    | none => m
  let m := { m with mem := { m.mem with lastError := m.errorRecord source cls addr syndrome } }
  let m := if cls = 2 then m.event 0x0008 1 addr else m
  if source = 0 then
    let page := pageOf addr
    if cls = 2 then (m.poisonBurst addr).retirePage page
    else if cls = 0 then
      let c := ceReaches m.mem.pageErrors page (m.cfg 0x6000 0x0D)
      let m := { m with mem := { m.mem with pageErrors := c.1 } }
      if c.2 then m.retirePage page else m
    else m
  else
    let x := addr - 0x040000000000
    let t := x / 0x800000 % 512
    let o := x % 0x800000
    if source = 1 then
      let row := o / 256
      let key := t * 2 ^ 15 + row
      if cls = 2 then (m.sliceConsumer t o).retireRow t row
      else if cls = 0 then
        let c := ceReaches m.mem.rowErrors key (m.cfg 0x6000 0x0C)
        let m := { m with mem := { m.mem with rowErrors := c.1 } }
        let m := m.onTileHealth t (fun h => { h with corrected := satAdd 32 h.corrected 1 })
        if c.2 then m.retireRow t row else m
      else m
    else if source = 2 ∧ cls = 0 then m.onTileHealth t (fun h => { h with corrected := satAdd 32 h.corrected 1 })
    else if source = 2 ∧ cls = 2 then
      match m.vatUser t (o - 0x600000) with
      | some k => m.streamFault t k 15
      | none => m.pipelineFault t 15
    else m

/-! ## The boundary of the regions (12 R356, R357) -/

/-- A new USER_REGION_BYTES cuts no reservation and no managed allocation (12 R357). -/
def Module.regionFits (m : Module) (n : Nat) : Bool :=
  decide (n + 8589934592 ≤ m.lpddrUsable) && decide (m.reservedEnd ≤ n) && decide (n + m.managedUsed ≤ m.lpddrUsable)

end Sys2Proof.Machine
end

