-- ==== Sys2Proof/Machine/StoreOps.lean ====
section
/-! DEFINITION. The Store of the Cistern (15 R424 to R437): commands, range locks, the write cache, the Leat journal and
the journal limit. -/

namespace Sys2Proof.Machine

/-! ## Store commands (15 Table 15-1) -/

/-- HOST_ADDR. -/
def scHost (b : Bytes) : Nat := leAt b 32 8
/-- R_KEY. -/
def scRkey (b : Bytes) : Nat := leAt b 28 4
/-- LENGTH. -/
def scLen (b : Bytes) : Nat := leAt b 24 4
/-- STORE_OFFSET. -/
def scOff (b : Bytes) : Nat := leAt b 16 8
/-- TAG. -/
def scTag (b : Bytes) : Nat := leAt b 8 8
/-- SLOT. -/
def scSlot (b : Bytes) : Nat := leAt b 4 4
/-- OPCODE. -/
def scOp (b : Bytes) : Nat := leAt b 0 1
/-- FORCE. -/
def scForce (b : Bytes) : Bool := (leAt b 0 4).testBit 8
/-- ATOMIC. -/
def scAtomic (b : Bytes) : Bool := (leAt b 0 4).testBit 9

/-- A command keeps Table 15-1. -/
def scOk (b : Bytes) : Bool :=
  (scOp b == 0x20 || scOp b == 0x21) && fld (leAt b 0 4) 31 10 == 0 && allZero (sub b 40 24)
    && decide (4096 ≤ scLen b ∧ scLen b ≤ 16777216) && scLen b % 4096 == 0 && scOff b % 4096 == 0
    && (scOp b == 0x21 || (!scForce b && !scAtomic b))

/-- The bytes of a command that stands for a BULK read of the Store area (15 R428). -/
def scBulk (off len : Nat) : Bytes := toLe 64 (put 0x20 8 0 + put off 64 128 + put len 32 192)

/-- The command writes the Store area. -/
def StoreCmd.writes (c : StoreCmd) : Bool := scOp c.cmd == 0x21

/-- Two ranges overlap. -/
def overlaps (a n b k : Nat) : Bool := decide (a < b + k ∧ b < a + n)

/-- A command conflicts with another: their ranges overlap, and one of them writes (15 R428). -/
def StoreCmd.conflicts (c d : StoreCmd) : Bool :=
  overlaps (scOff c.cmd) (scLen c.cmd) (scOff d.cmd) (scLen d.cmd) && (c.writes || d.writes)

/-- The completion of a command (15 Table 15-2). -/
def storeCompletion (cmd : Bytes) (sfc st unit : Nat) (durable journaled : Bool) : Bytes :=
  toLe 64 (put st 4 0 + put (scOp cmd) 8 8 + put (b2n durable) 1 16 + put (b2n journaled) 1 17
    + put (if st = 0 then scLen cmd else 0) 32 32 + put (scTag cmd) 64 64 + put sfc 64 128 + put unit 32 192)

/-! ## Changing the list of commands -/

/-- A command that has been accepted and has not completed. -/
def Module.storeCmd (m : Module) (id : Nat) : Option StoreCmd := m.cistern.cmds.find? (fun c => c.id == id)

/-- Change a command. -/
def Module.onCmd (m : Module) (id : Nat) (f : StoreCmd → StoreCmd) : Module :=
  { m with cistern := { m.cistern with cmds := m.cistern.cmds.map (fun c => if c.id = id then f c else c) } }

/-- Remove a command. -/
def Module.dropCmd (m : Module) (id : Nat) : Module :=
  { m with cistern := { m.cistern with cmds := m.cistern.cmds.filter (fun c => c.id != id) } }

/-- Accept a command: it joins the queue in acceptance order (15 R428). -/
def Module.acceptCmd (m : Module) (c : StoreCmd) : Module :=
  { m with cistern := { m.cistern with
      cmds := m.cistern.cmds ++ [{ c with id := m.cistern.nextCmd }], nextCmd := m.cistern.nextCmd + 1 } }

/-- Post a completion of a Store session (15 R427). -/
def Module.postStore (m : Module) (s : Nat) (cmd : Bytes) (st unit : Nat) (durable journaled : Bool) : Module :=
  (m.post s (scSlot cmd) (storeCompletion cmd m.clock.sfc st unit durable journaled)).count 0x4300 0x0B 1

/-- A command can complete with a status; one of a session that was reset leaves the table without a completion
(15 R427, R434). -/
def Module.storeReady (m : Module) (id st : Nat) (durable journaled : Bool) : Module :=
  match m.storeCmd id with
  | none => m
  | some c => if c.dead then m.dropCmd id else
      m.onCmd id (fun c => { c with ready := some st, durable := durable, journaled := journaled, waitJournal := false, direct := false })

/-! ## The journal (15 R431, R432, R436, R437) -/

/-- The journal limit in bytes. -/
def Cistern.limitBytes (c : Cistern) : Nat := c.limit * 1048576

/-- The journal has room for n bytes (15 R431, R436). -/
def Cistern.journalRoom (c : Cistern) (n : Nat) : Bool := decide (c.journalUsed + n ≤ c.limitBytes)

/-- The data of a write, from its blocks in the cache. -/
def Cistern.dataOf (c : Cistern) (id : Nat) : Bytes := (c.cache.filter (fun b => b.order == id)).flatMap (·.data)

/-- A write is committed in the journal (15 R431, R437). -/
def Module.journal (m : Module) (c : StoreCmd) : Module :=
  let r : JournalRec := { order := c.id, offset := scOff c.cmd, data := m.cistern.dataOf c.id, commit := true }
  (({ m with cistern := { m.cistern with journal := m.cistern.journal ++ [r] } }).count 0x4300 0x0E 1).storeReady c.id 0 true true

/-- Atomic writes that wait for journal room enter it in acceptance order (15 R432). -/
def Module.admitJournal (m : Module) : Module :=
  (m.cistern.cmds.filter (·.waitJournal)).foldl (fun (m : Module) c =>
    if m.cistern.journalRoom (scLen c.cmd) then m.journal c else m) m

/-- The data of a write is all in the cache: it completes, enters the journal, or waits for its NAND program
(15 R430 to R432). -/
def Module.storeFetched (m : Module) (c : StoreCmd) (data : Bytes) : Module :=
  let blocks := ((blocksOf (scOff c.cmd) (scLen c.cmd)).zip (chunks 4096 data)).map (fun p => ({ order := c.id, block := p.1, data := p.2 } : CacheBlock))
  let m := { m with cistern := { m.cistern with cache := m.cistern.cache ++ blocks } }
  let m := m.onCmd c.id (fun c => { c with fetched := true, fetching := false })
  if !scForce c.cmd then m.storeReady c.id 0 false false
  else if scAtomic c.cmd ∧ c.unit = 16384 then (m.count 0x4300 0x0F 1).onCmd c.id (fun c => { c with direct := true })
  else if m.cistern.journalRoom (scLen c.cmd) then m.journal c
  else if scAtomic c.cmd then m.onCmd c.id (fun c => { c with waitJournal := true })
  else (m.count 0x4300 0x0F 1).onCmd c.id (fun c => { c with direct := true })

/-! ## Starting commands (15 R428 to R430, R432, R433) -/

/-- A read starts: its data goes to the host up to the first block that cannot be read (15 R429). -/
def Module.startRead (m : Module) (c : StoreCmd) : Module :=
  let off := scOff c.cmd
  let bad := m.cistern.badIn off (scLen c.cmd)
  let n := match bad with
    | some b => b * 4096 - off
    | none => scLen c.cmd
  let data := m.cistern.read off n
  let m := match c.bulk with
    | some (t, dest, len) =>
      let m := m.lpWrite dest (data.take len)
      if bad.isSome then m.onTable t (fun x => { x with touched := true }) else m
    | none => if n = 0 then m else m.rdmaWrite c.session (scHost c.cmd) (scRkey c.cmd) data
  let m := match bad with
    | some b => (m.count 0x4300 0x12 1).event 0x000B 1 (b * 4096)
    | none => m
  if c.bulk.isSome then m.dropCmd c.id
  else m.storeReady c.id (if bad.isSome then 5 else 0) false false

/-- Bytes of the write cache that are taken or on their way into it. -/
def Cistern.cacheTaken (c : Cistern) : Nat := c.dirty + (c.cmds.filter (·.fetching)).foldl (fun a d => a + scLen d.cmd) 0

/-- Started writes fetch their data as far as the cache has space, in acceptance order (15 R430). -/
def Module.fetchWrites (m : Module) : Module :=
  (m.cistern.cmds.filter (fun c => c.started && c.writes && c.ready.isNone && !c.fetching && !c.fetched && !c.dead)).foldl (fun (m : Module) c =>
    if m.cistern.cacheTaken + scLen c.cmd ≤ writeCacheSpace then
      (m.onCmd c.id (fun c => { c with fetching := true })).rdmaRead c.session (scHost c.cmd) (scRkey c.cmd) (scLen c.cmd)
    else m) m

/-- A command starts: it takes the atomic write unit (15 R432, R433). -/
def Module.startCmd (m : Module) (c : StoreCmd) : Module :=
  let unit := m.atomicUnit
  let m := m.onCmd c.id (fun c => { c with started := true, unit := unit })
  if !c.writes then m.startRead c
  else if m.cistern.readOnly then m.storeReady c.id 6 false false
  else if scAtomic c.cmd ∧ unit < scLen c.cmd then (m.count 0x4300 0x16 1).storeReady c.id 3 false false
  else m

/-- An entry has no earlier entry of the table that conflicts with it (15 R428). -/
def Cistern.mayStart (c : Cistern) (x : StoreCmd) : Bool :=
  !c.cmds.any (fun y => y.inTable && decide (y.id < x.id) && y.conflicts x)

/-- The queue and the range-lock table advance: waiting commands enter the table in acceptance order while it has room,
entries without earlier conflicts start, and an entry's first wait is counted (15 R428). -/
def Module.storeAdvance (m : Module) : Module :=
  let room := 4096 - m.cistern.locks
  let enter := ((m.cistern.cmds.filter (fun c => !c.inTable)).take room).map (·.id)
  let m := { m with cistern := { m.cistern with cmds := m.cistern.cmds.map (fun (c : StoreCmd) =>
      if enter.contains c.id then { c with inTable := true } else c) } }
  let m := (m.cistern.cmds.filter (fun (c : StoreCmd) => c.inTable && !c.started)).foldl (fun (m : Module) c =>
    if m.cistern.mayStart c then m.startCmd c
    else if c.stalled then m
    else (m.count 0x4300 0x10 1).onCmd c.id (fun c => { c with stalled := true })) m
  m.fetchWrites

/-- Advance until nothing more can start: each pass that frees an entry is followed by another. -/
def Module.storeRun (m : Module) : Nat → Module
  | 0 => m
  | k + 1 =>
    let n := m.cistern.cmds.length
    let m' := m.storeAdvance
    if m'.cistern.cmds.length < n then m'.storeRun k else m'

/-- Run the Store's queue and table. -/
def Module.storeSettle (m : Module) : Module := m.storeRun (m.cistern.cmds.length + 1)

/-! ## Messages (15 R425, R426) -/

/-- Blocks of a range that now stay uncorrectable (15 R429). -/
def Cistern.fails (c : Cistern) (off len : Nat) (bad : List Nat) : Cistern :=
  let new := (dedup bad).filter (fun k => decide (off / 4096 ≤ k ∧ k * 4096 < off + len) && !c.bad.contains k)
  { c with bad := new.foldl (fun l k => insertBy (fun a b => decide (a ≤ b)) k l) c.bad }

/-- A message on a STORE session (15 R426). -/
def Module.takeStore (m : Module) (s : Nat) (x : Session) (b : Bytes) (bad : List Nat) : Module :=
  if b.length ≠ 64 ∨ x.slots ≤ scSlot b then (m.count 0x4300 0x13 1).event 0x000B 5 s
  else if 4096 ≤ (m.cistern.cmds.filter (fun c => c.bulk.isNone && !c.dead && c.session == s)).length then
    m.postStore s b 4 m.atomicUnit false false
  else if !scOk b then m.postStore s b 1 m.atomicUnit false false
  else if m.cfg 0x4300 0x03 < scOff b + scLen b then m.postStore s b 2 m.atomicUnit false false
  else (({ m with cistern := m.cistern.fails (scOff b) (scLen b) bad }).acceptCmd { session := s, cmd := b }).storeSettle

/-- DURABLE and JOURNALED of a completed read: whether every block it read lies on NAND or in the journal, and whether
every one lies in the journal (15 Table 15-2). -/
def Cistern.readPlace (c : Cistern) (off n : Nat) : Bool × Bool :=
  let inJournal (b : Nat) : Bool := match c.cache.reverse.find? (fun x => x.block == b) with
    | some x => c.journal.any (fun r => r.order == x.order)
    | none => false
  let bs := blocksOf off n
  (bs.all (fun b => (c.cached b).isNone || inJournal b), bs.all inJournal)

/-- A command that can complete does: its completion is posted and its entry leaves the table (15 R427, R428). -/
def Module.releaseCmd (m : Module) (c : StoreCmd) : Module :=
  match c.ready with
  | none => m
  | some st =>
    let place := if c.writes then (c.durable, c.journaled)
      else if st = 0 then m.cistern.readPlace (scOff c.cmd) (scLen c.cmd) else (false, false)
    let m := m.postStore c.session c.cmd st c.unit place.1 place.2
    let m := if st ≠ 0 then m else if c.writes then m.count 0x4300 0x0D (scLen c.cmd) else m.count 0x4300 0x0C (scLen c.cmd)
    (m.dropCmd c.id).storeSettle

/-! ## Draining (15 R430, R437) -/

/-- The oldest write of the cache is programmed to NAND, whole: its blocks, the record it has in the journal, and the
completion that waits for it (15 R430, R431, R437). -/
def Module.drainOldest (m : Module) : Module :=
  match m.cistern.cache with
  | [] => m
  | b :: _ =>
    let id := b.order
    let mine := m.cistern.cache.filter (fun x => x.order == id)
    let m := { m with cistern := { m.cistern with
        nand := mine.foldl (fun n (x : CacheBlock) => memWriteN n (x.block * 4096) x.data) m.cistern.nand
        bad := m.cistern.bad.filter (fun k => !mine.any (fun x => x.block == k))
        cache := m.cistern.cache.filter (fun x => x.order != id)
        journal := m.cistern.journal.filter (fun r => r.order != id) } }
    let m := match m.storeCmd id with
      | some c => if c.direct || c.waitJournal then
          (if c.waitJournal then m.count 0x4300 0x0F 1 else m).storeReady id 0 true false
        else m
      | none => m
    m.admitJournal.storeSettle

/-- The spare blocks that programming leaves: with none, the Store area is READ_ONLY and the event is logged (15 R433). -/
def Module.wear (m : Module) (permille : Nat) : Module :=
  let p := min m.cistern.permille permille
  let m' := { m with cistern := { m.cistern with permille := p, readOnly := m.cistern.readOnly || p == 0 } }
  if p = 0 ∧ !m.cistern.readOnly then m'.event 0x000B 2 0 else m'

/-! ## The journal limit (15 R436, R442) -/

/-- The temperature factor k in thousandths, T in tenths of a degree (15 R441). -/
def tempFactor (dc : Int) : Nat := if 100 ≤ dc then 1000 else (900 + dc).toNat

/-- C_bank of the cells in service, in farads, as a fraction; 0 when no cell or an empty cell is in service
(15 R442). -/
def bankCap (caps map : List Nat) : Rat :=
  let cs := ((caps.zip map).filter (fun p => p.2 == 0)).map (·.1)
  if cs.isEmpty || cs.contains 0 then 0 else 1 / (cs.foldl (fun (a : Rat) (c : Nat) => a + 1000 / (c : Rat)) 0)

/-- E in mJ at a bank voltage in mV and a temperature factor in thousandths (15 R442). -/
def bankEnergy (cap : Rat) (mv k : Nat) : Rat :=
  if mv < 10000 then 0 else 450 * cap * ((k : Rat) / 1000) * (((mv * mv : Nat) : Rat) / 1000000 - 100)

/-- The journal limit in MiB of an energy in mJ (15 R436). -/
def journalLimit (e : Rat) : Nat :=
  if 36000 ≤ e then 64
  else
    let l := (64 * e / 36000).floor.toNat
    if l < 4 then 0 else l

/-- HOLDUP_STATE of a limit (15 R436). -/
def holdupState (l : Nat) : Nat := if l = 64 then 2 else if l = 0 then 0 else 1

/-- The controller evaluates the bank: E, L and HOLDUP_STATE (15 R436, R442). -/
def Module.evaluateBank (m : Module) : Module :=
  let e := bankEnergy (bankCap m.holdup.caps m.holdup.map) m.holdup.voltage (tempFactor m.holdup.temp)
  let l := journalLimit e
  let st := holdupState l
  let old := m.holdup.state
  let m := { m with
    holdup := { m.holdup with energy := e.floor.toNat, state := st }
    cistern := { m.cistern with limit := l } }
  if st = old then m else m.event 0x000C 1 st

/-- The cell target of the bank in mV (15 R441). -/
def cellTarget (dc : Int) : Nat := if dc ≤ 550 then 2500 else 2300

/-- Cells in service. -/
def Holdup.inService (h : Holdup) : Nat := (h.map.filter (· == 0)).length

/-- The bank's target voltage (15 R440, R441). -/
def Holdup.target (h : Holdup) : Nat := h.inService * cellTarget h.temp

/-! ## Reset of a session's commands (15 R434) -/

/-- The commands of a session end: those without effect leave, writes whose data is all in the cache run on without a
completion (15 R434). -/
def Module.storeReset (m : Module) (s : Nat) : Module :=
  let keep (c : StoreCmd) : Bool := c.fetched && c.ready.isNone
  ({ m with cistern := { m.cistern with cmds := (m.cistern.cmds.filter (fun (c : StoreCmd) =>
      c.bulk.isSome || c.session != s || keep c)).map (fun (c : StoreCmd) =>
        if c.bulk.isNone && c.session == s then { c with dead := true } else c) } }).storeSettle

/-- Commands of a session are still in the table. -/
def Module.storeHeld (m : Module) (s : Nat) : Bool := m.cistern.cmds.any (fun c => c.bulk.isNone && c.session == s)

/-! ## The Store area (15 R421) -/

/-- What lies at or above a boundary is discarded. -/
def Cistern.cut (c : Cistern) (n : Nat) : Cistern :=
  { c with
    nand := c.nand.filter (fun p => decide (p.1 < n))
    cache := c.cache.filter (fun b => decide (b.block * 4096 < n))
    journal := (c.journal.map (fun r => { r with data := r.data.take (n - r.offset) })).filter (fun r => !r.data.isEmpty)
    bad := c.bad.filter (fun b => decide (b * 4096 < n)) }

/-- A STORE session is open. -/
def Module.storeOpen (m : Module) : Bool := m.ports.sessions.any (fun p => p.2.typ == 2)

/-! ## BULK reads (10 R284, 15 R428) -/

/-- The pieces of a BULK read: offset and bytes of each. -/
def bulkPieces : Nat → Nat → Nat → List (Nat × Nat)
  | 0, _, _ => []
  | k + 1, off, n => if n = 0 then [] else (off, min n 16777216) :: bulkPieces k (off + 16777216) (n - 16777216)

/-- A BULK read of the Store area into LPDDR5X for a table (10 R284, 15 R428). -/
def Module.bulkLoad (m : Module) (t off n dest : Nat) : Module :=
  ((bulkPieces (ceilDiv n 16777216) off n).foldl (fun (m : Module) p =>
    m.acceptCmd { cmd := scBulk p.1 p.2, bulk := some (t, dest + (p.1 - off), p.2) }) m).storeSettle

end Sys2Proof.Machine
end

