-- ==== Sys2Proof/Machine/TableRows.lean ====
section
/-! DEFINITION. Meanings of the writes that stage, load and switch embedding tables (10 R284, R285, R299). -/

namespace Sys2Proof.Machine

/-- Regions of a descriptor: rows and remainder table. -/
def tabRegions (d : Nat) : List (Nat × Nat) := [(tabBase d, tabRegionBytes d), (tabRemBase d, tabRemBytes d)]

/-- The regions of a descriptor reserved for its table, when both can be (10 R284, 12 R356). -/
def Module.reserveTable (m : Module) (t d : Nat) : Option Module :=
  if !m.canReserve (tabBase d) (tabRegionBytes d) then none
  else
    let m := m.reserve (tabBase d) (tabRegionBytes d) (t * 2)
    if tabRemBytes d = 0 then some m
    else if m.canReserve (tabRemBase d) (tabRemBytes d) then some (m.reserve (tabRemBase d) (tabRemBytes d) (t * 2)) else none

/-- The hot rows, replicas and candidates of a table are gone (10 R299). -/
def Module.dropHot (m : Module) (t : Nat) : Module :=
  { m with tiles := m.tiles.map (fun (p : Nat × Tile) => (p.1, { p.2 with
      hot := p.2.hot.filter (fun h => h.table != t), standby := p.2.standby.filter (fun h => h.table != t)
      cands := p.2.cands.filter (fun c => c.1 != t) })) }

/-- A descriptor becomes the staged version of its table (10 R284, R299). -/
def Module.stageTable (m : Module) (d : Nat) : Option Module :=
  let t := tabNumber d
  (m.reserveTable t d).map (fun m =>
    let m := m.onTable t (fun x => { x with staged := some d, loads := [], touched := false })
    match (m.table t).active with
    | some a => if tabSameMapping a d then m else m.dropHot t
    | none => m)

/-- A write of TABLE_STAGE executes (10 R284). -/
def Module.runTableStage (m : Module) (r : VReq) (c : Client) : Module :=
  m.checked r c (fun m _ v => m.untargeted r (fun m =>
    let d := leNat v
    if m.health.unsparable then m.refuse r 80
    else if !tabOk d then m.refuse r 42
    else if (m.table (tabNumber d)).staged.isSome then m.refuse r 48
    else match m.stageTable d with
      | none => m.refuse r 32
      | some x => x.ack r m.clock.sfc))

/-- TABLE_STAGE. -/
def tableStage (t : Nat) (m : Module) : Module := m.serve t (fun r _ => r.writes 0x3200 0x02) Module.runTableStage
/-- TABLE_STAGE. -/
def execTableStage (t : Nat) (s : State) : Host.Outcome State Fault Refusal := .next { s with m := tableStage t s.m }

/-- A switch of a table is scheduled. -/
def Module.tableSwitching (m : Module) (t : Nat) : Bool := m.schedule.any (fun a => a.kind == 6 && a.arg / 2 ^ 32 == t)

/-- A switch of a table to its staged version is scheduled. -/
def Module.stagedSwitching (m : Module) (t d : Nat) : Bool := m.schedule.any (fun a => a.kind == 6 && a.arg == t * 2 ^ 32 + tabVersion d)

/-- The staged version of a table is freed, and its loads stop (10 R284). -/
def Module.unstageTable (m : Module) (t d : Nat) : Module :=
  let m := { m with
    mem := { m.mem with reserved := m.mem.reserved.filter (fun r => !(r.2.2 == t * 2 && (tabRegions d).any (fun x => x.1 == r.1 && x.2 == r.2.1))) }
    cistern := { m.cistern with cmds := m.cistern.cmds.filter (fun (c : StoreCmd) => !c.bulk.any (fun (b : Nat × Nat × Nat) => b.1 == t)) } }
  (m.onTable t (fun x => { x with staged := none, loads := [], touched := false })).storeSettle

/-- A write of TABLE_UNSTAGE executes (10 R284). -/
def Module.runTableUnstage (m : Module) (r : VReq) (c : Client) : Module :=
  m.checked r c (fun m _ v => m.untargeted r (fun m =>
    let t := leNat v
    match (m.table t).staged with
    | none => m.refuse r 39
    | some d => if m.stagedSwitching t d then m.refuse r 37 else (m.unstageTable t d).ack r m.clock.sfc))

/-- TABLE_UNSTAGE. -/
def tableUnstage (t : Nat) (m : Module) : Module := m.serve t (fun r _ => r.writes 0x3200 0x03) Module.runTableUnstage
/-- TABLE_UNSTAGE. -/
def execTableUnstage (t : Nat) (s : State) : Host.Outcome State Fault Refusal := .next { s with m := tableUnstage t s.m }

/-- Devices of a descriptor. -/
def tabDevices (d : Nat) : List Nat := (List.range (tabModules d)).map (fun i => tabFirst d + i)

/-- The other modules in whose schedules a switch goes, or none when the version is not staged on every module of its
table; members lists what the other modules of the cascade have staged: device and version (10 R285). A master that
holds no share of the table knows its modules from members alone; version 0 there names a module with an active version. -/
def Module.tableTargets (m : Module) (members : List (Nat × Nat)) (t version : Nat) : Option (List Nat) :=
  let others (d : Nat) := (tabDevices d).filter (fun x => x != m.device)
  if version = 0 then
    some (if !m.inCascadeConfig then [] else match (m.table t).active with
      | some d => (others d).filter (fun x => m.mates.contains x)
      | none => ((members.filter (fun p => p.2 == 0)).map (·.1)).filter (fun x => m.mates.contains x))
  else match (m.table t).staged with
    | none =>
      let ds := ((members.filter (fun p => p.2 == version)).map (·.1)).filter (fun x => m.mates.contains x)
      if m.inCascadeConfig && !ds.isEmpty then some ds else none
    | some d =>
      if tabVersion d ≠ version then none
      else if !m.inCascadeConfig then some []
      else if (others d).all (fun x => m.mates.contains x && members.contains (x, version)) then some (others d) else none

/-- A write of TABLE_SWITCH executes (10 R285). -/
def Module.runTableSwitch (members : List (Nat × Nat)) (m : Module) (r : VReq) (c : Client) : Module :=
  m.checked r c (fun m _ v =>
    let w := leNat v
    let t := fld w 37 32
    let version := fld w 31 0
    if fld w 63 38 ≠ 0 then m.refuse r 8
    else m.untargeted r (fun m => m.withLead r (fld w 127 64) (fun m n =>
      if m.inCascadeConfig && m.device != 0 then m.refuse r 13
      else if m.tableSwitching t then m.refuse r 37
      else match m.tableTargets members t version with
        | none => m.refuse r 39
        | some ds => m.placeAt r { kind := 6, arg := t * 2 ^ 32 + version, target := n } ds)))

/-- TABLE_SWITCH. -/
def tableSwitch (t : Nat) (members : List (Nat × Nat)) (m : Module) : Module :=
  m.serve t (fun r _ => r.writes 0x3200 0x04) (Module.runTableSwitch members)
/-- TABLE_SWITCH. -/
def execTableSwitch (t : Nat) (members : List (Nat × Nat)) (s : State) : Host.Outcome State Fault Refusal :=
  .next { s with m := tableSwitch t members s.m }

/-- The table whose staged region holds a range. -/
def Module.stagedAt (m : Module) (dest n : Nat) : Option Nat :=
  (m.tables.tables.find? (fun p => match p.2.staged with
    | some d => inRange (tabRegions d) dest n
    | none => false)).map (·.1)

/-- A load into a table's staged region starts and is noted for its restore record (10 R284, 15 R428, 17 R487). -/
def Module.loadTable (m : Module) (t n dest off : Nat) : Module :=
  (m.onTable t (fun x => { x with loads := x.loads ++ [(n, dest, off)] })).bulkLoad t off n dest

/-- A write of TABLE_LOAD executes (10 R284, R286). -/
def Module.runTableLoad (m : Module) (r : VReq) (c : Client) : Module :=
  m.checked r c (fun m _ v => m.untargeted r (fun m =>
    let off := leAt v 0 8
    let dest := leAt v 8 8
    let n := leAt v 16 8
    if leAt v 24 8 ≠ 0 ∨ m.cfg 0x4300 0x03 < off + n then m.refuse r 8
    else match m.stagedAt dest n with
      | none => m.refuse r 8
      | some t => if meetsRange m.protectedRanges dest n then m.refuse r 37 else (m.loadTable t n dest off).ack r m.clock.sfc))

/-- TABLE_LOAD. -/
def tableLoad (t : Nat) (m : Module) : Module := m.serve t (fun r _ => r.writes 0x3200 0x0E) Module.runTableLoad
/-- TABLE_LOAD. -/
def execTableLoad (t : Nat) (s : State) : Host.Outcome State Fault Refusal := .next { s with m := tableLoad t s.m }

end Sys2Proof.Machine
end

