-- ==== Sys2Proof/Machine/StartOps.lean ====
section
/-! DEFINITION. Losing power, the flush of the journal, the orderly stop, and the phases of a start (15 R438, R439,
17 R479 to R497, 18 R510, R511, 19 R522 to R525). -/

namespace Sys2Proof.Machine

/-! ## What survives (17 R481) -/

/-- The tables that have a restore record, with nothing else of them. -/
def Tables.durable (x : Tables) : Tables :=
  { tables := (x.tables.filter (fun p => p.2.restore.isSome)).map (fun p =>
      (p.1, ({ restore := p.2.restore, restoreOk := p.2.restoreOk, restoreLoads := p.2.restoreLoads } : Table))) }

/-- What the Cistern keeps on NAND. -/
def Cistern.durable (x : Cistern) : Cistern :=
  { nand := x.nand, flushArea := x.flushArea, flushed := x.flushed, lossNs := x.lossNs, lossSfc := x.lossSfc, flushUs := x.flushUs
    bad := x.bad, readOnly := x.readOnly, permille := x.permille, savedTime := x.savedTime }

/-- The charge of the bank, its measured cells and its durable counters. -/
def Holdup.durable (x : Holdup) : Holdup :=
  { voltage := x.voltage, temp := x.temp, hot := x.hot, stopped := x.stopped, caps := x.caps, volts := x.volts, map := x.map
    rated := x.rated, testsRun := x.testsRun, flushes := x.flushes }

/-- The boot SPI NOR, the fuses, what manufacture set, and the durable counters. -/
def Boot.durable (x : Boot) : Boot :=
  { nextCause := x.nextCause, bootCount := x.bootCount, slots := x.slots, minSvn := x.minSvn, vendor := x.vendor, revoked := x.revoked
    ownerKey := x.ownerKey, variant := x.variant, serial := x.serial, boardRev := x.boardRev, macs := x.macs, dikPublic := x.dikPublic
    cert := x.cert, faultStarts := x.faultStarts }

/-- The spare map and the event log. -/
def Health.durable (x : Health) : Health :=
  { failed := x.failed, badColumns := x.badColumns, map := x.map, clearFailed := x.clearFailed, events := x.events
    nextSeq := x.nextSeq, overwritten := x.overwritten }

/-- Pins, rails, sensors, and what the standby domain holds. -/
def Power.durable (x : Power) : Power :=
  { p54 := x.p54, sb := x.sb, sbSince := x.sbSince, mainOn := x.mainOn, tripped := x.tripped, amps := x.amps, watts := x.watts
    temps := x.temps, rstL := x.rstL, recoveryL := x.recoveryL, addr := x.addr, pwrgd := x.pwrgd, pfail := x.pfail, fault := x.fault
    capLimit := x.capLimit, chunks := x.chunks, keyResult := x.keyResult }

/-- Everything that does not survive a start is gone (17 R481, R488). -/
def Module.lost (m : Module) : Module :=
  { clock := { now := m.clock.now }
    od := { persist := m.od.persist, record := m.od.record }
    lots := { library := m.lots.library, committed := m.lots.committed, previous := m.lots.previous }
    tables := m.tables.durable
    cistern := m.cistern.durable
    holdup := m.holdup.durable
    boot := m.boot.durable
    health := m.health.durable
    power := m.power.durable
    out := m.out
    fresh := m.fresh }

/-- The module runs: main conversion is on and no start is due. -/
def Module.running (m : Module) : Bool := m.power.mainOn && m.boot.nextCause.isNone

/-! ## The flush (15 R438) -/

/-- The flush of Table 15-3: the committed records go to the next flush area; torn lists the records without their
commit mark (15 R438). -/
def Module.flush (m : Module) (us : Nat) (torn : List Nat) : Module :=
  ({ m with
      cistern := { m.cistern with
        flushArea := m.cistern.journal.filter (fun r => r.commit && !torn.contains r.order)
        flushed := true, lossNs := m.clock.now, lossSfc := m.clock.sfc, flushUs := us }
      holdup := { m.holdup with flushes := m.holdup.flushes + 1, charging := false } }).lost

/-- A reset with the flush of Table 15-3 and without the power-fail indication: the start that follows has this cause
(17 R479, R480). -/
def Module.resetTo (m : Module) (cause us : Nat) : Module :=
  let m := m.flush us []
  { m with boot := { m.boot with nextCause := some cause } }

/-- The power-fail indication: PWRGD falls, PFAIL_L is asserted until the next start, and the flush runs (19 R524,
15 R438). A module that has not started has no journal. -/
def Module.powerFail (m : Module) (us : Nat) (torn : List Nat) : Module :=
  let m := if m.running then m.flush us torn else m.lost
  { m with power := { m.power with pwrgd := false, pfail := true } }

/-- An unsparable fault resets the module with cause MODULE_FAULT; the tiles that have failed are in the spare map
(18 R510). -/
def Module.unsparableReset (m : Module) (cause us : Nat) : Module :=
  let places := ((m.health.tiles.filter (fun p => p.2.state == 1)).map (fun p => m.placeOf p.1)).filter (fun p => !m.health.failed.contains p)
  let m := m.event 0x000F 11 cause
  ({ m with health := { m.health with failed := places.foldl (fun l p => insertBy (fun a b => decide (a ≤ b)) p l) m.health.failed } }).resetTo 5 us

/-! ## The orderly stop (17 R480) -/

/-- Tick at which a drain that begins now ends: n_s + D (02 R54, 17 R480). -/
def Module.drainTick (m : Module) : Nat := match m.clock.drainEnd with
  | some e => e
  | none => m.clock.next + m.depthAt m.clock.next

/-- First tick of a drain that begins now: n_s (02 R54). -/
def Module.drainStart (m : Module) : Option Nat := if m.clock.drainEnd.isSome then m.clock.drainFrom else some m.clock.next

/-- The write cache and the journal go to NAND: each pass programs one whole write. -/
def Module.drainAll : Nat → Module → Module
  | 0, m => m
  | k + 1, m => if m.cistern.cache.isEmpty then m else drainAll k m.drainOldest

/-- The erasures of FACTORY_RESET: bit 0 settings, bit 1 Lot library, bit 2 Store area (17 Table 17-10). -/
def Module.erase (m : Module) (v : Nat) : Module :=
  let m := if v.testBit 0 then { m with od := { m.od with persist := [], record := 1 } } else m
  let m := if v.testBit 1 then { m with lots := { m.lots with library := [], committed := 0, previous := 0 } } else m
  if v.testBit 2 then { m with cistern := { m.cistern with nand := [], flushArea := [], flushed := false } } else m

/-- The end of an orderly stop: STORE sessions are reset, the journal and the write cache go to NAND, module time is
persisted, and the start follows (17 R480, R499). -/
def Module.orderlyStop (m : Module) (cause : Nat) : Module :=
  let m := (m.ports.sessions.filter (fun p => p.2.typ == 2)).foldl (fun (m : Module) p => m.storeReset p.1) m
  let m := Module.drainAll (m.cistern.cache.length + 1) m
  let v := m.clock.factory
  let m := { m with cistern := { m.cistern with savedTime := some m.clock.now } }
  let m := (m.lost).erase v
  { m with boot := { m.boot with nextCause := some cause } }

/-- An orderly stop is asked for: it runs when every admitted query has been posted, at once before the first tick
(17 R480). -/
def Module.requestStop (m : Module) (cause factory : Nat) : Module :=
  let m := { m with clock := { m.clock with factory := factory } }
  if m.clock.ticked then { m with clock := { m.clock with drainFrom := m.drainStart, drainEnd := some m.drainTick, drainReset := some cause } }
  else m.orderlyStop cause

/-! ## Firmware images (17 R489, R490) -/

/-- SVN of an image. -/
def fwSvn (b : Bytes) : Nat := leAt b 16 4
/-- IMAGE_BYTES of an image. -/
def fwBytes (b : Bytes) : Nat := leAt b 24 8
/-- The signing key of an image. -/
def fwKey (b : Bytes) : Bytes := sub b 544 1952

/-- A component entry: type, offset, length and digest. -/
def fwComp (b : Bytes) (i : Nat) : Nat × Nat × Nat × Bytes :=
  let e := sub b (64 + 96 * i) 96
  (leAt e 0 2, leAt e 16 8, leAt e 24 8, sub e 32 64)

/-- The bytes of a component. -/
def fwCompBytes (b : Bytes) (i : Nat) : Bytes := sub b (fwComp b i).2.1 (fwComp b i).2.2.1

/-- The layout of R489. -/
def fwLayoutOk (b : Bytes) : Bool :=
  leAt b 10 2 == 5 && decide (fwSvn b ≤ 63) && leAt b 20 4 == 0 && allZero (sub b 40 24) && fwBytes b == b.length
    && decide (16384 ≤ b.length ∧ b.length ≤ 134217728) && b.length % 4096 == 0
    && allZero (sub b 2496 1600) && allZero (sub b 7405 787)
    && (List.range 5).all (fun i =>
      let c := fwComp b i
      c.1 == i + 1 && allZero (sub b (64 + 96 * i + 2) 14) && c.2.1 % 4096 == 0 && decide (8192 ≤ c.2.1 ∧ 1 ≤ c.2.2.1 ∧ c.2.1 + c.2.2.1 ≤ b.length))

/-- Every component has its DIGEST (17 R490). -/
def fwCompsOk (b : Bytes) : Bool := (List.range 5).all (fun i => shake256 (fwCompBytes b i) 64 == (fwComp b i).2.2.2)

/-- The number of the first check of R489 that an image fails, 6 for its layout or a component, 0 for none; the check of
SVN is number 5. -/
def Module.imageCheck (m : Module) (b : Bytes) : Nat :=
  let d := shake256 (fwKey b) 64
  let vendor := (List.range 4).any (fun i => m.boot.vendor.getD i [] == d && m.boot.revoked.getD i 1 == 0)
  if b.length < 8192 ∨ leAt b 0 8 ≠ 0x00000057_46324E46 ∨ leAt b 8 2 ≠ 1 then 1
  else if !vendor then 2
  else if sub b 32 8 ≠ d.take 8 then 3
  else if !Config.mldsaVerify (fwKey b) (shake256 (b.take 4096) 64) (ascii "FN2-FIRMWARE") (sub b 4096 3309) then 4
  else if fwSvn b < m.boot.minSvn then 5
  else if fwLayoutOk b && fwCompsOk b then 0 else 6

/-- The component measurements D_1 to D_5 of an image (17 R490). -/
def fwComps (b : Bytes) : List Bytes := (List.range 5).map (fun i => shake256 (fwCompBytes b i) 64)

/-- The module measurement of an image (17 R490). -/
def fwMeasure (b : Bytes) : Bytes :=
  ((List.range 5).zip (fwComps b)).foldl (fun acc p => shake256 (acc ++ p.2 ++ toLe 2 (p.1 + 1)) 64)
    (shake256 (zeros 64 ++ shake256 (b.take 4096) 64) 64)

/-! ## Slots (17 R497) -/

/-- STATE of a slot: 0 EMPTY, 1 ACTIVE, 2 STANDBY, 3 PENDING, 4 FAILED, 5 REVOKED. -/
def Module.slot (m : Module) (i : Nat) : Slot := m.boot.slots.getD i {}

/-- Change a slot. -/
def Module.onSlot (m : Module) (i : Nat) (f : Slot → Slot) : Module :=
  { m with boot := { m.boot with slots := m.boot.slots.set i (f (m.slot i)) } }

/-- A slot whose SVN falls below MIN_SVN becomes REVOKED (17 R497). -/
def Module.revokeSlots (m : Module) : Module :=
  { m with boot := { m.boot with slots := m.boot.slots.map (fun (x : Slot) =>
      if x.state ≠ 0 ∧ fwSvn x.image < m.boot.minSvn then { x with state := 5 } else x) } }

/-- A slot in a state. -/
def Module.slotIn (m : Module) (st : Nat) : Option Nat := (List.range 2).find? (fun i => (m.slot i).state == st)

/-- The boot ROM may launch a slot: it is neither empty nor revoked, and its image verifies. -/
def Module.bootable (m : Module) (i : Nat) : Bool :=
  (m.slot i).state != 0 && (m.slot i).state != 5 && m.imageCheck (m.slot i).image == 0

/-- The boot ROM selects a slot: the module with its slots as the attempt leaves them, the slot it prefers, and the
slot it launches (17 R497). -/
def Module.selectSlot (m : Module) : Module × Nat × Option Nat :=
  let m := m.revokeSlots
  let m := match m.slotIn 3 with
    | some p => if 3 ≤ (m.slot p).attempts then m.onSlot p (fun x => { x with state := 4 })
        else m.onSlot p (fun x => { x with attempts := x.attempts + 1 })
    | none => m
  let want := match m.slotIn 3 with
    | some p => p
    | none => match m.slotIn 1 with
      | some a => a
      | none => 0
  let run := if m.bootable want then some want else if m.bootable (1 - want) then some (1 - want) else none
  (m, want, run)

/-- A pending image's first tick: its slot is ACTIVE, the other valid slot STANDBY (17 R497). -/
def Module.bootSucceeds (m : Module) : Module :=
  let b := m.boot.booted
  if (m.slot b).state = 3 then
    let m := m.onSlot b (fun x => { x with state := 1 })
    m.onSlot (1 - b) (fun x => if x.state = 1 ∨ x.state = 2 then { x with state := 2 } else x)
  else m

/-! ## Restoring (15 R439, 17 R483) -/

/-- Flush replay: committed records that read back whole are applied in order (15 R439). torn lists those that do not. -/
def Module.replayFlush (m : Module) (torn : List Nat) : Module :=
  if !m.cistern.flushed then m
  else
    let good := m.cistern.flushArea.filter (fun (r : JournalRec) => !torn.contains r.order)
    let n := good.length
    let bad := m.cistern.flushArea.length - n
    let blocks := good.flatMap (fun (r : JournalRec) => (List.range (ceilDiv r.data.length 4096)).map (fun i => r.offset / 4096 + i))
    let m := { m with cistern := { m.cistern with
        nand := good.foldl (fun (c : List Host.Cell) (r : JournalRec) => memWriteN c r.offset r.data) m.cistern.nand
        bad := m.cistern.bad.filter (fun b => !blocks.contains b)
        flushArea := [], flushed := false
        lastFlush := put (b2n (bad == 0)) 1 0 + put m.cistern.flushUs 32 32 + put bad 32 64 + put n 32 96 + put m.cistern.lossSfc 64 128
          + put m.cistern.lossNs 64 192 } }
    m.event 0x000B 3 (put bad 32 0 + put n 32 32)

/-- A window record of Table 13-4, when it is valid (13 R381). -/
def recordWindow (v : Bytes) : Option Window :=
  let w := leNat v
  if w.testBit 0 then some { len := fld w 255 192, base := fld w 191 128, rkey := fld w 127 96, session := fld w 95 64, ports := fld w 7 4
                             canWrite := w.testBit 2, canRead := w.testBit 1 }
  else none

/-- A persisted value, or a number where none is persisted. -/
def Od.saved (x : Od) (idx sub dflt : Nat) : Nat := match mGet x.persist (odKey idx sub 0) with
  | some v => leNat v
  | none => dflt

/-- Every RWS entry takes its persisted value, or its default where no whole record stands (17 R483). -/
def Module.restoreSettings (m : Module) : Module :=
  let st := m.od.record
  let m := if st = 0 then { m with od := { m.od with cfg := m.od.persist } } else { m with od := { m.od with cfg := [], persist := [] } }
  let o : Od := m.od
  let e := o.saved 0x1100 0x03 0
  let wins := (List.range 64).filterMap (fun i => if i = 0 then none else
    match mGet o.persist (odKey 0x4100 0x1C i) with
    | some v => (recordWindow v).map (fun w => (i, w))
    | none => none)
  let m := { m with
    clock := { m.clock with period := o.saved 0x1100 0x01 250000, depth := o.saved 0x1100 0x02 3, epoch := e, baseNs := e, baseSfc := 0
                            profile := o.saved 0x1100 0x05 0 }
    power := { m.power with cap := o.saved 0x7000 0x01 950, limit := m.power.capLimit }
    ports := { m.ports with windows := wins.foldl (fun l p => mPut l p.1 p.2) m.ports.windows }
    boot := { m.boot with persistStatus := st } }
  if st = 0 then m else m.event 0x000E 2 st

/-- Each source resumes at the next multiple of 65,536 above its highest durable SEQ (18 R514). -/
def Health.resumeSeqs (h : Health) : Health :=
  { h with nextSeq := h.events.filterMap (fun p => (p.2.getLast?).map (fun e => (p.1, (e.seq / 65536 + 1) * 65536 % 2 ^ 32))) }

/-- The spare map is restored; marks that CLEAR_FAILED cleared are gone, their parts having been tested again
(18 R506, R510, R511). Answers false where a logical tile cannot be placed. -/
def Module.restorePlaces (m : Module) : Module × Bool :=
  let m := if m.health.clearFailed then
      { m with health := { m.health with failed := [], badColumns := [], map := [], clearFailed := false } } else m
  let r := (List.range 512).foldl (fun (x : Module × Bool) t =>
    if !x.1.health.failed.contains (x.1.placeOf t) then x
    else match x.1.chooseSpare t with
      | some s => ({ x.1 with health := { x.1.health with map := mPut x.1.health.map t s } }, x.2)
      | none => (x.1, false)) (m, true)
  let cols := (List.range 512).filter (fun t => r.1.health.badColumns.contains (r.1.placeOf t))
  (cols.foldl (fun (m : Module) t => m.onTileHealth t (fun h => { h with columnSpared := true })) r.1, r.2)

/-! ## Time at a start (02 R55) -/

/-- TIME_STATE changes, and is logged (02 R52, R53). -/
def Module.setTimeState (m : Module) (st : Nat) : Module :=
  if m.clock.timeState = st then m
  else ({ m with clock := { m.clock with timeState := st, inRun := 0, outRun := 0 } }).event 0x0001 2 st

/-- The module enters FREE before its first tick: its time is the persisted module time plus 1 s (02 R55). -/
def Module.enterFree (m : Module) : Module :=
  let now := match m.cistern.savedTime with
    | some t => t + 1000000000
    | none => m.clock.now
  ({ m with clock := { m.clock with now := now } }).setTimeState 4

/-! ## The phases of a start (17 R482) -/

/-- Ports that are enabled begin to train (13 R366, 14 R391). -/
def Module.trainPorts (m : Module) : Module :=
  let m := (List.range 5).foldl (fun (m : Module) p => m.onHostPort p (fun x => { x with training := p == 4 || m.cfgI 0x4100 0x04 p != 0 })) m
  (List.range 12).foldl (fun (m : Module) p => if m.cfgI 0x4200 0x08 p = 0 then m else m.setLink p 1) m

/-- The boot launches the image of a slot (17 R482, R490). -/
def Module.launch (m : Module) (want run : Nat) : Module :=
  let b := (m.slot run).image
  { m with boot := { m.boot with booted := run, preferred := want, measurement := fwMeasure b, comps := fwComps b
                                 version := leAt b 12 4, svn := fwSvn b
                                 updateState := if (m.slotIn 3).isSome then 3 else 0 } }

/-- The hold-up bank at a start: its state comes from the measured voltage, and its charger runs (15 R440, R443). -/
def Module.startBank (m : Module) (mv : Nat) : Module :=
  let h := { m.holdup with voltage := mv, endOfLife := decide (m.holdup.rated < 40000) }
  ({ m with holdup := { h with charging := !h.stopped && decide (h.voltage < h.target) } }).evaluateBank

/-- Phases 0 and 1 of a start with this cause: it ends in RESTORE, or stays in BOOT where no slot verifies. mv is the
bank's voltage, torn the flush records that do not read back whole, rimOk the start tests of the rim blocks. -/
def Module.startWith (m : Module) (cause mv : Nat) (torn : List Nat) (rimOk : Bool) : Module :=
  let m := m.lost
  let now := m.clock.now
  let recent := m.boot.faultStarts.filter (fun t => decide (now < t + 3600000000000))
  let m := { m with
    health := m.health.resumeSeqs
    power := { m.power with pwrgd := true, pfail := false, fault := false }
    boot := { m.boot with nextCause := none, cause := cause, bootCount := (m.boot.bootCount + 1) % 2 ^ 64
                          faultStarts := if cause = 5 then recent ++ [now] else recent } }
  let x := m.selectSlot
  match x.2.2 with
  | none => { x.1 with power := { x.1.power with fault := true } }
  | some run =>
    let m := x.1.launch x.2.1 run
    let m := { m with clock := { m.clock with fwStart := now }, boot := { m.boot with startState := 1 } }
    let y := m.restorePlaces
    let bad := !rimOk || !y.2 || (cause == 5 && decide (3 ≤ y.1.boot.faultStarts.length))
    let m := { y.1 with health := { y.1.health with unsparable := bad, window := now / 86400000000000 }, power := { y.1.power with fault := bad } }
    let m := ((m.replayFlush torn).restoreSettings.startBank mv).event 0x000E 1 cause
    let m := m.trainPorts
    let x := m.frameState
    let m := { m with cascade := { m.cascade with state := min x.1 1, outReason := x.2 } }
    if m.cfg 0x1100 0x07 = 2 then m.enterFree else m

end Sys2Proof.Machine
end

