-- ==== Sys2Proof/Machine/Time.lean ====
section
/-! DEFINITION. Meanings of the time rows (02 R51 to R57, 19 R533): PTP, holdover, time steps and 1PPS. -/

namespace Sys2Proof.Machine

/-! ## The time state (02 R51 to R55) -/

/-- TIME_SOURCE: 0 PTP, 1 SIQUIN, 2 FREE. -/
def Module.timeSource (m : Module) : Nat := m.cfg 0x1100 0x07

/-- The grid from an instant on: after the first tick the next tick falls at the first instant E + m * P at or after it,
with the next SFC (02 R54). -/
def Module.rebaseAt (m : Module) (now : Nat) : Module :=
  let c := m.clock
  if !c.ticked ∨ c.period = 0 then m
  else { m with clock := { c with baseSfc := c.sfc + 1, baseNs := c.epoch + ceilDiv (now - c.epoch) c.period * c.period } }

/-- Module time is stepped by a number of ns, and the step is logged (02 R54). -/
def Module.stepTime (m : Module) (step : Int) : Module :=
  let now := ((m.clock.now : Int) + step).toNat
  (({ m with clock := { m.clock with now := now } }).rebaseAt now).event 0x0001 3 (unsgn 64 step)

/-- One measured offset, from a Sync or a beacon (02 R52, R54). -/
def Module.takeOffset (m : Module) (off : Int) : Module :=
  let m := { m with clock := { m.clock with offset := off, lastSync := m.clock.now } }
  let m := if m.clock.timeState = 0 ∨ 3 ≤ m.clock.timeState then m.setTimeState 1 else m
  let big := decide ((m.cfg 0x1100 0x16 : Int) < off ∨ off < -(m.cfg 0x1100 0x16 : Int))
  if big && !m.clock.ticked then
    let m := m.stepTime (-off)
    { m with clock := { m.clock with inRun := 0, outRun := 0, lastSync := m.clock.now } }
  else
    let inside := decide (-40 ≤ off ∧ off ≤ 40)
    let m := { m with clock := { m.clock with inRun := if inside then m.clock.inRun + 1 else 0, outRun := if inside then 0 else m.clock.outRun + 1 } }
    if m.clock.timeState = 1 ∧ 16 ≤ m.clock.inRun then m.setTimeState 2
    else if m.clock.timeState = 2 ∧ 16 ≤ m.clock.outRun then m.setTimeState 1
    else m

/-- The interval of Syncs, or of beacons (02 R52, R58). -/
def Module.syncInterval (m : Module) : Nat :=
  if m.timeSource = 1 then m.clock.period else 1000000000 / 2 ^ (-(sgn 32 (m.cfg 0x1100 0x0F))).toNat

/-- SYNC_LOSS: 4 consecutive intervals have passed with no Sync or beacon (02 R52). -/
def syncLoss (t : Nat) (m : Module) : Module :=
  let m := m.at t
  if m.timeSource = 2 ∨ m.clock.now < m.clock.lastSync + 4 * m.syncInterval then m
  else if m.clock.timeState = 2 then m.setTimeState 3
  else if m.clock.timeState = 1 ∧ m.clock.ticked then m.setTimeState 4
  else m
/-- SYNC_LOSS. -/
def execSyncLoss (t : Nat) (s : State) : Host.Outcome State Fault Refusal := .next { s with m := syncLoss t s.m }

/-- HOLDOVER_LIMIT_EXCEEDED: the estimate, 40 ns plus 100 ns for each second since the last Sync, is above the limit
(02 R53). -/
def holdoverLimitExceeded (t : Nat) (m : Module) : Module :=
  let m := m.at t
  if m.clock.timeState = 3 ∧ m.cfg 0x1100 0x15 * 1000000000 < 40000000000 + 100 * (m.clock.now - m.clock.lastSync) then m.setTimeState 4 else m
/-- HOLDOVER_LIMIT_EXCEEDED. -/
def execHoldoverLimitExceeded (t : Nat) (s : State) : Host.Outcome State Fault Refusal :=
  .next { s with m := holdoverLimitExceeded t s.m }

/-- TIME_STEP: an offset above STEP_THRESHOLD_NS stops admission; the step follows when the admitted queries have been
posted (02 R54). -/
def timeStep (t : Nat) (m : Module) : Module :=
  let m := m.at t
  let lim : Int := m.cfg 0x1100 0x16
  if m.clock.ticked && decide (lim < m.clock.offset ∨ m.clock.offset < -lim) && m.clock.drainStep.isNone then
    { m with clock := { m.clock with drainFrom := m.drainStart, drainEnd := some m.drainTick, drainStep := some (-m.clock.offset) } }
  else m
/-- TIME_STEP. -/
def execTimeStep (t : Nat) (s : State) : Host.Outcome State Fault Refusal := .next { s with m := timeStep t s.m }

/-- LOCK_FALLBACK: not LOCKED within 10 s of firmware start, the module enters FREE (02 R55). -/
def lockFallback (t : Nat) (m : Module) : Module :=
  let m := m.at t
  if 1 ≤ m.boot.startState ∧ m.clock.timeState ≤ 1 ∧ !m.clock.ticked ∧ m.clock.fwStart + 10000000000 ≤ m.clock.now then m.enterFree else m
/-- LOCK_FALLBACK. -/
def execLockFallback (t : Nat) (s : State) : Host.Outcome State Fault Refusal := .next { s with m := lockFallback t s.m }

/-- MODULE_TIME_PERSIST: module time becomes durable every second (02 R55). -/
def moduleTimePersist (t : Nat) (m : Module) : Module :=
  let m := m.at t
  { m with cistern := { m.cistern with savedTime := some m.clock.now } }
/-- MODULE_TIME_PERSIST. -/
def execModuleTimePersist (t : Nat) (s : State) : Host.Outcome State Fault Refusal := .next { s with m := moduleTimePersist t s.m }

/-! ## PTP (02 R56) -/

/-- A is the better master: the lesser priority1, quality, priority2 and identity, in this order. -/
def BestMaster.beats (a b : BestMaster) : Bool :=
  decide (a.prio1 < b.prio1 ∨ a.prio1 = b.prio1 ∧ (a.quality < b.quality ∨ a.quality = b.quality ∧
    (a.prio2 < b.prio2 ∨ a.prio2 = b.prio2 ∧ a.identity < b.identity)))

/-- This module as a master: its priorities, the default quality of a clock that is not traceable, and the identity
formed from the PTP port's MAC address. -/
def Module.ownMaster (m : Module) : BestMaster :=
  let mac := m.boot.macs.getD (m.cfg 0x1100 0x0A) 0
  { prio1 := m.cfg 0x1100 0x11, quality := 0xF8FEFFFF, prio2 := m.cfg 0x1100 0x12
    identity := mac / 2 ^ 24 * 2 ^ 40 + 0xFFFE * 2 ^ 24 + mac % 2 ^ 24 }

/-- The port is a receiver: by its fixed role, or because a better master has announced itself. -/
def Module.ptpReceives (m : Module) : Bool :=
  match m.cfg 0x1100 0x0B with
  | 1 => true
  | 2 => false
  | _ => m.clock.best.any (fun b => b.beats m.ownMaster)

/-- A message of the PTP port and domain. -/
def Module.ptpMine (m : Module) (port domain : Nat) : Bool := port == m.cfg 0x1100 0x0A && domain == m.cfg 0x1100 0x0C

/-- PTP_SYNC: a Sync received at t with its origin time stamp (02 R52, R56). -/
def ptpSync (t port domain origin : Nat) (m : Module) : Module :=
  let m := m.at t
  if m.timeSource = 0 && m.ptpMine port domain && m.ptpReceives then m.takeOffset ((t : Int) - origin - m.clock.ptpDelay) else m
/-- PTP_SYNC. -/
def execPtpSync (t : Nat) (port : Fin 4) (domain origin : Nat) (s : State) : Host.Outcome State Fault Refusal :=
  .next { s with m := ptpSync t port.val domain origin s.m }

/-- PTP_MESSAGE: the delay request-response mechanism, two-step Syncs and the best master clock algorithm (02 R56). -/
def ptpMessage (t port : Nat) (msg : PtpMsg) (m : Module) : Module :=
  let m := m.at t
  match msg with
  | .delayReq domain => if m.ptpMine port domain && !m.ptpReceives then m.send (.ptp port 2 t) else m
  | .delayResp domain received =>
    if m.ptpMine port domain && m.ptpReceives then
      match m.clock.ptpT1 with
      | some t1 => { m with clock := { m.clock with ptpDelay := ((m.clock.offset + m.clock.ptpDelay) + ((received : Int) - t1)) / 2, ptpT1 := none } }
      | none => m
    else m
  | .followUp domain origin received =>
    if m.timeSource = 0 && m.ptpMine port domain && m.ptpReceives then m.takeOffset ((received : Int) - origin - m.clock.ptpDelay) else m
  | .announce domain prio1 quality prio2 identity =>
    let b : BestMaster := { prio1 := prio1, quality := quality, prio2 := prio2, identity := identity }
    if m.ptpMine port domain && (match m.clock.best with
      | none => true
      | some x => x.identity == identity || b.beats x) then { m with clock := { m.clock with best := some b } }
    else m
/-- PTP_MESSAGE. -/
def execPtpMessage (t : Nat) (port : Fin 4) (msg : PtpMsg) (s : State) : Host.Outcome State Fault Refusal :=
  .next { s with m := ptpMessage t port.val msg s.m }

/-- PTP_INTERVAL: a transmitter sends Sync, and Follow_Up when it is two-step; a receiver sends Delay_Req (02 R56). -/
def ptpInterval (t : Nat) (m : Module) : Module :=
  let m := m.at t
  let p := m.cfg 0x1100 0x0A
  if m.ptpReceives then
    if m.timeSource = 0 then ({ m with clock := { m.clock with ptpT1 := some t } }).send (.ptp p 1 t) else m
  else
    let m := m.send (.ptp p 0 t)
    if m.cfgB 0x1100 0x0E then m else m.send (.ptp p 4 t)
/-- PTP_INTERVAL. -/
def execPtpInterval (t : Nat) (s : State) : Host.Outcome State Fault Refusal := .next { s with m := ptpInterval t s.m }

/-! ## 1PPS (02 R57, 19 R533) -/

/-- Distance of an instant from the nearest whole second, positive past it. -/
def secondOffset (t : Nat) : Int :=
  let f := t % 1000000000
  if f < 500000000 then (f : Int) else (f : Int) - 1000000000

/-- PPS_IN: a rising edge at t of a pulse of ns (02 R57, 19 R533). A step that it forces is taken without drain (02 R54). -/
def ppsIn (t ns : Nat) (m : Module) : Module :=
  let m := m.at t
  let early := m.clock.ppsEdge.any (fun e => decide (t < e + 500000000))
  if ns < 1000 ∨ early then m
  else
    let m := { m with clock := { m.clock with ppsEdge := some t } }
    if m.cfg 0x1100 0x14 = 1 ∧ 3 ≤ m.clock.timeState then
      let off := secondOffset t
      let lim : Int := m.cfg 0x1100 0x16
      let m := { m with clock := { m.clock with offset := off } }
      if lim < off ∨ off < -lim then m.stepTime (-off) else m
    else m
/-- PPS_IN. -/
def execPpsIn (t ns : Nat) (s : State) : Host.Outcome State Fault Refusal := .next { s with m := ppsIn t ns s.m }

/-- PPS_OUT_PULSE: at a whole second of module time PPS_OUT rises for 100 ms (02 R57, 19 R533). -/
def ppsOutPulse (t : Nat) (m : Module) : Module :=
  let m := m.at t
  if m.cfgB 0x1100 0x13 && m.clock.now % 1000000000 == 0 then { m with power := { m.power with ppsOut := some m.clock.now } } else m
/-- PPS_OUT_PULSE. -/
def execPpsOutPulse (t : Nat) (s : State) : Host.Outcome State Fault Refusal := .next { s with m := ppsOutPulse t s.m }

end Sys2Proof.Machine
end

