-- ==== Sys2Proof/Machine/CellOps.lean ====
section
/-! DEFINITION. What a cascade cell does at the module that receives it (14 R391 to R418, 02 R58, R59): remote memory,
multicasts, answers, flooded states, beacons, delay exchanges, and the link's own cells. -/

namespace Sys2Proof.Machine

/-! ## Sequences of cells (14 Table 14-3) -/

/-- Keep one cell of a sequence; cell 0 starts the sequence afresh. -/
def Module.keepFrag (m : Module) (src tag idx : Nat) (pay : Bytes) : Module :=
  let same (f : Nat × Nat × Nat × Bytes) : Bool := f.1 == src && f.2.1 == tag && (idx == 0 || f.2.2.1 == idx)
  { m with cascade := { m.cascade with frags := m.cascade.frags.filter (fun f => !same f) ++ [(src, tag, idx, pay)] } }

/-- The cells of a sequence: cell index and payload. -/
def Module.fragsOf (m : Module) (src tag : Nat) : List (Nat × Bytes) :=
  (m.cascade.frags.filter (fun f => f.1 == src && f.2.1 == tag)).map (fun f => f.2.2)

/-- A sequence is done with. -/
def Module.dropFrags (m : Module) (src tag : Nat) : Module :=
  { m with cascade := { m.cascade with frags := m.cascade.frags.filter (fun f => !(f.1 == src && f.2.1 == tag)) } }

/-- Answer a request with DONE (14 Table 14-3). -/
def Module.sendDone (m : Module) (dst tag st : Nat) : Module := (m.sendTo dst 11 tag (toLe 1 st)).1

/-! ## Rights of remote accesses (14 R414) -/

/-- The stream set of a STREAM_ID, if it is armed here. -/
def Module.armedSet (m : Module) (id : Nat) : Option StreamSet :=
  let s := m.streamSet id
  if 2 ≤ s.state then some s else none

/-- A remote read or write of n bytes may touch a place: the module's own streams always may; a user stream may in the
LPDDR5X range and slice regions of its set, and may read active embedding tables, whose regions it never writes (10 R301). -/
def Module.remoteMay (m : Module) (id : Nat) (l : Loc) (n : Nat) (read : Bool) : Bool :=
  if id = 0 then (match l with
    | .unmapped => false
    | .remote _ _ => false
    | _ => true)
  else
    (read && (match l with
      | .lpddr o => inRange m.tableRanges o n
      | _ => false))
    || (match m.armedSet id with
      | none => false
      | some s => match l with
        | .lpddr o => s.inLpddr o n && (read || !meetsRange m.allTableRanges o n)
        | .slice _ _ => m.inSetSlice s l n
        | _ => false)

/-- A KIND 0 or winner write may touch a place: a Vat window or a slice region of a tile of the set. -/
def Module.remoteMayAcc (m : Module) (id : Nat) (l : Loc) (n : Nat) : Bool :=
  if id = 0 then true
  else match m.armedSet id with
    | none => false
    | some s => match l with
      | .vat t _ => armHasTile s.header t
      | .slice _ _ => m.inSetSlice s l n
      | _ => false

/-! ## Reads (14 R414, R415) -/

/-- The bytes that a service read of the schedule gives (02 R59, log 46). -/
def Module.scheduleBytes (m : Module) : Bytes := (m.schedule.map Action.record).flatten

/-- READ_REQ: one READ_DATA for each line of 256 bytes, or DONE with status 1. A read that stays uncorrectable is
answered like a refused one (log 50). -/
def Module.takeReadReq (m : Module) (src tag : Nat) (p : Bytes) : Module :=
  let a := leAt p 0 8
  let n := leAt p 8 4
  let id := leAt p 12 4
  let off := a % 2 ^ 55
  let reply (m : Module) (bs : Bytes) : Module :=
    (List.range (ceilDiv n 256)).foldl (fun (m : Module) j => (m.sendTo src 7 ((tag + j) % 2 ^ 48) (sub bs (256 * j) 256)).1) m
  if n < 16 ∨ 4096 < n then m.sendDone src tag 1
  else if id = 0 ∧ serviceSched ≤ off ∧ off < serviceSched + 32768 then reply m (sub m.scheduleBytes (off - serviceSched) n)
  else
    let l := m.locateN a n
    if !m.remoteMay id l n true then m.sendDone src tag 1
    else
      let r := m.readLoc l n
      let m := m.countPoison l n
      if r.2 then m.sendDone src tag 1 else reply m r.1

/-! ## Writes (14 R414, 11 R311) -/

/-- A part of a job configuration that the master copies here; the whole of it configures the job (11 R311, log 46). -/
def Module.takeConfig (m : Module) (src off : Nat) (bs : Bytes) : Module :=
  let j := (off - serviceJob) / 8192
  let tag := 2 ^ 52 + j
  let m := m.keepFrag src tag ((off - serviceJob) % 8192 / 240) bs
  match assemble (m.fragsOf src tag) with
  | none => m
  | some v =>
    if v.length < 128 ∨ v.length ≠ 128 + 4 * jobMembers v + 64 * jobTensors v ∨ (m.job j).state = 2 then m
    else
      let m := ((m.dropFrags src tag).unreserve (256 + j)).reserve (jobBase v) (m.jobBytes v) (256 + j)
      m.onJob j (fun _ => { config := v, state := 1 })

/-- WRITE: the data, or DONE with status 1. -/
def Module.takeWriteCell (m : Module) (src tag : Nat) (p : Bytes) : Module :=
  let a := leAt p 0 8
  let id := leAt p 8 4
  let n := leAt p 12 2
  let off := a % 2 ^ 55
  if n < 16 ∨ 240 < n then m.sendDone src tag 1
  else if id = 0 ∧ serviceJob ≤ off ∧ off < serviceJob + 64 * 8192 then (m.takeConfig src off (sub p 16 n)).sendDone src tag 0
  else
    let l := m.locateN a n
    if !m.remoteMay id l n false then m.sendDone src tag 1
    else
      let m := m.writeLoc l (sub p 16 n)
      let m := match l with
        | .lpddr o => m.regionTouched o n
        | _ => m
      m.sendDone src tag 0

/-! ## Accumulate writes and SIGNALs (14 R414, R416) -/

/-- KIND 0: Vat operands, applied in order at a command boundary of the tile (07 R212). -/
def Module.takeVatOps (m : Module) (id a count : Nat) (data : Bytes) : Option Module :=
  (List.range count).foldl (fun (r : Option Module) i => match r with
    | none => none
    | some m =>
      let l := m.locateN (a + 40 * i) 40
      match l with
      | .vat t o => if m.remoteMayAcc id l 40 then some (vatAccumulateWrite t o (sub data (40 * i) 40) m) else none
      | _ => none) (some m)

/-- KIND 1: GFX64 operands at consecutive job addresses of a running job, on the sender's lane (11 R316, R318, R320). -/
def Module.takeGfxOps (m : Module) (src j a count : Nat) (data : Bytes) : Option Module :=
  let b := (m.job j).config
  let lane := match jobPos b src with
    | some p => jobLane b p
    | none => 0
  (List.range count).foldl (fun (r : Option Module) i => match r with
    | none => none
    | some m =>
      let v := leAt data (8 * i) 8
      match m.jobPlace j (a + 8 * i) with
      | some (.dense d off) =>
        let x := off + lane * jobShard b * 8
        some (m.takeLine { port := 0, job := j, device := d, addr := x / 256 * 256, lane := lane, values := [(x % 256 / 8, v)] })
      | some (.grad off) => some (m.msaAdd j off v)
      | _ => none) (some m)

/-- KIND 2: a keyed row into a hold area or the owner area of a SPARSE tensor of a running job: the key, then values from
the element that the address names (11 R319; form log 51). -/
def Module.takeKeyed (m : Module) (j a count : Nat) (data : Bytes) : Option Module :=
  let x := m.job j
  let b := x.config
  let off := a % 2 ^ 55
  let area (p : Nat × Nat) : Option (Nat × Bool × Nat) :=
    [0, 1, 2].findSome? (fun k =>
      let base := m.jobRegion b (sparseIndex b p.1 + k)
      if base ≤ off ∧ off < base + 8 * m.tableDim (tenTable p.2) then some (p.1, k == 2, (off - base) / 8) else none)
  if x.state ≠ 2 ∨ count = 0 then none
  else match (jobOfKind b 2).findSome? area with
    | none => none
    | some w => some (m.sparseAdd j w.1 w.2.1 (leAt data 0 8) w.2.2 ((List.range (count - 1)).map (fun i => leAt data (8 * (i + 1)) 8))).1

/-- KIND 3: one cell of a winner write; the whole write is applied at once, and answered (09 R275, R276, log 37). -/
def Module.takeWinner (m : Module) (src tag id a idx : Nat) (data : Bytes) : Module :=
  let key := 3 * 2 ^ 52 + tag
  let m := m.keepFrag src key idx data
  match assemble (m.fragsOf src key) with
  | none => m
  | some bs =>
    let h := leAt bs 0 16
    let rows := fld h 95 64
    if bs.length < 16 * (rows + 1) then m
    else
      let m := m.dropFrags src key
      let n := 16 + 16 * rows
      let l := m.locateN a n
      match l with
      | .slice t o =>
        if m.remoteMayAcc id l n then
          let r := m.winnerApply t o (fld h 127 96) rows (fld h 7 6) (fld h 5 3) (fld h 37 32) (bs.drop 16)
          r.1.sendDone src tag (if r.2 then 0 else 1)
        else m.sendDone src tag 1
      | _ => m.sendDone src tag 1

/-- ACC: operands of one KIND, or DONE with status 1 and nothing touched. -/
def Module.takeAcc (m : Module) (src tag : Nat) (p : Bytes) : Module :=
  let a := leAt p 0 8
  let id := leAt p 8 4
  let kind := leAt p 12 1
  let j := leAt p 13 1
  let count := leAt p 14 2
  let data := p.drop 16
  if kind = 3 then m.takeWinner src tag id a j (data.take (16 * count))
  else
    let r := match kind with
      | 0 => if count ≤ 6 then m.takeVatOps id a count data else none
      | 1 => if count ≤ 30 then m.takeGfxOps src (j % 64) a count data else none
      | 2 => if count ≤ 30 then m.takeKeyed (j % 64) a count data else none
      | _ => none
    match r with
    | some m => m.sendDone src tag 0
    | none => m.sendDone src tag 1

/-- SIGNAL: a counter of any tile (08 R237, R239). -/
def Module.takeSignal (m : Module) (src tag : Nat) (p : Bytes) : Module :=
  match m.locate (leAt p 0 8) with
  | .ctl t _ => if 1 < leAt p 12 1 then m.sendDone src tag 1
    else (m.signal t (leAt p 13 1 % 64) (leAt p 12 1) (leAt p 16 4)).sendDone src tag 0
  | _ => m.sendDone src tag 1

/-! ## Replies at the issuer (14 R414, R415) -/

/-- Frags tag of the schedule that is being read. -/
def schedTag : Nat := 2 ^ 53

/-- The operation ends in a fault: a user stream faults REMOTE, and what it still awaits is forgotten; a read of the
schedule is given up. -/
def Module.failOp (m : Module) (o : RemoteOp) : Module :=
  let gone (x : RemoteOp) : Bool := if o.streamId = 0 then x.kind == o.kind && (o.kind == 6 || x.tag == o.tag) else x.streamId == o.streamId
  let m := { m with cascade := { m.cascade with ops := m.cascade.ops.filter (fun x => !gone x) } }
  if o.kind = 6 then m.dropFrags o.device schedTag
  else if o.streamId = 0 then m
  else m.streamFault o.tile o.ctx 14

/-- The operation has completed; the last one of a command completes the command (08 R228). -/
def Module.endOp (m : Module) (o : RemoteOp) : Module :=
  let m := { m with cascade := { m.cascade with ops := m.cascade.ops.erase o } }
  if o.streamId = 0 then m
  else
    let c := m.ctx o.tile o.ctx
    let m := m.onCtx o.tile o.ctx (fun c => { c with busy := c.busy - 1 })
    if c.busy = 1 then m.finishCmd o.tile o.ctx else m

/-- An operation in flight under a tag at a device. -/
def Module.opOf (m : Module) (dev tag : Nat) : Option RemoteOp := m.cascade.ops.find? (fun o => o.device == dev && o.tag == tag)

/-- The pending frame-shape and profile actions become a copy of the master's (02 R59). -/
def Module.copySchedule (m : Module) (bs : Bytes) : Module :=
  let as := ((chunks 32 bs).map schedAction).filter (fun a => a.kind == 2 || a.kind == 3)
  as.foldl Module.placeCopy (m.unplace (fun a => a.kind == 2 || a.kind == 3))

/-- READ_DATA: a line of a read in flight. -/
def Module.takeReadData (m : Module) (src tag : Nat) (p : Bytes) : Module :=
  match m.opOf src tag with
  | none => m
  | some o =>
    if o.kind = 3 then (m.sliceWrite o.tile o.dest (p.take (leNat o.cell))).endOp o
    else if o.kind = 6 then
      let m := (m.keepFrag src schedTag (o.dest / 256 + 1) p).endOp o
      if m.cascade.ops.any (fun x => x.kind == 6) then m
      else
        let cells := sortBy (fun a b => decide (a.1 ≤ b.1)) (m.fragsOf src schedTag)
        (m.dropFrags src schedTag).copySchedule (cells.flatMap (·.2))
    else m

/-- Read the master's schedule: eight requests of 4,096 bytes (02 R59, log 46). -/
def Module.readSchedule (m : Module) : Module :=
  if m.cascade.ops.any (fun x => x.kind == 6) then m
  else (List.range 8).foldl (fun (m : Module) i =>
    let m := (m.sendTo 0 6 m.cascade.nextTag (toLe 8 (serviceSched + 4096 * i) ++ toLe 4 4096 ++ toLe 4 0)).1
    (List.range 16).foldl (fun (m : Module) j => m.pushOp { kind := 6, device := 0, dest := 4096 * i + 256 * j }) m) m

/-- DONE: of a batch (R409), of a placement (R417), or of a remote operation (R415). -/
def Module.takeDone (m : Module) (src arg : Nat) (p : Bytes) : Module :=
  let st := leAt p 0 1
  if leAt p 1 1 = 1 then
    if st ≠ 0 then m
    else { m with cascade := { m.cascade with own := m.cascade.own.map (fun o =>
      if o.group = fld arg 47 40 ∧ o.sfc = leAt p 8 8 ∧ o.set_.testBit src then { o with accepted := insertBy (fun a b => decide (a ≤ b)) src o.accepted } else o) } }
  else match m.cascade.placements.find? (fun x => x.tag == arg && x.targets.contains src) with
    | some x => m.placementDone x src st
    | none => match m.opOf src arg with
      | none => m
      | some o => if st ≠ 0 then m.failOp o else if o.kind = 3 ∨ o.kind = 6 then m else m.endOp o

/-- Operations with no reply within REMOTE_TIMEOUT_US (14 R415). -/
def Module.opTimeouts (m : Module) : Module :=
  (m.cascade.ops.filter (fun o => decide (o.issued + 1000 * m.cfg 0x4200 0x14 ≤ m.clock.now))).foldl (fun (m : Module) o =>
    if m.cascade.ops.contains o then m.failOp o else m) m

/-! ## Multicasts (14 R406 to R412) -/

/-- Forward a cell of an entry's multicast to the children that lead to members. -/
def Module.passDown (m : Module) (c : Bytes) (members : Nat) : Module :=
  m.sendDown (cellSrc c) (cellTyp c) (cellArg c) (cellPay c) (fun d => members.testBit d)

/-- BATCH_OPEN: hold the bitmap, and pass it on. -/
def Module.takeBatchOpen (m : Module) (c : Bytes) : Module :=
  let b : Batch := { entry := cellSrc c, group := fld (cellArg c) 47 40, sfc := leAt (cellPay c) 0 8, members := leAt (cellPay c) 8 32 }
  let m := { m with cascade := { m.cascade with
    batches := m.cascade.batches.filter (fun (x : Batch) => !(x.entry == b.entry && x.group == b.group && x.sfc == b.sfc)) ++ [b] } }
  m.passDown c b.members

/-- The batches of an entry and group, newest first. -/
def Module.batchesOf (m : Module) (entry group : Nat) : List Batch :=
  sortBy (fun (a b : Batch) => decide (b.sfc ≤ a.sfc)) (m.cascade.batches.filter (fun b => b.entry == entry && b.group == group))

/-- The batch of a query's cell: by the record's arrival time, and then the batch that holds its first cell (02 R35). -/
def Module.batchOfQuery (m : Module) (c : Bytes) : Option Batch :=
  let arg := cellArg c
  let bs := m.batchesOf (cellSrc c) (fld arg 47 40)
  let tag := fld arg 39 8
  if fld arg 7 0 = 0 then
    let t := leAt (cellPay c) 56 8
    match bs.find? (fun b => decide (m.clock.tickTime (b.sfc - 1) ≤ t ∧ t < m.clock.tickTime b.sfc)) with
    | some b => some b
    | none => bs.head?
  else bs.find? (fun b => b.frags.any (fun f => f.1 == tag && f.2.1 == 0) && !b.frags.any (fun f => f.1 == tag && f.2.1 == fld arg 7 0))

/-- QUERY: a cell of a query record. -/
def Module.takeQueryCell (m : Module) (c : Bytes) : Module :=
  match m.batchOfQuery c with
  | none => m
  | some b =>
    let m := m.onBatch b.entry b.group b.sfc (fun b => { b with frags := b.frags ++ [(fld (cellArg c) 39 8, fld (cellArg c) 7 0, cellPay c)] })
    m.passDown c b.members

/-- BATCH_END: a cell of a batch-end record. -/
def Module.takeBatchEnd (m : Module) (c : Bytes) : Module :=
  let idx := fld (cellArg c) 7 0
  let bs := m.batchesOf (cellSrc c) (fld (cellArg c) 47 40)
  let b := if idx = 0 then bs.find? (fun b => b.sfc == leAt (cellPay c) 56 8)
    else bs.find? (fun b => b.ends.any (fun e => e.1 == 0) && !b.ends.any (fun e => e.1 == idx))
  match b with
  | none => m
  | some b => (m.onBatch b.entry b.group b.sfc (fun b => { b with ends := b.ends ++ [(idx, cellPay c)] })).passDown c b.members

/-- TOWER_OUT: a cell of a tower's outputs, for the oldest batch that holds the query and lacks the cell. -/
def Module.takeTowerOut (m : Module) (c : Bytes) : Module :=
  let tag := fld (cellArg c) 39 8
  let idx := fld (cellArg c) 7 0
  let bs := (m.batchesOf (cellSrc c) (fld (cellArg c) 47 40)).reverse
  match bs.find? (fun b => decide (b.sfc ≤ m.clock.sfc) && b.tags.contains tag && !b.towers.any (fun f => f.1 == tag && f.2.1 == idx)) with
  | none => m
  | some b =>
    ((m.onBatch b.entry b.group b.sfc (fun b => { b with towers := b.towers ++ [(tag, idx, cellPay c)] })).passDown c b.members).fillTowers

/-- ANSWER: a cell of a shard answer. A whole one is held for the earliest query of its tag that lacks one from its device
(14 R411). -/
def Module.takeAnswer (m : Module) (src arg : Nat) (p : Bytes) : Module :=
  let tag := fld arg 39 8
  let key := 2 ^ 54 + tag
  let m := m.keepFrag src key (fld arg 7 0) p
  match assemble (m.fragsOf src key) with
  | none => m
  | some r =>
    let len := 64 + 24 * leAt r 10 2
    if r.length < len then m
    else
      let m := m.dropFrags src key
      let qs := m.search.live.filter (fun q => q.role == 1 && q.tag == tag
        && !m.search.answers.any (fun a => a.entryTag == tag && a.sfc == q.admSfc && a.device == src))
      match sortBy (fun (a b : Query) => decide (a.mergeSfc ≤ b.mergeSfc)) qs with
      | [] => m
      | q :: _ =>
        let a : Answer := { entryTag := tag, sfc := q.admSfc, device := src, shard := leAt r 9 1, header := r.take 64, recs := sub r 64 (len - 64) }
        { m with search := { m.search with answers := m.search.answers ++ [a] } }

/-! ## Flooded cells (14 R395, R396, R416) -/

/-- Flood a cell on every UP link but one. -/
def Module.flood (m : Module) (p : Nat) (c : Bytes) : Module :=
  (m.upPorts.filter (fun q => q != p)).foldl (fun (m : Module) q =>
    m.sendCell q (mkCell (m.linkPort q).neighDev (cellSrc c) (cellTyp c) 0 0 (cellArg c) (cellPay c))) m

/-- The state in a STATE cell. -/
def stateOf (version : Nat) (p : Bytes) : NodeState :=
  { version := version, serial := leAt p 4 8, inCascade := (leAt p 1 1).testBit 0, effect := leAt p 12 8
    adj := (List.range 12).filterMap (fun i =>
      let o := 20 + 4 * i
      if leAt p (o + 3) 1 = 0 then none else some (leAt p o 1, leAt p (o + 1) 1, leAt p (o + 2) 1)) }

/-- A state is newer than another of the same origin. -/
def NodeState.newer (a b : NodeState) : Bool :=
  decide (b.effect < a.effect) || (a.effect == b.effect && decide (0 < (a.version + 2 ^ 32 - b.version) % 2 ^ 32 ∧ (a.version + 2 ^ 32 - b.version) % 2 ^ 32 < 2 ^ 31))

/-- A device number is in conflict with another serial (14 R395). -/
def Module.conflict (m : Module) (d serial : Nat) : Module :=
  if m.cascade.conflicts.contains (d, serial) then m
  else
    let m := ({ m with cascade := { m.cascade with conflicts := m.cascade.conflicts ++ [(d, serial)] } }).event 0x000A 3 d
    if d = m.device then m.count 0x4200 0x1A 1 else m

/-- STATE: take the newest state of each origin, once, and flood it on (14 R395, R396). -/
def Module.takeState (m : Module) (p : Nat) (c : Bytes) : Module :=
  let pay := cellPay c
  let d := leAt pay 0 1
  let s := stateOf (fld (cellArg c) 31 0) pay
  let m := { m with cascade := { m.cascade with conflicts := m.cascade.conflicts.filter (fun x => !(x.2 == s.serial && x.1 != d)) } }
  if d = m.device then
    if s.serial = m.boot.serial ∨ m.cascade.conflicts.contains (d, s.serial) then m else (m.conflict d s.serial).flood p c
  else
    let old := mGet m.cascade.nodes d
    if old.any (fun o => o.serial == s.serial && !s.newer o) then m
    else
      let m := if old.any (fun o => o.serial != s.serial) && m.cascade.reachable m.device d then m.conflict d s.serial else m
      let stale (x : Nat × NodeState) : Bool := x.1 != d && x.2.serial == s.serial
      let m := { m with cascade := { m.cascade with nodes := mPut (m.cascade.nodes.filter (fun x => !stale x)) d s } }
      let m := if m.clock.ticked then { m with cascade := { m.cascade with coming := m.cascade.coming ++ [(d, s)] } }
        else { m with cascade := { m.cascade with known := m.cascade.nodes } }
      m.flood p c

/-- ABORT: once for each origin, job and step (14 R416). -/
def Module.takeAbortCell (m : Module) (p : Nat) (c : Bytes) : Module :=
  let k := (cellSrc c, fld (cellArg c) 5 0, leAt (cellPay c) 0 4)
  if m.cascade.aborts.contains k then m
  else
    let m := { m with cascade := { m.cascade with aborts := (k :: m.cascade.aborts).take 256 } }
    (m.flood p c).takeAbort (cellArg c) (cellPay c)

/-! ## Beacons (02 R52, R58, R59, 14 R402) -/

/-- SCHED_DIGEST over the pending KIND 1 to 3 entries (02 Table 02-6). -/
def Module.schedDigest (m : Module) : Nat :=
  let es := m.schedule.filter (fun a => decide (1 ≤ a.kind ∧ a.kind ≤ 3))
  if es.isEmpty then 0 else leNat (shake256 ((es.map Action.record).flatten) 8)

/-- The beacon that announces the next tick (02 Table 02-6). -/
def Module.beacon (m : Module) : Bytes :=
  let c := m.clock
  toLe 64 (put (c.sfc + 1) 64 0 + put (c.tickTime (c.sfc + 1)) 64 64 + put c.baseSfc 64 128 + put c.baseNs 64 192 + put m.schedDigest 64 256
    + put c.period 32 320 + put (match m.lots.active with
      | some l => l.number
      | none => 0) 32 352
    + put c.depth 8 384 + put c.profile 8 392 + put c.timeState 8 400 + put (b2n (m.timeSource == 0 && c.timeState == 2)) 1 408
    + put (b2n (m.schedule.any (fun a => a.kind == 2 || a.kind == 3))) 1 409)

/-- Send a beacon on a port with this module's time and a number of hops. -/
def Module.sendBeacon (m : Module) (p hops : Nat) (b : Bytes) : Module :=
  m.sendCell p (mkCell (m.linkPort p).neighDev 0 3 0 0 0 (fit b 64 ++ toLe 8 m.clock.now ++ toLe 1 hops))

/-- A mismatch or a run of missing beacons (02 R59). -/
def Module.beaconLost (m : Module) (sfcNext : Nat) : Module :=
  (({ m with clock := { m.clock with beaconMatch := 0 }, cascade := { m.cascade with beaconOk := false } }).count 0x1100 0x1F 1).event 0x0001 4 sfcNext

/-- Compare a beacon with this module's own frame state, and adopt the master's on a mismatch (02 R54, R59). -/
def Module.compareBeacon (m : Module) (b : Bytes) : Module :=
  let c := m.clock
  let theirs := (leAt b 16 8, leAt b 24 8, leAt b 40 4, leAt b 48 1)
  if c.adoptNext then { m with clock := { c with adopt := some theirs, adoptNext := false } }
  else if leAt b 0 8 = c.next ∧ theirs = (c.baseSfc, c.baseNs, c.period, c.depth) ∧ leAt b 32 8 = m.schedDigest then
    let n := min 16 (c.beaconMatch + 1)
    { m with clock := { c with beaconMatch := n }, cascade := { m.cascade with beaconOk := m.cascade.beaconOk || n == 16 } }
  else
    let m := m.beaconLost (leAt b 0 8)
    ({ m with clock := { m.clock with adopt := some theirs } }).readSchedule

/-- BEACON from the parent in T(0), once for each announced tick (02 R58, R59, 14 R402). -/
def Module.takeBeacon (m : Module) (p : Nat) (c : Bytes) : Module :=
  let pay := cellPay c
  let b := pay.take 64
  let l := m.linkPort p
  if !m.inCascadeConfig ∨ m.device = 0 ∨ m.cascade.parent 0 m.device ≠ some l.neighDev
      ∨ m.clock.beaconHere.any (fun x => leAt x 0 8 == leAt b 0 8) then m
  else
    let hops := leAt pay 72 1
    let m := { m with clock := { m.clock with beaconHere := some b, beaconMiss := 0 }, cascade := { m.cascade with hops := hops } }
    let m := if m.timeSource ≠ 1 then m
      else
        let m := m.takeOffset ((m.clock.now : Int) - ((leAt pay 64 8 : Nat) + l.delay))
        (m.cascade.children 0 m.device).foldl (fun (m : Module) v => match m.cascade.portTo m.device 0 v v with
          | some q => m.sendBeacon q (hops + 1) b
          | none => m) m
    if m.clock.ticked then m.compareBeacon b else m

/-! ## Delay exchanges (14 R401) -/

/-- DELAY: a request is answered; a response gives the delay of its exchange. -/
def Module.takeDelay (m : Module) (p arg : Nat) (pay : Bytes) : Module :=
  let l := m.linkPort p
  let now := m.clock.now
  if arg = 0 then m.sendCell p (mkCell l.neighDev m.device 2 0 0 1 (pay.take 8 ++ toLe 8 now ++ toLe 8 now ++ sub pay 24 4))
  else if leAt pay 24 4 ≠ l.exchange then m
  else
    let t1 : Int := (leAt pay 0 8 : Nat)
    let t2 : Int := (leAt pay 8 8 : Nat)
    let t3 : Int := (leAt pay 16 8 : Nat)
    let d := (((now : Int) - t1) - (t3 - t2)).tdiv 2 + sgn 32 (m.cfgI 0x4200 0x0B p)
    m.onLink p (fun l => { l with delays := (d :: l.delays).take 16 })

/-- Every UP link starts an exchange (14 R401). -/
def Module.startDelays (m : Module) : Module :=
  m.upPorts.foldl (fun (m : Module) p =>
    let l := m.linkPort p
    let e := (l.exchange + 1) % 2 ^ 32
    (m.onLink p (fun l => { l with exchange := e })).sendCell p (mkCell l.neighDev m.device 2 0 0 0 (toLe 8 m.clock.now ++ zeros 16 ++ toLe 4 e))) m

/-! ## Lanes (14 R389, R390, 18 R500) -/

/-- The idle spare lane that backs a port, if there is one (14 R390). -/
def Module.laneSpare (m : Module) (p : Nat) : Option Nat :=
  (List.range 4).find? (fun s => leAt (m.cfgBytes 0x4200 0x0C 0) s 1 == p && !mHas m.cascade.spareLanes s
    && !(m.schedule ++ m.health.waiting).any (fun a => a.kind == 4 && partKind a.part == 4 && partSpare a.part == s))

/-- Plan the cut-over of a lane, and announce it to the far end (14 R390; swap word log 52). -/
def Module.planLane (m : Module) (p lane : Nat) (tell : Bool) : Module :=
  let part := 4 * p + lane
  if m.cutPending 4 part || (m.linkPort p).failedLanes.testBit lane then m
  else
    let spare := (m.laneSpare p).getD 0xFF
    let m := m.planned 4 part spare
    if tell && (m.linkPort p).state == 3 then m.sendLink p [] (put part 8 8 + put spare 8 0 + 2 ^ 31) else m

/-! ## Link cells (14 R391, R393, R394) -/

/-- Take the neighbour's data from a LINK cell. -/
def LinkPort.hello (l : LinkPort) (p : Bytes) : LinkPort :=
  { l with neighDev := leAt p 0 1, neighPort := leAt p 1 1, neighCascade := leAt p 4 4, neighSerial := leAt p 8 8 }

/-- Credits per class that a LINK cell returns. -/
def LinkPort.credit (l : LinkPort) (p : Bytes) : LinkPort :=
  { l with credits := (List.range 4).foldl (fun cs c => mPut cs c (min 256 (mGetD cs c 0 + leAt p (32 + 4 * c) 4))) l.credits }

/-- A link in HELLO compares both ends, and answers (14 R391). -/
def Module.linkMeet (m : Module) (p : Nat) : Module := (m.linkTo p (m.linkVerdict (m.linkPort p))).sendLink p [] 0

/-- LINK: hello data, credits, missing SEQs and a lane swap. -/
def Module.takeLink (m : Module) (p : Nat) (c : Bytes) : Module :=
  let pay := cellPay c
  let old := m.linkPort p
  let new := old.hello pay
  match old.state with
  | 2 => (m.onLink p (fun l => l.hello pay)).linkMeet p
  | 4 => if new = old then m else ((m.onLink p (fun l => l.hello pay)).linkTo p 2).linkMeet p
  | 3 =>
    if m.linkVerdict new = 4 then (m.onLink p (fun l => l.hello pay)).linkTo p 4
    else
      let m := ((m.onLink p (fun l => (l.hello pay).credit pay)).takeAck p (cellAck c))
      let naks := (List.range (min 32 (leAt pay 48 4))).map (fun i => leAt pay (52 + 4 * i) 4)
      let r := (m.linkCount p 5 naks.length).retransmit p (fun e => naks.contains e.1)
      let m := if naks.isEmpty then m else if r.2 then r.1 else m.linkTo p 5
      let swap := leAt pay 180 4
      if swap = 0 then m else m.planLane p (fld swap 15 8 % 4) false
  | _ => m

/-- Retransmit what has waited REPLAY_TIMEOUT_NS; past RETRY_LIMIT the link fails (14 R393). -/
def Module.replayDue (m : Module) (p : Nat) : Module :=
  if (m.linkPort p).state ≠ 3 then m
  else
    let r := m.retransmit p (fun e => decide (e.2.2.1 + m.cfg 0x4200 0x15 ≤ m.clock.now))
    if r.2 then r.1 else m.linkTo p 5

/-! ## Receiving a cell -/

/-- A unicast cell for another device goes on; a request that no route can carry is answered with status 2
(14 R397, R398, R415). -/
def Module.pass (m : Module) (c : Bytes) : Module :=
  let t := cellTyp c
  if (m.cascade.route m.device (cellSrc c) (cellDst c)).isNone && (t == 5 || t == 6 || t == 8 || t == 9 || t == 10)
      && !m.cascade.conflicts.any (fun x => x.1 == cellDst c) then m.sendDone (cellSrc c) (cellArg c) 2
  else m.forward c

/-- A cell that reaches this module in sequence (14 Table 14-3). -/
def Module.deliver (m : Module) (p : Nat) (c : Bytes) : Module :=
  let t := cellTyp c
  let src := cellSrc c
  let arg := cellArg c
  let pay := cellPay c
  if (decide (5 ≤ t ∧ t ≤ 11) || decide (16 ≤ t ∧ t ≤ 19)) && cellDst c != m.device then m.pass c
  else match t with
    | 2 => m.takeDelay p arg pay
    | 3 => m.takeBeacon p c
    | 4 => m.takeState p c
    | 5 => m.takeSched src arg pay
    | 6 => m.takeReadReq src arg pay
    | 7 => m.takeReadData src arg pay
    | 8 => m.takeWriteCell src arg pay
    | 9 => m.takeAcc src arg pay
    | 10 => m.takeSignal src arg pay
    | 11 => m.takeDone src arg pay
    | 12 => m.takeBatchOpen c
    | 13 => m.takeQueryCell c
    | 14 => m.takeBatchEnd c
    | 15 => m.takeTowerOut c
    | 16 => m.takeAnswer src arg pay
    | 17 => m.takeLookup src pay
    | 18 => m.takeRing arg pay
    | 19 => m.takeToken arg pay
    | 20 => m.takeAbortCell p c
    | _ => m.linkCount p 7 1

/-- A cell is dropped for its CRC, and counted against its lane (14 R392, 18 R500). -/
def Module.cellBad (m : Module) (p lane : Nat) : Module :=
  (m.linkCount p 2 1).onLink p (fun l => { l with laneCrc := mAdd l.laneCrc lane 1 })

/-- The lowest lane in service of a port. -/
def LinkPort.firstLane (l : LinkPort) : Nat := ((List.range 4).find? (fun i => l.lanes.testBit i)).getD 0

/-- Return credits once a class owes 64, and acknowledge where nothing else went out on the port (14 R393, R394, log 53). -/
def Module.linkReply (m : Module) (p sent : Nat) : Module :=
  let l := m.linkPort p
  if l.state ≠ 3 then m
  else if l.owed.any (fun o => decide (64 ≤ o.2)) then m.sendLink p [] 0
  else if m.ctrI 0x4200 0x0A (p * 16) = sent then m.cellToWire p (mkCell l.neighDev m.device 0 0 l.rxNext 0 []) else m

/-- A cell arrives from the SerDes (14 R392, R393). -/
def Module.rxWire (m : Module) (p : Nat) (c : Bytes) : Module :=
  let l := m.linkPort p
  if !cellCrcOk c then m.cellBad p l.firstLane
  else
    let m := m.linkCount p 1 1
    if cellTyp c = 1 then m.takeLink p c
    else if l.state ≠ 3 then m
    else
      let m := m.takeAck p (cellAck c)
      if cellTyp c = 0 then m
      else
        let sent := m.ctrI 0x4200 0x0A (p * 16)
        let r := m.rxSequenced p c
        (r.2.foldl (fun (m : Module) c => m.deliver p c) r.1).linkReply p sent

/-- A cell arrives at a port through its receive injectors (14 R418). -/
def Module.rxCell (m : Module) (p : Nat) (c : Bytes) : Module :=
  let r := m.inject true p false (cellEligible c)
  let c' := if r.2.flips.isEmpty then c else cellFlip c r.2.flips r.2.stale
  let m := match r.2.hold with
    | some k => r.1.onInjector k (fun x => { x with held := some (c', 0) })
    | none => if r.2.drop then r.1 else r.1.rxWire p c'
  r.2.release.foldl (fun (m : Module) k => match (mGetD m.ports.inject k {}).held with
    | some (h, _) => (m.onInjector k (fun x => { x with held := none })).rxWire p h
    | none => m) m

end Sys2Proof.Machine
end

