-- ==== Sys2Proof/Machine/Health.lean ====
section
/-! DEFINITION. Meanings of the health, event and injection rows (18 R500 to R517). -/

namespace Sys2Proof.Machine

/-- A write of CUTOVER_REQUEST executes: a planned cut-over of a tile at frame N (18 R500, R517). -/
def Module.runCutover (m : Module) (r : VReq) (c : Client) : Module :=
  m.checked r c (fun m _ v => m.untargeted r (fun m =>
    let w := leNat v
    let t := fld w 8 0
    m.withLead r (fld w 127 64) (fun m n =>
      if m.cutPending 0 t ∨ (m.tileHealth t).state = 1 then m.refuse r 82
      else match m.chooseSpare t with
        | none => m.refuse r 81
        | some s =>
          if m.hostFull then m.refuse r 12
          else (m.onTileHealth t (fun h => { h with state := 2 })).placeAck r
            { kind := 4, arg := m.cutEpoch 0 n, part := partOf 0 t s, target := n })))

/-- CUTOVER_REQUEST. -/
def cutoverRequest (t : Nat) (m : Module) : Module := m.serve t (fun r _ => r.writes 0x6000 0x06) Module.runCutover
/-- CUTOVER_REQUEST. -/
def execCutoverRequest (t : Nat) (s : State) : Host.Outcome State Fault Refusal := .next { s with m := cutoverRequest t s.m }

/-- A write of CLEAR_FAILED executes: 1 clears the failure marks for the next start (18 R511). -/
def Module.runClearFailed (m : Module) (r : VReq) (c : Client) : Module :=
  m.checked r c (fun m _ v => m.untargeted r (fun m =>
    (if v = [1] then { m with health := { m.health with clearFailed := true } } else m).ack r 0))

/-- CLEAR_FAILED. -/
def clearFailed (t : Nat) (m : Module) : Module := m.serve t (fun r _ => r.writes 0x6000 0x11) Module.runClearFailed
/-- CLEAR_FAILED. -/
def execClearFailed (t : Nat) (s : State) : Host.Outcome State Fault Refusal := .next { s with m := clearFailed t s.m }

/-- The records of a source from a SEQ onward, in SEQ order, at most n (18 R515). -/
def Module.eventsFrom (m : Module) (source first n : Nat) : List EventRec :=
  ((mGetD m.health.events source []).filter (fun e => decide ((e.seq + 2 ^ 32 - first) % 2 ^ 32 < 2 ^ 31))).take n

/-- A write of EVENT_QUERY executes (18 R515). -/
def Module.runEventQuery (m : Module) (r : VReq) (c : Client) : Module :=
  m.checked r c (fun m _ v => m.untargeted r (fun m =>
    let w := leNat v
    let bs := (m.eventsFrom (fld w 15 0) (fld w 63 32) (fld w 31 16)).flatMap EventRec.bytes
    (m.onClient r (fun c => { c with events := bs })).ack r m.clock.sfc))

/-- EVENT_QUERY. -/
def eventQuery (t : Nat) (m : Module) : Module := m.serve t (fun r _ => r.writes 0x6000 0x16) Module.runEventQuery
/-- EVENT_QUERY. -/
def execEventQuery (t : Nat) (s : State) : Host.Outcome State Fault Refusal := .next { s with m := eventQuery t s.m }

/-! ## Injectors (18 R516, 13 R386) -/

/-- A write of INJECT_ARM executes: it acts at its tick (18 R516). -/
def Module.runInjectArm (m : Module) (r : VReq) (c : Client) : Module :=
  m.checked r c (fun m o v => m.atTick r (fun m n => m.placeValue r o 0 n v))

/-- INJECT_ARM. -/
def injectArm (t : Nat) (m : Module) : Module := m.serve t (fun r _ => r.writes 0x6100 0x04) Module.runInjectArm
/-- INJECT_ARM. -/
def execInjectArm (t : Nat) (s : State) : Host.Outcome State Fault Refusal := .next { s with m := injectArm t s.m }

/-- A write of HOST_INJECTORS or CASCADE_INJECTORS executes: it acts at its tick (18 R516). -/
def Module.runInjectorWrite (m : Module) (r : VReq) (c : Client) : Module :=
  m.checked r c (fun m o v => m.atTick r (fun m n => m.placeValue r o 0 n v))

/-- INJECTOR_WRITE. -/
def injectorWrite (t : Nat) (m : Module) : Module :=
  m.serve t (fun r _ => r.writes 0x6100 0x02 || r.writes 0x6100 0x03) Module.runInjectorWrite
/-- INJECTOR_WRITE. -/
def execInjectorWrite (t : Nat) (s : State) : Host.Outcome State Fault Refusal := .next { s with m := injectorWrite t s.m }

/-- An injector starts afresh from its record: its generator at SEED, its count at 0, acting while its ACTION is not
off (13 R386). What it holds stays held. -/
def Module.freshInjector (m : Module) (cascade : Bool) (i : Nat) : Module :=
  let port := i / 4
  let rec_ := m.injRecord cascade port (i % 4)
  let k := injKey cascade port (i % 4)
  let old := mGetD m.ports.inject k {}
  let seed := fld rec_ 159 128
  let x : Injector := { old with gen := if seed = 0 then 1 else seed, count := 0, live := fld rec_ 10 8 != 0 }
  { m with ports := { m.ports with inject := mPut m.ports.inject k x } }

/-- Every injector with its kind and number. -/
def allInjectors : List (Bool × Nat) := (List.range 16).map (fun i => (false, i)) ++ (List.range 48).map (fun i => (true, i))

/-- Injectors are armed at tick n, and start afresh (18 R516). -/
def Module.armInjectors (m : Module) (n : Nat) : Module :=
  let m := allInjectors.foldl (fun (m : Module) p => m.freshInjector p.1 p.2) m
  ({ m with health := { m.health with armed := true, armSfc := n } }).event 0x0010 1 n

/-- Every injector disarms: data 0 for the limit, 1 for a write (18 R516). -/
def Module.disarmInjectors (m : Module) (why : Nat) : Module :=
  if !m.health.armed then m
  else ({ m with
      health := { m.health with armed := false, armSfc := 0 }
      ports := { m.ports with inject := m.ports.inject.map (fun (p : Nat × Injector) => (p.1, { p.2 with live := false })) } }).event 0x0010 2 why

/-- New injector records at a tick: while armed, those that change restart alone (18 R516). -/
def Module.setInjectors (m : Module) (cascade : Bool) (v : Bytes) : Module :=
  let s := if cascade then 0x03 else 0x02
  let old := m.cfgBytes 0x6100 s 0
  let m := m.setCfg 0x6100 s 0 v
  if !m.health.armed then m
  else (List.range (if cascade then 48 else 16)).foldl (fun (m : Module) i =>
    if sub old (32 * i) 32 = sub v (32 * i) 32 then m else m.freshInjector cascade i) m

/-- INJECT_LIMIT: INJECT_LIMIT_FRAMES after tick A every injector disarms (18 R516). -/
def injectLimit (m : Module) : Module :=
  if m.health.armed && decide (m.health.armSfc + m.cfg 0x6100 0x05 ≤ m.clock.sfc) then m.disarmInjectors 0 else m
/-- INJECT_LIMIT. -/
def execInjectLimit (s : State) : Host.Outcome State Fault Refusal := .next { s with m := injectLimit s.m }

/-! ## Triggers and windows -/

/-- HANG_LIMIT: a context of a tile reached no command boundary in HANG_LIMIT_CLOCKS after a stop (18 R504 trigger 2). -/
def hangLimit (t tile : Nat) (m : Module) : Module := (m.at t).failTile tile 2
/-- HANG_LIMIT. -/
def execHangLimit (t : Nat) (tile : Fin 512) (s : State) : Host.Outcome State Fault Refusal := .next { s with m := hangLimit t tile.val s.m }

/-- HEALTH_WINDOW: at a multiple of 86,400 s of module time the counts of corrected errors restart (18 R500). -/
def healthWindow (t : Nat) (m : Module) : Module :=
  let m := m.at t
  let w := m.clock.now / 86400000000000
  if w = m.health.window then m
  else { m with health := { m.health with window := w }, mem := { m.mem with pageErrors := [], rowErrors := [] } }
/-- HEALTH_WINDOW. -/
def execHealthWindow (t : Nat) (s : State) : Host.Outcome State Fault Refusal := .next { s with m := healthWindow t s.m }

end Sys2Proof.Machine
end

