-- ==== Sys2Proof/Machine/RoceOps.lean ====
section
/-! DEFINITION. RoCEv2 on the host ports (13 R368 to R383): acknowledgement, memory windows, packets in sequence,
the module's own operations, and the end of a session. -/

namespace Sys2Proof.Machine

/-! ## Memory windows (13 R381, R382) -/

/-- n bytes of a host's virtual address lie within this window, which admits the session, its port and the access. -/
def Window.admits (w : Window) (s port off n rkey : Nat) (write : Bool) : Bool :=
  w.rkey == rkey && (w.session == 0xFFFFFFFF || w.session == s) && w.ports.testBit port && (if write then w.canWrite else w.canRead)
    && decide (w.base ≤ off ∧ off + n ≤ w.base + w.len)

/-- Local offset of a host's virtual address: device field 0, 511 or the module's own (13 R382). -/
def Module.hostOffset (m : Module) (addr : Nat) : Option Nat :=
  let d := addr % 2 ^ 64 / 2 ^ 55
  if d = 0 ∨ d = 511 ∨ d = m.device then some (addr % 2 ^ 55) else none

/-- The local offset of an access that is permitted (13 R382). -/
def Module.hostAccess (m : Module) (s port addr n rkey : Nat) (write : Bool) : Option Nat :=
  match m.hostOffset addr with
  | none => none
  | some off =>
    let active := m.tables.tables.flatMap (fun p => match p.2.active with
      | some d => tabRegions d
      | none => [])
    let mapped := match m.locateLocal off, m.locateLocal (off + n - 1) with
      | .lpddr _, .lpddr _ => true
      | .book _, .book _ => true
      | _, _ => false
    if mapped && m.ports.windows.any (fun w => w.2.admits s port off n rkey write)
      && !(write && (meetsRange m.protectedRanges off n || meetsRange active off n)) then some off else none

/-- An RDMA WRITE of permitted bytes (13 R382, 17 R487). -/
def Module.hostWrite (m : Module) (off : Nat) (bs : Bytes) : Module := (m.lpWrite off bs).regionTouched off bs.length

/-- Bytes of a permitted RDMA READ: LPDDR5X, or the Pattern Book mirror (13 R381). -/
def Module.hostRead (m : Module) (off n : Nat) : Bytes :=
  if off < m.lpddrUsable then m.lpRead off n else sub m.patternBook (off - 0x050000000000) n

/-! ## Acknowledgement (13 R372) -/

/-- The PSN before another. -/
def psnBefore (p : Nat) : Nat := (p + 2 ^ 24 - 1) % 2 ^ 24

/-- Acknowledge what a session has received (13 R372). -/
def Module.sendAck (m : Module) (s : Nat) : Module :=
  match m.session s with
  | none => m
  | some x => ((m.onSession s (fun x => { x with unacked := 0, ackReq := false })).countTx x 0 4).emit x.port (some s) true (.ack s (psnBefore x.rxPsn)) 44

/-- A request packet was taken: it waits for an ACK, which goes at 16 (13 R372). -/
def Module.taken (m : Module) (s : Nat) (ackReq : Bool) : Module :=
  let m := m.onSession s (fun x => { x with rxPsn := (x.rxPsn + 1) % 2 ^ 24, nakSent := false, unacked := x.unacked + 1, ackReq := x.ackReq || ackReq })
  match m.session s with
  | some x => if 16 ≤ x.unacked then m.sendAck s else m
  | none => m

/-! ## Requests in sequence (13 R371, R374, R382, R383) -/

/-- A packet of a SEND (13 R374). -/
def Module.takeSend (m : Module) (s : Nat) (x : Session) (pkt : RocePacket) (first last : Bool) : Module :=
  if first && decide (m.cfg 0x4100 0x19 ≤ x.unparsed.length) then
    ((m.countTx x 0 4).portCount x.port 13 1).emit x.port (some s) true (.rnrNak s x.rxPsn (m.cfg 0x4100 0x1A)) 44
  else
    let msg := (if first then [] else x.partMsg) ++ pkt.payload
    if (first && !x.partMsg.isEmpty) || (!first && x.partMsg.isEmpty) || (!last && pkt.payload.length != 4096) || decide (2097152 < msg.length) then
      m.nak s x.rxPsn 1
    else
      let m := m.onSession s (fun y => { y with partMsg := if last then [] else msg, unparsed := if last then y.unparsed ++ [(m.clock.now, msg)] else y.unparsed })
      m.taken s pkt.ackReq

/-- The access of an RDMA WRITE is refused: Remote Access Error (13 R382). -/
def Module.refuseAccess (m : Module) (s : Nat) (x : Session) : Module := (m.count 0x4100 0x21 1).nak s x.rxPsn 2

/-- A packet of an RDMA WRITE (13 R382). -/
def Module.takeWrite (m : Module) (s : Nat) (x : Session) (pkt : RocePacket) (first last : Bool) : Module :=
  let from_ := if first then some (pkt.addr, pkt.len, pkt.rkey) else x.writeAt
  match from_ with
  | none => m.nak s x.rxPsn 1
  | some (addr, left, rkey) =>
    let n := pkt.payload.length
    if (first && x.writeAt.isSome) || decide (left < n) || (last && n != left) || (!last && n != 4096) then m.nak s x.rxPsn 1
    else
      let ok := if first then m.hostAccess s x.port addr left rkey true else m.hostOffset addr
      match ok with
      | none => m.refuseAccess s x
      | some off =>
        let m := if n = 0 then m else m.hostWrite off pkt.payload
        let m := m.onSession s (fun y => { y with writeAt := if last then none else some (addr + n, left - n, rkey) })
        m.taken s pkt.ackReq

/-- Response packets of an RDMA READ, up to the first that would carry poisoned data (13 R383). -/
def Module.readPackets (m : Module) (s : Nat) (x : Session) : List (Nat × Nat × Nat) → Module
  | [] => m.onSession s (fun y => { y with unacked := 0, ackReq := false })
  | (psn, off, n) :: rest =>
    if off < m.lpddrUsable ∧ !(m.poisonIn off n).isEmpty then (m.countPoison (.lpddr off) n).nak s psn 3
    else
      let m := ((m.portCount x.port 2 1).portCount x.port 0 (m.frameOverhead x + n + 4)).emit x.port (some s) true
        (.readData s psn (m.hostRead off n)) ((if x.v6 then 40 else 20) + 24)
      m.readPackets s x rest

/-- An RDMA READ request, also a duplicate of one, answered from its PSN on (13 R371, R383). -/
def Module.takeRead (m : Module) (s : Nat) (x : Session) (pkt : RocePacket) (again : Bool) : Module :=
  match m.hostAccess s x.port pkt.addr pkt.len pkt.rkey false with
  | none => m.refuseAccess s x
  | some off =>
    let k := packetsOf pkt.len
    let m := if again then m else m.onSession s (fun y => { y with rxPsn := (y.rxPsn + k) % 2 ^ 24, nakSent := false })
    m.readPackets s x ((List.range k).map (fun i => ((pkt.psn.toNat + i) % 2 ^ 24, off + 4096 * i, min 4096 (pkt.len - 4096 * i))))

/-- A request packet of a session in service: in sequence, duplicate, or past a gap (13 R371, R372). -/
def Module.takeRequest (m : Module) (s : Nat) (x : Session) (pkt : RocePacket) : Module :=
  let d := (pkt.psn.toNat + 2 ^ 24 - x.rxPsn) % 2 ^ 24
  if d = 0 then
    match pkt.op with
    | .send first last => m.takeSend s x pkt first last
    | .write first last => m.takeWrite s x pkt first last
    | .read => m.takeRead s x pkt false
    | _ => m.nak s x.rxPsn 1
  else if d < 2 ^ 23 then
    if x.nakSent then m else (m.nak s x.rxPsn 0).onSession s (fun y => { y with nakSent := true })
  else match pkt.op with
    | .read => m.takeRead s x pkt true
    | _ => m.sendAck s

/-! ## The module's own operations (13 R373) -/

/-- The operations up to a PSN are acknowledged. -/
def Module.acked (m : Module) (s psn : Nat) : Module :=
  m.onSession s (fun x =>
    let done := x.txList.takeWhile (fun e => decide ((psn + 2 ^ 24 - e.1) % 2 ^ 24 < 2 ^ 23))
    if done.isEmpty then x
    else { x with txList := x.txList.drop done.length, txQueued := x.txQueued - done.foldl (fun a e => a + e.2.1) 0, retries := 0, rnrTries := 0 })

/-- What is not acknowledged is sent again (13 R373). -/
def Module.resend (m : Module) (s : Nat) : Module :=
  match m.session s with
  | none => m
  | some x => x.txList.foldl (fun (m : Module) e =>
      let n := packetsOf e.2.2.payload
      ((m.portCount x.port 12 n).countTx x e.2.2.payload 20).emit x.port (some s) true e.2.2 ((if x.v6 then 40 else 20) + 40)) m

/-- One retry of a session's operations: past RETRY_COUNT it enters ERROR (13 R373). -/
def Module.retry (m : Module) (s : Nat) : Module :=
  match m.session s with
  | none => m
  | some x =>
    if x.txList.isEmpty then m
    else if m.cfg 0x4100 0x16 ≤ x.retries then m.sessionError s
    else (m.onSession s (fun y => { y with retries := y.retries + 1 })).resend s

/-- A response to the module's own operations. -/
def Module.takeResponse (m : Module) (s : Nat) (x : Session) (pkt : RocePacket) : Module :=
  match pkt.op with
  | .ack => m.acked s pkt.psn.toNat
  | .nak code =>
    let m := (m.portCount x.port 11 1).acked s (psnBefore pkt.psn.toNat)
    if code = 0 then m.retry s else m.sessionError s
  | .rnr =>
    let m := (m.portCount x.port 14 1).acked s (psnBefore pkt.psn.toNat)
    m.onSession s (fun y => { y with rnrTries := y.rnrTries + 1 })
  | _ => m

/-! ## A received packet (13 R368, R375, R379) -/

/-- A CE mark makes the module send one CNP per interval (13 R375). -/
def Module.markCe (m : Module) (s : Nat) (x : Session) : Module :=
  if m.cfgB 0x4100 0x10 && x.cnpSent.all (fun t => decide (t + m.cfg 0x4100 0x11 * 1000 ≤ m.clock.now)) then
    (((m.onSession s (fun y => { y with cnpSent := some m.clock.now })).countTx x 0 16).portCount x.port 8 1).emit x.port (some s) true (.cnp s) 56
  else m

/-- Bytes of a priority in a port's receive buffer change: XOFF above 3 MiB, XON below 2 MiB, where PFC is enabled
(13 R368). -/
def Module.bufferLevel (m : Module) (port prio n : Nat) : Module :=
  let m := m.onHostPort port (fun h =>
    { h with prioBytes := mPutZ h.prioBytes prio n 0 })
  let off := (m.hostPort port).xoff.contains prio
  if !(m.cfgI 0x4100 0x0F port).testBit prio then m
  else if 3145728 < n ∧ !off then
    ((m.onHostPort port (fun h => { h with xoff := prio :: h.xoff })).portCount port 6 1).send (.pfc port prio true)
  else if n < 2097152 ∧ off then
    ((m.onHostPort port (fun h => { h with xoff := h.xoff.filter (· != prio) })).portCount port 6 1).send (.pfc port prio false)
  else m

/-- A packet past its port's injectors (13 R371, R375, R379). -/
def Module.takePacket (m : Module) (s : Nat) (pkt : RocePacket) : Module :=
  let p := pkt.port.val
  let prio := m.cfgI 0x4100 0x0D p
  let m := (m.portCount p 1 1).bufferLevel p prio (mGetD (m.hostPort p).prioBytes prio 0 - (pkt.payload.length + 66))
  match m.session s with
  | none => m
  | some x =>
    if x.port ≠ p ∨ x.state ≠ 2 ∨ x.closing then m
    else
      let m := if pkt.ce then m.markCe s x else m
      match m.session s with
      | none => m
      | some x => match pkt.op with
        | .ack | .nak _ | .rnr => m.takeResponse s x pkt
        | _ => m.takeRequest s x pkt

/-- Headers of a packet in bytes, from the first bit of the IP header to its payload (13 R386). -/
def packetHead (v6 : Bool) (pkt : RocePacket) : Nat :=
  (if v6 then 40 else 20) + 20 + (match pkt.op with
    | .write true _ => 16
    | .read => 16
    | .ack | .nak _ | .rnr => 4
    | _ => 0)

/-- A packet arrives through the receive injectors of its port (13 R386, log 32): a flipped header bit loses it. -/
def Module.rxPacket (m : Module) (s : Nat) (pkt : RocePacket) : Module :=
  let p := pkt.port.val
  let r := m.inject false p false (hostEligible true (some s))
  let m := r.1
  let hdr := 8 * packetHead ((m.session s).any (·.v6)) pkt
  let bits := hdr + 8 * pkt.payload.length
  let out := r.2.flips.foldl (fun (o : Option RocePacket) off => match o with
    | none => none
    | some k => if off % bits < hdr then none else some { k with payload := flipBit k.payload (off % bits - hdr) }) (some pkt)
  let m := match r.2.hold with
    | some k => m.onInjector k (fun x => { x with heldRx := some (s, pkt, 0) })
    | none =>
      if r.2.drop then m
      else if r.2.stale then m.portCount p 3 1
      else match out with
        | some k => m.takePacket s k
        | none => m.portCount p 1 1
  r.2.release.foldl (fun (m : Module) k => match (mGetD m.ports.inject k {}).heldRx with
    | some (s', pk, _) => (m.onInjector k (fun x => { x with heldRx := none })).takePacket s' pk
    | none => m) m

/-! ## The end of a session (13 R379, 15 R434) -/

/-- A session that a host or the operator ends: its Store commands end under R434, and it takes no further packets. -/
def Module.endSession (m : Module) (s : Nat) : Module :=
  match m.session s with
  | none => m
  | some x =>
    let m := if x.closing then m else if x.typ = 2 then m.storeReset s else m
    (m.sessionError s).onSession s (fun x => { x with closing := true, unparsed := [] })

/-- The session is CLOSED: its queries not yet admitted are dropped (13 R379). -/
def Module.closeSession (m : Module) (s : Nat) : Module :=
  { m with
    ports := { m.ports with sessions := mDel m.ports.sessions s }
    search := { m.search with
      arrivals := m.search.arrivals.filter (fun a => a.session != s)
      batch := m.search.batch.filter (fun a => a.session != s)
      defaultsDue := m.search.defaultsDue.filter (fun d => d.1 != s) } }

/-- A session number that no session and no completion in flight uses, the lowest (13 R377, R379). -/
def Module.freeSession (m : Module) : Nat :=
  let used (s : Nat) : Bool := mHas m.ports.sessions s || m.search.live.any (fun q => q.role != 2 && q.session == s)
  match (List.range (m.ports.sessions.length + m.search.live.length + 1)).find? (fun s => !used s) with
  | some s => s
  | none => 0

/-! ## Connecting (13 R376, R377, 17 R484) -/

/-- A port's IPv6 link-local address: its MAC address as a modified EUI-64 (17 R484). -/
def Module.linkLocal (m : Module) (p : Nat) : Nat :=
  let mac := nxor (m.boot.macs.getD p 0) (2 ^ 41)
  0xFE80 * 2 ^ 112 + mac / 2 ^ 24 * 2 ^ 40 + 0xFFFE * 2 ^ 24 + mac % 2 ^ 24

/-- An address in the form of Table 16-6 is one of a port's own: configured IPv4 or IPv6, or link-local. No entry
of the dictionary configures an address of the management port. -/
def Module.ownAddress (m : Module) (p a : Nat) : Bool :=
  let v4 := if p < 4 then m.cfgI 0x4100 0x06 p else 0
  let v6 := if p < 4 then beNat (m.cfgBytes 0x4100 0x09 p) else 0
  (v4 != 0 && a == 0xFFFF * 2 ^ 32 + v4) || (v6 != 0 && a == v6) || a == m.linkLocal p

/-- The code of a REJ, 0 to accept (13 R377). -/
def Module.reqCode (m : Module) (port ip : Nat) (b : Bytes) : Nat :=
  let w := leNat b
  let typ := fld w 7 0
  let sb := fld w 191 160
  let slots := fld w 223 192
  let ok := b.length == 56 && fld w 159 8 == 0 && fld w 447 320 == 0 && decide (1 ≤ typ ∧ typ ≤ 3) && decide (1 ≤ slots ∧ slots ≤ 1048576)
    && (if typ = 1 then decide (80 ≤ sb ∧ sb ≤ 16448) && sb % 16 == 0 else sb == 64)
  let open_ (k : Nat) := (m.ports.sessions.filter (fun p => p.2.typ == k)).length
  if !ok then 1
  else if 262144 ≤ m.ports.sessions.length then 2
  else if typ = 2 ∧ 256 ≤ open_ 2 then 3
  else if typ = 3 ∧ 1024 ≤ open_ 3 then 4
  else if m.cfgI 0x4100 0x04 port = 0 ∨ !m.ownAddress port ip then 5
  else 0

end Sys2Proof.Machine
end

