-- ==== Sys2Proof/Machine/PortOps.lean ====
section
/-! DEFINITION. Host ports as Ethernet links (13 R366 to R370): the state of a link, and address changes. -/

namespace Sys2Proof.Machine

/-- The link of a host port or of the management port comes up or goes down, or trains: a change is counted, and logged
for H0 to H3 (13 R366, R370, 18 Table 18-3). -/
def Module.setHostLink (m : Module) (p : Nat) (up training : Bool) : Module :=
  let was := (m.hostPort p).linkUp
  let now := m.clock.now
  let m := m.onHostPort p (fun x => { x with
    linkUp := up, training := training
    downSince := if up then none else if was then some now else x.downSince
    changes := if was = up then x.changes else (x.changes + 1) % 2 ^ 32
    paused := if up then x.paused else [] })
  if was = up ∨ 4 ≤ p then m else m.event 0x0009 1 (put (b2n up) 1 8 + put p 2 0)

/-- PHY_MODE or PORT_ENABLE has been written: the link retrains while the port is enabled (13 R366). -/
def Module.retrain (m : Module) (p : Nat) : Module := m.setHostLink p false (m.cfgI 0x4100 0x04 p != 0)

/-- Sessions of a port and address family enter ERROR: their local address has changed (13 R370). -/
def Module.addressGone (m : Module) (p : Nat) (v6 : Bool) : Module :=
  m.ports.sessions.foldl (fun (m : Module) s => if s.2.port = p ∧ s.2.v6 = v6 then m.sessionError s.1 else m) m

end Sys2Proof.Machine
end

