-- ==== Sys2Proof/Machine/Vilur.lean ====
section
/-! DEFINITION. Meanings of the Vilur family (16 R450 to R471) and of the writes that shape frames and power (02 R42,
R60, 19 R527). -/

namespace Sys2Proof.Machine

/-! ## Datagrams (16 R455 to R457, R465) -/

/-- The expected payload length of a Vilur message (16 R455). -/
def vilurExpected (h : Nat) : Nat := if fld h 7 0 = 1 ∨ fld h 7 0 = 2 then 32 else 32 + fld h 239 224

/-- LENGTH and ARG of a request agree with Table 16-4. -/
def vilurShapeOk (op len arg : Nat) (data : Bytes) : Bool :=
  match op with
  | 0x01 => decide (1 ≤ len ∧ len ≤ 1024)
  | 0x02 => decide (1 ≤ len ∧ len ≤ 1024)
  | 0x03 => arg == 0 && decide (len ≤ 1024)
  | 0x04 => decide (len ≤ 1024)
  | 0x05 => len == 0 && decide (1 ≤ arg ∧ arg ≤ 16384)
  | 0x06 => len == 0 && arg == 0
  | 0x07 => len == 0
  | 0x08 => len == 0 && arg == 0
  | 0x09 => len == 8 && arg == 0 && allZero (sub data 6 2)
  | 0x0A => len == 0 && decide (arg ≤ 3)
  | 0x0B => len == 0 && arg == 0
  | _ => false

/-- A request that R465 calls MALFORMED. -/
def vilurMalformed (h : Nat) (data : Bytes) : Bool :=
  fld h 31 24 != 0 || fld h 15 10 != 0 || fld h 95 88 != 0 || fld h 127 96 != 0 || h.testBit 8
    || !vilurShapeOk (fld h 7 0) (fld h 239 224) (fld h 223 192) data
    || (decide (6 ≤ fld h 7 0) && (fld h 79 64 != 0 || fld h 87 80 != 0))

/-- The request of a header and its data. -/
def vilurRequest (port addr udp h : Nat) (data : Bytes) : VReq :=
  { port := port, addr := addr, udp := udp, opcode := fld h 7 0, snap := h.testBit 9, seq := fld h 63 32, index := fld h 79 64
    sub := fld h 87 80, target := fld h 191 128, arg := fld h 223 192, len := fld h 239 224, data := data }

/-- Answer a request that is not executed, unless its SEQ has a kept reply (16 R458, R465). -/
def Module.answerBad (m : Module) (r : VReq) (st : Nat) : Module :=
  match m.client r with
  | none => m
  | some c => match mGet c.kept r.seq with
    | some bs => m.sendUdp r.port r.addr r.udp bs
    | none => m.refuse r st

/-- A Vilur datagram, past its port: discarded, answered at once, or queued for the supervisor (16 R455 to R457). -/
def Module.takeDatagram (m : Module) (port addr udp : Nat) (bs : Bytes) : Module :=
  let h := leAt bs 0 32
  if bs.length < 32 ∨ fld h 255 240 ≠ 0x4C56 ∨ bs.length ≠ vilurExpected h then m.count 0x1010 0x0D 1
  else
    let r := vilurRequest port addr udp h (bs.drop 32)
    match m.client r with
    | none =>
      if 64 ≤ m.vilur.clients.length then m.replyLoose r 15
      else
        let c : Client := { port := port, addr := addr, udp := udp, lastNs := m.clock.now, lastSfc := m.clock.sfc }
        queue { m with vilur := { m.vilur with clients := m.vilur.clients ++ [c] } } r h
    | some _ => queue (m.onClient r (fun c => { c with lastNs := m.clock.now, lastSfc := m.clock.sfc })) r h
where
  /-- Check the header, and queue the request. -/
  queue (m : Module) (r : VReq) (h : Nat) : Module :=
    if fld h 23 16 ≠ 1 then m.answerBad r 2
    else if vilurMalformed h r.data then m.answerBad r 1
    else if 256 ≤ m.vilur.queue.length then (m.count 0x1010 0x11 1).replyLoose r 16
    else { m with vilur := { m.vilur with queue := m.vilur.queue ++ [r] } }

/-- A datagram that an injector holds: its source before its payload. -/
def heldDatagram (addr udp : Nat) (bs : Bytes) : Bytes := toLe 16 addr ++ toLe 2 udp ++ bs

/-- VILUR_DATAGRAM: through the port's receive injectors (13 R384 to R386, log 32). -/
def vilurDatagram (t port addr udp : Nat) (payload : Bytes) (m : Module) : Module :=
  let m := m.at t
  if 4 ≤ port then m.takeDatagram port addr udp payload
  else if !m.cfgB 0x4100 0x1F then m
  else
    let r := m.inject false port false (hostEligible false none)
    let m := r.1
    let hdr := 8 * ((if addr / 2 ^ 32 = 0xFFFF then 20 else 40) + 8)
    let bits := hdr + 8 * payload.length
    let out := r.2.flips.foldl (fun (o : Option Bytes) off => match o with
      | none => none
      | some b => if off % bits < hdr then none else some (flipBit b (off % bits - hdr))) (some payload)
    let m := match r.2.hold with
      | some k => m.onInjector k (fun x => { x with held := some (heldDatagram addr udp payload, 0) })
      | none =>
        if r.2.drop then m
        else if r.2.stale then m.portCount port 3 1
        else match out with
          | some b => (m.portCount port 1 1).takeDatagram port addr udp b
          | none => m
    r.2.release.foldl (fun (m : Module) k => match (mGetD m.ports.inject k {}).held with
      | some (b, _) => ((m.onInjector k (fun x => { x with held := none })).portCount port 1 1).takeDatagram port (leAt b 0 16) (leAt b 16 2) (b.drop 18)
      | none => m) m

/-- VILUR_DATAGRAM. -/
def execVilurDatagram (t : Nat) (port : Fin 5) (addr udp : Nat) (payload : Bytes) (s : State) : Host.Outcome State Fault Refusal :=
  if (Instr.vilurDatagram t port addr udp payload).wellFormed then .next { s with m := vilurDatagram t port.val addr udp payload s.m }
  else .refused (.illFormed "VILUR_DATAGRAM")

/-! ## Reads (16 R461 to R463) -/

/-- The readable object that a request names, or a status. -/
def readTarget (r : VReq) : Nat × Obj :=
  match findObj r.index r.sub with
  | none => (if objIndices.contains r.index then 4 else 3, obj0 0)
  | some o => (if 3 ≤ o.access then 5 else 0, o)

/-- Bytes of a value that a request asks for. -/
def VReq.page (r : VReq) (v : Bytes) : Bytes := (v.drop r.arg).take r.len

/-- A READ executes (16 R461, R462). -/
def Module.runRead (m : Module) (r : VReq) (c : Client) : Module :=
  if r.snap ∧ 0 < r.arg then m.reply r 0 0 c.snapshot.length (r.page c.snapshot)
  else
    let x := readTarget r
    if x.1 ≠ 0 then m.refuse r x.1
    else
      let v := m.odValue c x.2
      if !r.snap then m.reply r 0 0 v.length (r.page v)
      else if 16384 < v.length then m.refuse r 7
      else (m.onClient r (fun c => { c with snapshot := v })).reply r 0 0 v.length (r.page v)

/-- READ. -/
def read (t : Nat) (m : Module) : Module := m.serve t (fun r _ => r.opcode == 1) Module.runRead
/-- READ. -/
def execRead (t : Nat) (s : State) : Host.Outcome State Fault Refusal := .next { s with m := read t s.m }

/-- A READ_PENDING executes (16 R463). -/
def Module.runReadPending (m : Module) (r : VReq) (c : Client) : Module :=
  let x := readTarget r
  if x.1 ≠ 0 then m.refuse r x.1
  else
    let l := m.pendingOf c x.2
    m.reply r 0 0 l.length (r.page (pendingBytes l))

/-- READ_PENDING. -/
def readPending (t : Nat) (m : Module) : Module := m.serve t (fun r _ => r.opcode == 2) Module.runReadPending
/-- READ_PENDING. -/
def execReadPending (t : Nat) (s : State) : Host.Outcome State Fault Refusal := .next { s with m := readPending t s.m }

/-! ## Writes (16 R450, R459, R464) -/

/-- Objects whose writes have a row of their own, whatever the value. -/
def ownRows : List (Nat × Nat) :=
  [(0x1010, 0x09), (0x1100, 0x01), (0x1100, 0x02), (0x1100, 0x03), (0x1100, 0x05), (0x2000, 0x12), (0x2000, 0x40), (0x2000, 0x43),
   (0x2000, 0x44), (0x2000, 0x48), (0x2000, 0x49), (0x2000, 0x4C), (0x2200, 0x01), (0x2200, 0x02), (0x3100, 0x01), (0x3100, 0x02),
   (0x3100, 0x03), (0x3200, 0x02), (0x3200, 0x03), (0x3200, 0x04), (0x3200, 0x0E), (0x3300, 0x01), (0x3300, 0x03), (0x3300, 0x04),
   (0x3300, 0x05), (0x3300, 0x09), (0x4000, 0x03), (0x4100, 0x1C), (0x4100, 0x1E), (0x4200, 0x11), (0x4300, 0x03), (0x4400, 0x0E),
   (0x5000, 0x04), (0x5000, 0x05), (0x5000, 0x08), (0x5000, 0x0C), (0x5000, 0x0E), (0x5000, 0x10), (0x5100, 0x05), (0x5100, 0x08),
   (0x6000, 0x06), (0x6000, 0x11), (0x6000, 0x16), (0x6100, 0x02), (0x6100, 0x03), (0x6100, 0x04), (0x7000, 0x01)]

/-- A write that a row of its own executes. -/
def VReq.ownRow (r : VReq) (v : Bytes) : Bool :=
  ownRows.contains (r.index, r.sub) || (r.index == 0x2000 && r.sub == 0x47 && v == [0])

/-- What an Immediate value does beside standing (13 R366, R370, 14 R391). -/
def Module.afterWrite (m : Module) (o : Obj) (inst : Nat) (old new : Bytes) : Module :=
  if o.index = 0x4100 ∧ (o.sub = 0x03 ∨ o.sub = 0x04) then m.retrain inst
  else if o.index = 0x4100 ∧ o.sub = 0x06 ∧ old ≠ new then m.addressGone inst false
  else if o.index = 0x4100 ∧ o.sub = 0x09 ∧ old ≠ new then m.addressGone inst true
  else if o.index = 0x4200 ∧ o.sub = 0x08 then
    if new = [0] then (m.linkTo inst 0).onLink inst (fun l => { l with lanes := 0 })
    else if (m.linkPort inst).state = 0 then m.setLink inst 1 else m
  else m

/-- A checked write to an object with no row of its own, by its effect point (16 R464). -/
def Module.runPlain (r : VReq) (c : Client) (m : Module) (o : Obj) (v : Bytes) : Module :=
  let inst := c.inst o
  if o.selector then
    m.untargeted r (fun m => (m.onClient r (fun c => { c with selectors := mPutZ c.selectors (odKey o.index o.sub 0) (leNat v) 0 })).ack r m.clock.sfc)
  else match o.effect with
    | 2 => m.atTick r (fun m n =>
        if o.index = 0x2100 ∧ o.sub ≤ 4 ∧ !m.defaultFits o n v then m.refuse r 8 else m.placeValue r o inst n v)
    | 4 => m.withLead r r.target (fun m n =>
        if o.index ≠ 0x2200 ∧ !(m.place { key := odKey o.index o.sub inst, value := v, target := n, host := true }).grantsOk n then m.refuse r 47
        else m.placeValue r o inst n v)
    | 6 => m.untargeted r (fun m => (m.durable o inst v).ack r 0)
    | _ => m.untargeted r (fun m =>
        let old := m.cfgBytes o.index o.sub inst
        ((m.setNow o inst v).afterWrite o inst old v).ack r m.clock.sfc)

/-- A WRITE or WRITE_STAGED to an object with no row of its own executes. -/
def Module.runWrite (m : Module) (r : VReq) (c : Client) : Module := m.checked r c (Module.runPlain r c)

/-- WRITE_OD. -/
def writeOd (t : Nat) (m : Module) : Module := m.serve t (fun r v => r.opcode == 3 && !r.ownRow v) Module.runWrite
/-- WRITE_OD. -/
def execWriteOd (t : Nat) (s : State) : Host.Outcome State Fault Refusal := .next { s with m := writeOd t s.m }

/-- A STAGE executes (16 R459). -/
def Module.runStage (m : Module) (r : VReq) (_ : Client) : Module :=
  if 16384 < r.arg + r.data.length then m.refuse r 7
  else (m.onClient r (fun c => { c with staging := splice c.staging r.arg r.data })).reply r 0 0 0 []

/-- STAGE. -/
def stage (t : Nat) (m : Module) : Module := m.serve t (fun r _ => r.opcode == 4) Module.runStage
/-- STAGE. -/
def execStage (t : Nat) (s : State) : Host.Outcome State Fault Refusal := .next { s with m := stage t s.m }

/-- WRITE_STAGED. -/
def writeStaged (t : Nat) (m : Module) : Module := m.serve t (fun r v => r.opcode == 5 && !r.ownRow v) Module.runWrite
/-- WRITE_STAGED. -/
def execWriteStaged (t : Nat) (s : State) : Host.Outcome State Fault Refusal := .next { s with m := writeStaged t s.m }

/-! ## Unlocking (16 R466 to R468) -/

/-- A CHALLENGE executes: a fresh nonce (16 R466). -/
def Module.runChallenge (m : Module) (r : VReq) (_ : Client) : Module :=
  let nonce := m.freeBits 128
  (m.drawn.onClient r (fun c => { c with nonce := some (nonce, m.clock.now) })).reply r 0 0 0 (toLe 16 nonce ++ toLe 8 m.boot.serial)

/-- CHALLENGE. -/
def challenge (t : Nat) (m : Module) : Module := m.serve t (fun r _ => r.opcode == 6) Module.runChallenge
/-- CHALLENGE. -/
def execChallenge (t : Nat) (s : State) : Host.Outcome State Fault Refusal := .next { s with m := challenge t s.m }

/-- The number of the first check of R468 that a token fails, 0 for none. -/
def Module.tokenCheck (m : Module) (r : VReq) (c : Client) : Nat :=
  let b := fit c.staging 3373
  let nonceOk := match c.nonce with
    | some (v, at_) => v == leAt b 48 16 && decide (m.clock.now ≤ at_ + 300000000000)
    | none => false
  if m.boot.ownerKey.isEmpty then 1
  else if leAt b 0 8 ≠ m.ownerKeyId then 2
  else if leAt b 8 8 ≠ m.boot.serial then 3
  else if !nonceOk then 4
  else if beNat (sub b 32 16) ≠ c.addr ∨ leAt b 30 2 ≠ c.udp then 5
  else if leAt b 29 1 ≠ 2 ∨ leAt b 24 5 ≠ 0 then 6
  else if leAt b 16 8 ≤ m.clock.now then 7
  else if !Config.mldsaVerify m.boot.ownerKey (b.take 64) (ascii "VILUR-UNLOCK") (b.drop 64) then 8
  else if r.arg ≠ 3373 then 9
  else 0

/-- An UNLOCK executes (16 R468). -/
def Module.runUnlock (m : Module) (r : VReq) (c : Client) : Module :=
  let n := m.tokenCheck r c
  let m := m.onClient r (fun c => { c with nonce := none })
  if n ≠ 0 then ((m.count 0x1010 0x0F 1).event 0x000D 1 n).reply r 17 0 n []
  else
    let end_ := min (leAt c.staging 16 8) (m.clock.now + m.cfg 0x1010 0x08 * 1000000000)
    ((m.count 0x1010 0x0E 1).onClient r (fun c => { c with unlockEnd := some end_ })).reply r 0 0 0 (toLe 8 end_)

/-- UNLOCK. -/
def unlock (t : Nat) (m : Module) : Module := m.serve t (fun r _ => r.opcode == 7) Module.runUnlock
/-- UNLOCK. -/
def execUnlock (t : Nat) (s : State) : Host.Outcome State Fault Refusal := .next { s with m := unlock t s.m }

/-- A LOCK executes (16 R468). -/
def Module.runLock (m : Module) (r : VReq) (_ : Client) : Module :=
  (m.onClient r (fun c => { c with unlockEnd := none })).reply r 0 0 0 []

/-- LOCK. -/
def lock (t : Nat) (m : Module) : Module := m.serve t (fun r _ => r.opcode == 8) Module.runLock
/-- LOCK. -/
def execLock (t : Nat) (s : State) : Host.Outcome State Fault Refusal := .next { s with m := lock t s.m }

/-- A write of LOCK_ALL executes (16 R468). -/
def Module.runLockAll (m : Module) (r : VReq) (c : Client) : Module :=
  m.checked r c (fun m _ v => m.untargeted r (fun m =>
    (if v = [1] then { m with vilur := { m.vilur with clients := m.vilur.clients.map (fun c => { c with unlockEnd := none }) } } else m).ack r m.clock.sfc))

/-- LOCK_ALL. -/
def lockAll (t : Nat) (m : Module) : Module := m.serve t (fun r _ => r.writes 0x1010 0x09) Module.runLockAll
/-- LOCK_ALL. -/
def execLockAll (t : Nat) (s : State) : Host.Outcome State Fault Refusal := .next { s with m := lockAll t s.m }

/-- MAINTAIN_EXPIRY: unlocks whose end has come are over (16 R468). -/
def maintainExpiry (t : Nat) (m : Module) : Module :=
  let m := m.at t
  { m with vilur := { m.vilur with clients := m.vilur.clients.map (fun c =>
      if c.unlockEnd.any (fun e => decide (e ≤ m.clock.now)) then { c with unlockEnd := none } else c) } }
/-- MAINTAIN_EXPIRY. -/
def execMaintainExpiry (t : Nat) (s : State) : Host.Outcome State Fault Refusal := .next { s with m := maintainExpiry t s.m }

/-- CLIENT_IDLE: clients that have been silent for CLIENT_IDLE_S are deleted with all they hold (16 R456). -/
def clientIdle (t : Nat) (m : Module) : Module :=
  let m := m.at t
  { m with vilur := { m.vilur with clients := m.vilur.clients.filter (fun c =>
      decide (m.clock.now < c.lastNs + m.cfg 0x1010 0x04 * 1000000000)) } }
/-- CLIENT_IDLE. -/
def execClientIdle (t : Nat) (s : State) : Host.Outcome State Fault Refusal := .next { s with m := clientIdle t s.m }

/-! ## Subscriptions (16 R469 to R471) -/

/-- A SUBSCRIBE executes: the lowest free number, or SUBSCRIPTIONS_FULL (16 R469, R470). -/
def Module.runSubscribe (m : Module) (r : VReq) (c : Client) : Module :=
  match (List.range 4).find? (fun i => !c.subs.any (fun s => s.num == i)) with
  | none => m.refuse r 18
  | some i =>
    let s : Sub := { num := i, source := leAt r.data 0 2, codeMin := leAt r.data 2 2, codeMax := leAt r.data 4 2 }
    (m.onClient r (fun c => { c with subs := insertBy (fun a b => decide (a.num ≤ b.num)) s c.subs })).reply r 0 0 i []

/-- SUBSCRIBE. -/
def subscribe (t : Nat) (m : Module) : Module := m.serve t (fun r _ => r.opcode == 9) Module.runSubscribe
/-- SUBSCRIBE. -/
def execSubscribe (t : Nat) (s : State) : Host.Outcome State Fault Refusal := .next { s with m := subscribe t s.m }

/-- An UNSUBSCRIBE executes (16 R469). -/
def Module.runUnsubscribe (m : Module) (r : VReq) (_ : Client) : Module :=
  (m.onClient r (fun c => { c with subs := c.subs.filter (fun s => s.num != r.arg) })).reply r 0 0 0 []

/-- UNSUBSCRIBE. -/
def unsubscribe (t : Nat) (m : Module) : Module := m.serve t (fun r _ => r.opcode == 10) Module.runUnsubscribe
/-- UNSUBSCRIBE. -/
def execUnsubscribe (t : Nat) (s : State) : Host.Outcome State Fault Refusal := .next { s with m := unsubscribe t s.m }

/-- A PING executes (16 Table 16-4). -/
def Module.runPing (m : Module) (r : VReq) (c : Client) : Module :=
  m.reply r 0 0 0 (toLe 8 m.clock.sfc ++ toLe 8 m.clock.now ++ toLe 1 (m.levelOf c) ++ zeros 7)

/-- PING. -/
def ping (t : Nat) (m : Module) : Module := m.serve t (fun r _ => r.opcode == 11) Module.runPing
/-- PING. -/
def execPing (t : Nat) (s : State) : Host.Outcome State Fault Refusal := .next { s with m := ping t s.m }

/-- The bytes of a NOTIFY (16 Tables 16-3 and 16-4). -/
def notifyBytes (s : Sub) (recs : List EventRec) : Bytes :=
  toLe 32 (put 0x40 8 0 + put 1 1 8 + put 1 8 16 + put s.seq 32 32 + put s.lost 32 96 + put s.num 32 192 + put (32 * recs.length) 16 224
    + put 0x4C56 16 240) ++ recs.flatMap EventRec.bytes

/-- NOTIFY: records of more than 1 s ago are dropped, and one datagram of at most 32 records goes to the client unless
1,000 have gone to it within the last second (16 R471). -/
def notify (t client sub : Nat) (m : Module) : Module :=
  let m := m.at t
  match m.vilur.clients[client]? with
  | none => m
  | some c => match c.subs.find? (fun s => s.num == sub) with
    | none => m
    | some s =>
      let now := m.clock.now
      let keep := s.queue.filter (fun e => decide (now ≤ e.time + 1000000000))
      let gone := s.queue.length - keep.length
      let s := { s with queue := keep, lost := (s.lost + gone) % 2 ^ 32 }
      let sent := c.sent.filter (fun x => decide (now < x + 1000000000))
      let go := !keep.isEmpty && decide (sent.length < 1000)
      let bs := notifyBytes s (keep.take 32)
      let s' := if go then { s with queue := keep.drop 32, seq := (s.seq + 1) % 2 ^ 32, lost := 0 } else s
      let c' := { c with sent := if go then sent ++ [now] else sent, subs := c.subs.map (fun x => if x.num = sub then s' else x) }
      let m := { m with vilur := { m.vilur with clients := m.vilur.clients.set client c' } }
      let m := if gone = 0 then m else m.count 0x1010 0x10 gone
      if go then m.sendUdp c.port c.addr c.udp bs else m
/-- NOTIFY. -/
def execNotify (t client : Nat) (sub : Fin 4) (s : State) : Host.Outcome State Fault Refusal := .next { s with m := notify t client sub.val s.m }

/-! ## Frame-shape and power-cap writes -/

/-- A write of TICK_PERIOD_NS, PIPELINE_DEPTH or EPOCH_NS executes (02 R42 to R44). -/
def Module.runShape (m : Module) (r : VReq) (c : Client) : Module :=
  m.checked r c (fun m o v =>
    let x := leNat v
    let d (n : Nat) : Nat := if o.sub = 2 then x else m.depthAt n
    let n := if r.target = 0 then m.leadFrame else r.target
    if o.sub = 3 ∧ m.timeOf n < x then m.refuse r 8
    else m.shapeLead r d (fun m n => m.placeShape r { kind := 2, key := odKey o.index o.sub 0, value := v, target := n }))

/-- TICK_PERIOD_WRITE. -/
def tickPeriodWrite (t : Nat) (m : Module) : Module :=
  m.serve t (fun r _ => r.writes 0x1100 0x01 || r.writes 0x1100 0x02 || r.writes 0x1100 0x03) Module.runShape
/-- TICK_PERIOD_WRITE. -/
def execTickPeriodWrite (t : Nat) (s : State) : Host.Outcome State Fault Refusal := .next { s with m := tickPeriodWrite t s.m }

/-- A write of PROFILE executes (02 R60). -/
def Module.runProfile (m : Module) (r : VReq) (c : Client) : Module :=
  m.checked r c (fun m o v =>
    m.shapeLead r (fun n => profileDepth (leNat v) (m.depthAt n)) (fun m n =>
      m.placeShape r { kind := 3, key := odKey o.index o.sub 0, value := v, target := n }))

/-- PROFILE_WRITE. -/
def profileWrite (t : Nat) (m : Module) : Module := m.serve t (fun r _ => r.writes 0x1100 0x05) Module.runProfile
/-- PROFILE_WRITE. -/
def execProfileWrite (t : Nat) (s : State) : Host.Outcome State Fault Refusal := .next { s with m := profileWrite t s.m }

/-- A write of POWER_CAP executes: a KIND 1 action, or CAP_ABOVE_LIMIT (19 R527). -/
def Module.runPowerCap (m : Module) (r : VReq) (c : Client) : Module :=
  m.checked r c (fun m o v => m.withLead r r.target (fun m n =>
    if m.power.capLimit < leNat v then m.refuse r 96
    else m.placeAt r { kind := 1, key := odKey o.index o.sub 0, value := v, target := n } []))

/-- POWER_CAP_WRITE. -/
def powerCapWrite (t : Nat) (m : Module) : Module := m.serve t (fun r _ => r.writes 0x7000 0x01) Module.runPowerCap
/-- POWER_CAP_WRITE. -/
def execPowerCapWrite (t : Nat) (s : State) : Host.Outcome State Fault Refusal := .next { s with m := powerCapWrite t s.m }

end Sys2Proof.Machine
end

