-- ==== Sys2Proof/Machine/Cells.lean ====
section
/-! DEFINITION. Meanings of the cascade rows (14, 02 R58, R59, 18 R500): arriving cells, lanes and links, timeouts, the
shard map, and the release of what injectors hold. -/

namespace Sys2Proof.Machine

/-! ## Arriving cells -/

/-- BEACON. A BEACON cell is compared, taken as Sync and passed on (02 R58, R59, 14 R402). -/
def execBeacon (port : Fin 12) (t : Nat) (cell : Bytes) (s : State) : Host.Outcome State Fault Refusal :=
  if (Instr.beacon port t cell).wellFormed then .next { s with m := (s.m.at t).rxCell port.val cell } else .refused (.illFormed "BEACON")

/-- TOKEN. A TOKEN cell arrives at a ring member (11 R322). -/
def execToken (port : Fin 12) (t : Nat) (cell : Bytes) (s : State) : Host.Outcome State Fault Refusal :=
  if (Instr.tokenCell port t cell).wellFormed then .next { s with m := (s.m.at t).rxCell port.val cell } else .refused (.illFormed "TOKEN")

/-- RING. A RING cell of combine lines or factor values arrives (11 R320, R321). -/
def execRing (port : Fin 12) (t : Nat) (cell : Bytes) (s : State) : Host.Outcome State Fault Refusal :=
  if (Instr.ring port t cell).wellFormed then .next { s with m := (s.m.at t).rxCell port.val cell } else .refused (.illFormed "RING")

/-- ABORT. An ABORT cell arrives (14 R416). -/
def execAbort (port : Fin 12) (t : Nat) (cell : Bytes) (s : State) : Host.Outcome State Fault Refusal :=
  if (Instr.abort port t cell).wellFormed then .next { s with m := (s.m.at t).rxCell port.val cell } else .refused (.illFormed "ABORT")

/-- BATCH_OPEN. A BATCH_OPEN cell arrives (14 R406). -/
def execBatchOpen (port : Fin 12) (t : Nat) (cell : Bytes) (s : State) : Host.Outcome State Fault Refusal :=
  if (Instr.batchOpen port t cell).wellFormed then .next { s with m := (s.m.at t).rxCell port.val cell } else .refused (.illFormed "BATCH_OPEN")

/-- QUERY_RECORD. A QUERY cell arrives (14 R407). -/
def execQueryRecord (port : Fin 12) (t : Nat) (cell : Bytes) (s : State) : Host.Outcome State Fault Refusal :=
  if (Instr.queryRecord port t cell).wellFormed then .next { s with m := (s.m.at t).rxCell port.val cell } else .refused (.illFormed "QUERY_RECORD")

/-- BATCH_END. A BATCH_END cell arrives (14 R408). -/
def execBatchEnd (port : Fin 12) (t : Nat) (cell : Bytes) (s : State) : Host.Outcome State Fault Refusal :=
  if (Instr.batchEnd port t cell).wellFormed then .next { s with m := (s.m.at t).rxCell port.val cell } else .refused (.illFormed "BATCH_END")

/-- TOWER_OUT. A TOWER_OUT cell arrives (14 R412). -/
def execTowerOut (port : Fin 12) (t : Nat) (cell : Bytes) (s : State) : Host.Outcome State Fault Refusal :=
  if (Instr.towerOut port t cell).wellFormed then .next { s with m := (s.m.at t).rxCell port.val cell } else .refused (.illFormed "TOWER_OUT")

/-- ANSWER. An ANSWER cell arrives (05 R156, 14 R411). -/
def execAnswer (port : Fin 12) (t : Nat) (cell : Bytes) (s : State) : Host.Outcome State Fault Refusal :=
  if (Instr.answer port t cell).wellFormed then .next { s with m := (s.m.at t).rxCell port.val cell } else .refused (.illFormed "ANSWER")

/-- SCHED. A SCHED cell arrives (14 R417). -/
def execSched (port : Fin 12) (t : Nat) (cell : Bytes) (s : State) : Host.Outcome State Fault Refusal :=
  if (Instr.sched port t cell).wellFormed then .next { s with m := (s.m.at t).rxCell port.val cell } else .refused (.illFormed "SCHED")

/-- DONE. A DONE cell arrives (14 R409, R415, R417). -/
def execDone (port : Fin 12) (t : Nat) (cell : Bytes) (s : State) : Host.Outcome State Fault Refusal :=
  if (Instr.doneCell port t cell).wellFormed then .next { s with m := (s.m.at t).rxCell port.val cell } else .refused (.illFormed "DONE")

/-- STATE. A STATE cell arrives (14 R395, R396). -/
def execState (port : Fin 12) (t : Nat) (cell : Bytes) (s : State) : Host.Outcome State Fault Refusal :=
  if (Instr.stateCell port t cell).wellFormed then .next { s with m := (s.m.at t).rxCell port.val cell } else .refused (.illFormed "STATE")

/-- LINK. A LINK cell arrives (14 R391, R393, R394). -/
def execLink (port : Fin 12) (t : Nat) (cell : Bytes) (s : State) : Host.Outcome State Fault Refusal :=
  if (Instr.link port t cell).wellFormed then .next { s with m := (s.m.at t).rxCell port.val cell } else .refused (.illFormed "LINK")

/-- DELAY. A DELAY cell arrives (14 R401). -/
def execDelay (port : Fin 12) (t : Nat) (cell : Bytes) (s : State) : Host.Outcome State Fault Refusal :=
  if (Instr.delay port t cell).wellFormed then .next { s with m := (s.m.at t).rxCell port.val cell } else .refused (.illFormed "DELAY")

/-- READ_REQ. A READ_REQ cell arrives (14 R414). -/
def execReadReq (port : Fin 12) (t : Nat) (cell : Bytes) (s : State) : Host.Outcome State Fault Refusal :=
  if (Instr.readReq port t cell).wellFormed then .next { s with m := (s.m.at t).rxCell port.val cell } else .refused (.illFormed "READ_REQ")

/-- READ_DATA. A READ_DATA cell arrives (14 R415). -/
def execReadData (port : Fin 12) (t : Nat) (cell : Bytes) (s : State) : Host.Outcome State Fault Refusal :=
  if (Instr.readData port t cell).wellFormed then .next { s with m := (s.m.at t).rxCell port.val cell } else .refused (.illFormed "READ_DATA")

/-- WRITE. A WRITE cell arrives (14 R414). -/
def execWrite (port : Fin 12) (t : Nat) (cell : Bytes) (s : State) : Host.Outcome State Fault Refusal :=
  if (Instr.writeCell port t cell).wellFormed then .next { s with m := (s.m.at t).rxCell port.val cell } else .refused (.illFormed "WRITE")

/-- ACC. An ACC cell arrives (14 R414, R416). -/
def execAcc (port : Fin 12) (t : Nat) (cell : Bytes) (s : State) : Host.Outcome State Fault Refusal :=
  if (Instr.acc port t cell).wellFormed then .next { s with m := (s.m.at t).rxCell port.val cell } else .refused (.illFormed "ACC")

/-- REMOTE_SIGNAL. A SIGNAL cell arrives (14 R414). -/
def execRemoteSignal (port : Fin 12) (t : Nat) (cell : Bytes) (s : State) : Host.Outcome State Fault Refusal :=
  if (Instr.remoteSignal port t cell).wellFormed then .next { s with m := (s.m.at t).rxCell port.val cell } else .refused (.illFormed "REMOTE_SIGNAL")

/-- LOOKUP. A LOOKUP cell arrives (10 R290, R291). -/
def execLookup (port : Fin 12) (t : Nat) (cell : Bytes) (s : State) : Host.Outcome State Fault Refusal :=
  if (Instr.lookup port t cell).wellFormed then .next { s with m := (s.m.at t).rxCell port.val cell } else .refused (.illFormed "LOOKUP")

/-- RESERVED_TYPE_CELL. A cell of a reserved TYPE is acknowledged, dropped and counted (14 R394, Table 14-3). -/
def execReservedTypeCell (port : Fin 12) (t : Nat) (cell : Bytes) (s : State) : Host.Outcome State Fault Refusal :=
  if (Instr.reservedTypeCell port t cell).wellFormed then .next { s with m := (s.m.at t).rxCell port.val cell } else .refused (.illFormed "RESERVED_TYPE_CELL")

/-- IDLE. An IDLE cell arrives with the other end's ACK (14 R393). -/
def execIdle (port : Fin 12) (t : Nat) (cell : Bytes) (s : State) : Host.Outcome State Fault Refusal :=
  if (Instr.idle port t cell).wellFormed then .next { s with m := (s.m.at t).rxCell port.val cell } else .refused (.illFormed "IDLE")

/-- CELL_CRC_FAIL (14 R392). -/
def cellCrcFail (p t lane : Nat) (m : Module) : Module := (m.at t).cellBad p lane
/-- CELL_CRC_FAIL. -/
def execCellCrcFail (port : Fin 12) (t : Nat) (lane : Fin 4) (s : State) : Host.Outcome State Fault Refusal :=
  .next { s with m := cellCrcFail port.val t lane.val s.m }

/-! ## Beacons, states, delays -/

/-- BEACON_MISSING: no beacon for 8 consecutive ticks (02 R59). -/
def beaconMissing (t : Nat) (m : Module) : Module :=
  let m := m.at t
  if m.device = 0 ∨ !m.inCascadeConfig ∨ m.clock.beaconMiss < 8 then m
  else ({ m with clock := { m.clock with beaconMiss := 0 } }).beaconLost m.clock.next
/-- BEACON_MISSING. -/
def execBeaconMissing (t : Nat) (s : State) : Host.Outcome State Fault Refusal := .next { s with m := beaconMissing t s.m }

/-- STATE_ORIGINATE: at least once every second (14 R396). -/
def stateOriginate (t : Nat) (m : Module) : Module :=
  let m := m.at t
  if m.cascade.stateSent + 1000000000 ≤ m.clock.now then m.originate else m
/-- STATE_ORIGINATE. -/
def execStateOriginate (t : Nat) (s : State) : Host.Outcome State Fault Refusal := .next { s with m := stateOriginate t s.m }

/-- DELAY_INTERVAL (14 R401). -/
def delayInterval (t : Nat) (m : Module) : Module := (m.at t).startDelays
/-- DELAY_INTERVAL. -/
def execDelayInterval (t : Nat) (s : State) : Host.Outcome State Fault Refusal := .next { s with m := delayInterval t s.m }

/-! ## Timeouts -/

/-- REMOTE_TIMEOUT (14 R415). -/
def remoteTimeout (t : Nat) (m : Module) : Module := (m.at t).opTimeouts
/-- REMOTE_TIMEOUT. -/
def execRemoteTimeout (t : Nat) (s : State) : Host.Outcome State Fault Refusal := .next { s with m := remoteTimeout t s.m }

/-- SCHED_TIMEOUT (14 R417). -/
def schedTimeout (t : Nat) (m : Module) : Module := (m.at t).schedTimeouts
/-- SCHED_TIMEOUT. -/
def execSchedTimeout (t : Nat) (s : State) : Host.Outcome State Fault Refusal := .next { s with m := schedTimeout t s.m }

/-- GAP_NAK: a gap has persisted for 500 ns (14 R393). -/
def gapNak (p t : Nat) (m : Module) : Module :=
  let m := m.at t
  if (m.linkPort p).gapSince.any (fun g => decide (g + 500 ≤ m.clock.now)) then
    (m.sendNaks p).onLink p (fun l => { l with gapSince := some m.clock.now })
  else m
/-- GAP_NAK. -/
def execGapNak (port : Fin 12) (t : Nat) (s : State) : Host.Outcome State Fault Refusal := .next { s with m := gapNak port.val t s.m }

/-- REPLAY_TIMEOUT (14 R393). -/
def replayTimeout (p t : Nat) (m : Module) : Module := (m.at t).replayDue p
/-- REPLAY_TIMEOUT. -/
def execReplayTimeout (port : Fin 12) (t : Nat) (s : State) : Host.Outcome State Fault Refusal :=
  .next { s with m := replayTimeout port.val t s.m }

/-! ## Lanes and links -/

/-- LANE_LOCK: a lane of an enabled port locks; a training link enters HELLO and sends its LINK cell (14 R391). -/
def laneLock (p t lane : Nat) (m : Module) : Module :=
  let m := m.at t
  let l := m.linkPort p
  let dead := l.failedLanes.testBit lane && !m.cascade.spareLanes.any (fun e => e.2 == 4 * p + lane)
  if l.state = 0 ∨ l.state = 5 ∨ dead then m
  else
    let m := m.onLink p (fun l => { l with lanes := setBit l.lanes lane true })
    if l.state = 1 then (m.linkTo p 2).sendLink p [] 0 else m
/-- LANE_LOCK. -/
def execLaneLock (port : Fin 12) (t : Nat) (lane : Fin 4) (s : State) : Host.Outcome State Fault Refusal :=
  .next { s with m := laneLock port.val t lane.val s.m }

/-- LANE_LOSS: the lane leaves service at once, and its cut-over is planned; with the last lane the link is FAILED
(14 R391, 18 R500). -/
def laneLoss (p t lane : Nat) (m : Module) : Module :=
  let m := m.at t
  if !(m.linkPort p).lanes.testBit lane then m
  else
    let m := (m.onLink p (fun l => { l with lanes := setBit l.lanes lane false })).planLane p lane true
    if (m.linkPort p).lanes = 0 then m.linkTo p 5 else m
/-- LANE_LOSS. -/
def execLaneLoss (port : Fin 12) (t : Nat) (lane : Fin 4) (s : State) : Host.Outcome State Fault Refusal :=
  .next { s with m := laneLoss port.val t lane.val s.m }

/-- LINK_RETRY: an enabled port that is DOWN, or a FAILED one, trains again after 1 s (14 R391). -/
def linkRetry (p t : Nat) (m : Module) : Module :=
  let m := m.at t
  let l := m.linkPort p
  if m.cfgI 0x4200 0x08 p ≠ 0 ∧ (l.state = 0 ∨ l.state = 5) ∧ l.since + 1000000000 ≤ m.clock.now then
    (m.linkTo p 1).onLink p (fun l => { l with lanes := 0 })
  else m
/-- LINK_RETRY. -/
def execLinkRetry (port : Fin 12) (t : Nat) (s : State) : Host.Outcome State Fault Refusal :=
  .next { s with m := linkRetry port.val t s.m }

/-- LANE_CRC_CHECK: lanes above LANE_CRC_LIMIT in the second that ends are planned to be cut over (18 R500). -/
def laneCrcCheck (t : Nat) (m : Module) : Module :=
  (List.range 12).foldl (fun (m : Module) p =>
    let bad := (m.linkPort p).laneCrc.filter (fun e => decide (m.cfg 0x6000 0x0E < e.2))
    (bad.foldl (fun (m : Module) e => m.planLane p e.1 true) m).onLink p (fun l => { l with laneCrc := [] })) (m.at t)
/-- LANE_CRC_CHECK. -/
def execLaneCrcCheck (t : Nat) (s : State) : Host.Outcome State Fault Refusal := .next { s with m := laneCrcCheck t s.m }

/-! ## The shard map, and held units -/

/-- SHARD_MAP: an at-tick value of the selected map (14 R403). -/
def shardMap (t : Nat) (m : Module) : Module := m.serve t (fun r _ => r.writes 0x4200 0x11) Module.runWrite
/-- SHARD_MAP. -/
def execShardMap (t : Nat) (s : State) : Host.Outcome State Fault Refusal := .next { s with m := shardMap t s.m }

/-- REORDER_HOLD_EXPIRY: an injector releases what it holds: a received cell or packet goes on, a cell or message to be
sent leaves (13 R386, 14 R418). -/
def reorderHoldExpiry (t k : Nat) (m : Module) : Module :=
  let m := m.at t
  let x := mGetD m.ports.inject k {}
  let m := m.onInjector k (fun x => { x with held := none, heldRx := none, heldTx := none })
  let m := match x.held with
    | none => m
    | some h =>
      let p := (k - 64) / 4
      if (m.injRecord true p (k % 4)).testBit 7 then m.send (.cell p h.1) else m.rxWire p h.1
  let m := match x.heldRx with
    | none => m
    | some h => m.takePacket h.1 h.2.1
  match x.heldTx with
  | none => m
  | some h => m.send h.1
/-- REORDER_HOLD_EXPIRY. -/
def execReorderHoldExpiry (t : Nat) (injector : Nat) (s : State) : Host.Outcome State Fault Refusal :=
  .next { s with m := reorderHoldExpiry t injector s.m }

end Sys2Proof.Machine
end

