-- ==== Sys2Proof/Machine/Streams.lean ====
section
/-! DEFINITION. Transfer and control commands of tile streams (08 R231 to R238), REDUCE (11 R317), POOL (10 R300), event
counters (08 R239) and stalled contexts (08 R255). -/

namespace Sys2Proof.Machine

/-! ## MOVE (08 R231) -/

/-- BYTES of a MOVE. -/
def moveBytes (w : Nat) : Nat := fld w 246 224
/-- Source address of a MOVE. -/
def Ctx.moveSrc (c : Ctx) (w : Nat) : Nat := c.addr (fld w 127 64)
/-- Destination address of a MOVE. -/
def Ctx.moveDst (c : Ctx) (w : Nat) : Nat := c.addr (fld w 191 128)

/-- Faults of a MOVE. -/
def Module.moveCheck (m : Module) (s : StreamSet) (t k w : Nat) : Nat :=
  let c := m.ctx t k
  let n := moveBytes w
  let a := m.locateN (c.moveSrc w) n
  let b := m.locateN (c.moveDst w) n
  firstFault [
    ((!m.inOwnSlice t k a n && !m.inOwnSlice t k b n) || !m.mayRead s a n || !m.mayWrite s b n, 3),
    (c.moveSrc w % 16 != 0 || c.moveDst w % 16 != 0 || n % 16 != 0, 4),
    (decide (n < 16) || decide (6291456 < n), 10)]

/-- Put bytes that a read delivered at a place; poisoned data leaves it unspecified (08 R259, 12 Table 12-6). -/
def Module.land (m : Module) (l : Loc) (bs : Bytes) (poisoned : Bool) : Module :=
  if poisoned then
    let r := m.freeBytes bs.length
    r.1.writeLoc l r.2
  else m.writeLoc l bs

/-- The effect of a MOVE. -/
def Module.moveRun (waits : Nat) (m : Module) (_ : StreamSet) (t k w : Nat) : CmdRun :=
  let c := m.ctx t k
  let n := moveBytes w
  let a := m.locateN (c.moveSrc w) n
  let b := m.locateN (c.moveDst w) n
  let clocks := 8 + ceilDiv n 256 + waits
  match a, b with
  | .remote d x, .slice _ o =>
    let r := m.remoteRead t k c.setId d x n o
    { m := r.1, clocks := clocks, fault := if r.2 then 0 else 14 }
  | a, .remote d y =>
    let r := m.remoteWrite t k c.setId d y (m.readLoc a n).1
    { m := r.1, clocks := clocks, fault := if r.2 then 0 else 14 }
  | a, b =>
    let r := m.readLoc a n
    { m := (m.countPoison a n).land b r.1 r.2, clocks := clocks, bytes := a.lpBytes n + b.lpBytes n, fault := if r.2 then 15 else 0 }

/-! ## GATHER and SCATTER_ACC (08 R232, R233) -/

/-- COUNT. -/
def gatCount (w : Nat) : Nat := fld w 189 170
/-- ROW_BYTES. -/
def gatRow (w : Nat) : Nat := fld w 211 192
/-- ROW_STRIDE. -/
def gatStride (w : Nat) : Nat := fld w 243 212
/-- Slice byte of DST_SOFF or SRC_SOFF. -/
def Ctx.gatSlice (c : Ctx) (w : Nat) : Nat := c.at (fld w 169 149)

/-- The indices of a GATHER or SCATTER_ACC; DENSE takes i itself. -/
def Module.gatIndices (m : Module) (t k w : Nat) : List Nat :=
  if w.testBit 190 then List.range (gatCount w)
  else (List.range (gatCount w)).map (fun i => leNat (m.sliceRead t ((m.ctx t k).at (fld w 148 128) + 8 * i) 8))

/-- The address of a row by its index. -/
def Ctx.gatAddr (c : Ctx) (w x : Nat) : Nat := (c.addr (fld w 127 64) + x * gatStride w) % 2 ^ 64

/-- An index of a GATHER is invalid under LIMIT_BASE (08 R233). -/
def Ctx.gatInvalid (c : Ctx) (w x : Nat) : Bool :=
  let l := fld w 247 244
  l != 0 && (x == nullIndex || decide (mGetD c.regs l 0 ≤ x))

/-- Alignment and range of both commands. -/
def Ctx.gatShape (c : Ctx) (w : Nat) (needIdx : Bool) : List (Bool × Nat) :=
  [(!c.holds (fld w 169 149) (gatCount w * gatRow w) || (needIdx && !c.holds (fld w 148 128) (8 * gatCount w)), 3),
   (gatRow w % 16 != 0 || gatStride w % 16 != 0 || (needIdx && 4 * fld w 148 128 % 8 != 0), 4),
   (gatCount w == 0 || decide (gatRow w < 16) || decide (1048560 < gatRow w), 10)]

/-- Faults of a GATHER. -/
def Module.gatherCheck (m : Module) (s : StreamSet) (t k w : Nat) : Nat :=
  let c := m.ctx t k
  let shape := firstFault (c.gatShape w true)
  let addr := (m.gatIndices t k w).any (fun x =>
    !c.gatInvalid w x && !m.mayRead s (m.locateN (c.gatAddr w x) (gatRow w)) (gatRow w))
  minFault shape (if addr then 3 else 0)

/-- Clocks of a GATHER or SCATTER_ACC. -/
def gatClocks (w waits : Nat) : Nat := 8 + gatCount w * ceilDiv (gatRow w) 256 + waits

/-- One row of a GATHER. -/
def Module.gatherRow (t k w : Nat) (r : CmdRun) (p : Nat × Nat) : CmdRun :=
  let c := r.m.ctx t k
  let n := gatRow w
  let dst := c.gatSlice w + p.2 * n
  if c.gatInvalid w p.1 then { r with m := (r.m.sliceWrite t dst (zeros n)).count 0x3100 0x0F 1 }
  else match r.m.locateN (c.gatAddr w p.1) n with
    | .remote d a =>
      let x := r.m.remoteRead t k c.setId d a n dst
      { r with m := x.1, fault := if x.2 then r.fault else 14 }
    | l =>
      let b := r.m.readLoc l n
      { r with m := (r.m.countPoison l n).land (.slice t dst) b.1 b.2, bytes := r.bytes + l.lpBytes n, fault := if b.2 then 15 else r.fault }

/-- The effect of a GATHER. -/
def Module.gatherRun (waits : Nat) (m : Module) (_ : StreamSet) (t k w : Nat) : CmdRun :=
  let xs := m.gatIndices t k w
  (xs.zip (List.range xs.length)).foldl (Module.gatherRow t k w) { m := m, clocks := gatClocks w waits }

/-- KIND of a SCATTER_ACC. -/
def scKind (w : Nat) : Nat := fld w 245 244
/-- JOB of a SCATTER_ACC. -/
def scJob (w : Nat) : Nat := fld w 251 246

/-- The SPARSE tensor whose hold area a SCATTER_ACC names (11 R319). -/
def Module.scHold (m : Module) (c : Ctx) (w : Nat) : Option Nat :=
  match m.jobPlace (scJob w) (c.addr (fld w 127 64)) with
  | some (.hold i) => some i
  | _ => none

/-- Faults of a SCATTER_ACC. -/
def Module.scatterCheck (m : Module) (s : StreamSet) (t k w : Nat) : Nat :=
  let c := m.ctx t k
  let j := scJob w
  let xs := m.gatIndices t k w
  let addr := if scKind w = 0 then
      xs.any (fun x => !(match m.locateN (c.gatAddr w x) (gatRow w) with
        | .vat u o => armHasTile s.header u && decide (o + gatRow w ≤ 0x40000)
        | .remote _ _ => true
        | _ => false))
    else match m.scHold c w with
      | some _ => false
      | none => xs.any (fun x => (List.range (gatRow w / 8)).any (fun i =>
          (match m.jobPlace j (c.gatAddr w x + 8 * i) with
            | some (.dense _ _) => false
            | some (.grad _) => false
            | _ => true)))
  let keyed := if scKind w = 1 then (match m.scHold c w with
    | some i => gatStride w != 0 || gatRow w != 8 * m.tableDim (tenTable (jobTensor (m.job j).config i))
    | none => false) else false
  minFault (firstFault (c.gatShape w (!w.testBit 190)))
    (firstFault [(scKind w == 0 && j != 0, 2), (addr, 3), (scKind w == 0 && gatRow w % 40 != 0, 4), (decide (1 < scKind w) || keyed, 10)])

/-- The 8-byte operands of a row in slice. -/
def Module.scVals (m : Module) (t k w i : Nat) : List Nat :=
  (List.range (gatRow w / 8)).map (fun e => leNat (m.sliceRead t ((m.ctx t k).gatSlice w + i * gatRow w + 8 * e) 8))

/-- One row of a SCATTER_ACC of KIND 0 (07 R212). -/
def Module.scatterVat (t k w : Nat) (r : CmdRun) (p : Nat × Nat) : CmdRun :=
  let c := r.m.ctx t k
  let bs := r.m.sliceRead t (c.gatSlice w + p.2 * gatRow w) (gatRow w)
  match r.m.locate (c.gatAddr w p.1) with
  | .remote d a =>
    let x := r.m.remoteVat t k c.setId d a bs
    { r with m := x.1, fault := if x.2 then r.fault else 14 }
  | .vat u o => { r with m := r.m.onTile u (fun x => (List.range (bs.length / 40)).foldl (fun x i => x.vatAdd (o + 40 * i) (sub bs (40 * i) 40)) x) }
  | _ => r

/-- One row of a SCATTER_ACC of KIND 1 (11 R318, R319); 16 bytes of LPDDR5X per element, 64 per key line (12 R360). -/
def Module.scatterJob (t k w : Nat) (r : CmdRun) (p : Nat × Nat) : CmdRun :=
  let c := r.m.ctx t k
  let j := scJob w
  let vs := r.m.scVals t k w p.2
  match r.m.scHold c w with
  | some i =>
    let x := r.m.jobKeyed j i p.1 vs
    { r with m := x.1, bytes := r.bytes + 16 * vs.length + 64 * x.2 }
  | none =>
    { r with
      m := (vs.zip (List.range vs.length)).foldl (fun (m : Module) v =>
        match m.jobPlace j (c.gatAddr w p.1 + 8 * v.2) with
        | some pl => m.jobWrite j pl v.1
        | none => m) r.m
      bytes := r.bytes + 16 * vs.length }

/-- The effect of a SCATTER_ACC. -/
def Module.scatterRun (waits : Nat) (m : Module) (_ : StreamSet) (t k w : Nat) : CmdRun :=
  let xs := m.gatIndices t k w
  (xs.zip (List.range xs.length)).foldl (if scKind w = 0 then Module.scatterVat t k w else Module.scatterJob t k w)
    { m := m, clocks := gatClocks w waits }

/-! ## REDUCE (11 R317) -/

/-- First slot of a REDUCE. -/
def redSlot (w : Nat) : Nat := fld w 69 64
/-- SLOT_COUNT. -/
def redCount (w : Nat) : Nat := fld w 76 70
/-- JOB. -/
def redJob (w : Nat) : Nat := fld w 82 77

/-- Descriptor of the first slot of a REDUCE. -/
def Module.redDesc (m : Module) (t w : Nat) : Nat := mGetD (m.tile t).slots (redSlot w) 0
/-- Elements of a REDUCE. -/
def Module.redElems (m : Module) (t w : Nat) : Nat := redCount w * (slotM (m.redDesc t w) * slotN (m.redDesc t w))

/-- Clocks of a REDUCE. -/
def Module.redClocks (m : Module) (t w : Nat) : Nat := 8 + redCount w * ceilDiv (slotM (m.redDesc t w) * slotN (m.redDesc t w)) 32

/-- Faults of a REDUCE. -/
def Module.redCheck (m : Module) (s : StreamSet) (t k w : Nat) : Nat :=
  let c := m.ctx t k
  let slots := (List.range (redCount w)).map (fun i => redSlot w + i)
  firstFault [
    ((List.range (m.redElems t w)).any (fun e => match m.jobPlace (redJob w) (c.addr (fld w 191 128) + 8 * e) with
      | some (.dense _ _) => false
      | some (.grad _) => false
      | _ => true), 3),
    (slots.any (fun i => !m.slotUsable s t i || fld (mGetD (m.tile t).slots i 0) 19 16 != fld (m.redDesc t w) 19 16), 5),
    (redCount w == 0 || decide (64 < redCount w), 10)]

/-- The converted elements of a REDUCE, in order (11 R304). -/
def Module.redVals (m : Module) (t w : Nat) : List (Nat × Bool × Bool) :=
  let x := m.tile t
  ((List.range (redCount w)).map (fun i =>
    let d := mGetD x.slots (redSlot w + i) 0
    (List.range (slotM d * slotN d)).map (fun e => gfxOf (jobFrac (m.job (redJob w)).config) (x.accX d e)))).flatten

/-- The effect of a REDUCE. -/
def Module.redRun (waits : Nat) (m : Module) (_ : StreamSet) (t k w : Nat) : CmdRun :=
  let c := m.ctx t k
  let j := redJob w
  let vs := m.redVals t w
  let m' := m.countConv j (vs.filter (fun v => v.2.1)).length (vs.filter (fun v => v.2.2)).length
  let m' := (vs.zip (List.range vs.length)).foldl (fun (m : Module) v =>
    match m.jobPlace j (c.addr (fld w 191 128) + 8 * v.2) with
    | some pl => m.jobWrite j pl v.1.1
    | none => m) m'
  { m := m', clocks := m.redClocks t w + waits, bytes := 16 * vs.length }

/-! ## POOL (10 R300) -/

/-- BAGS. -/
def poolBags (w : Nat) : Nat := fld w 125 106
/-- ROW_FMT. -/
def poolFmt (w : Nat) : Nat := fld w 159 157
/-- DIM. -/
def poolDim (w : Nat) : Nat := 32 * fld w 156 149
/-- Stride of a staged row: formats 2 to 5 carry a header. -/
def poolStride (w : Nat) : Nat := (if 2 ≤ poolFmt w then 16 else 0) + rowCodeBytes (poolFmt w) (poolDim w)

/-- Bag bound b. -/
def Module.poolBound (m : Module) (t k w b : Nat) : Nat := m.slice32 t ((m.ctx t k).at (fld w 105 85) + 4 * b)
/-- Row position of occurrence i. -/
def Module.poolPos (m : Module) (t k w i : Nat) : Nat := m.slice32 t ((m.ctx t k).at (fld w 105 85) + 4 * (poolBags w + 1 + i))
/-- Weight of occurrence i, FP32. -/
def Module.poolWeight (m : Module) (t k w i : Nat) : Nat :=
  if w.testBit 160 then m.slice32 t ((m.ctx t k).at (fld w 181 161) + 4 * i) else one32

/-- Occurrences. -/
def Module.poolOcc (m : Module) (t k w : Nat) : Nat := m.poolBound t k w (poolBags w)

/-- Faults of a POOL: the rows written are those that lie whole in the region (log 38). -/
def Module.poolCheck (m : Module) (_ : StreamSet) (t k w : Nat) : Nat :=
  let c := m.ctx t k
  let n := m.poolOcc t k w
  let room := !c.holds (fld w 105 85) (4 * (poolBags w + 1)) || !c.holds (fld w 105 85) (4 * (poolBags w + 1 + n))
  firstFault [
    (room || !c.holds (fld w 148 128) (poolBags w * poolDim w * 4) || (w.testBit 160 && !c.holds (fld w 181 161) (4 * n)), 3),
    (poolBags w == 0 || poolDim w == 0 || decide (4096 < poolDim w) || decide (5 < poolFmt w)
      || (List.range (poolBags w)).any (fun b => decide (m.poolBound t k w (b + 1) < m.poolBound t k w b))
      || (List.range n).any (fun i => !c.holds (fld w 84 64) ((m.poolPos t k w i + 1) * poolStride w)), 10)]

/-- Decoded values of the staged row of an occurrence. -/
def Module.poolRow (m : Module) (t k w i : Nat) : List XVal :=
  let bs := m.sliceRead t ((m.ctx t k).at (fld w 84 64) + m.poolPos t k w i * poolStride w) (poolStride w)
  if 2 ≤ poolFmt w then decodeCodes (poolFmt w) (poolDim w) (leAt bs 0 4) (bs.drop 16) else decodeCodes (poolFmt w) (poolDim w) 0 bs

/-- The output row of a bag. -/
def Module.poolBag (m : Module) (t k w b : Nat) : Bytes :=
  let lo := m.poolBound t k w b
  let n := m.poolBound t k w (b + 1) - lo
  let as := (List.range n).foldl (fun as i => poolAdd as (m.poolWeight t k w (lo + i)) (m.poolRow t k w (lo + i)))
    (List.replicate (poolDim w) Acc.zero)
  (as.map (fun a => toLe 4 a.round32)).flatten

/-- Clocks of a POOL. -/
def Module.poolClocks (m : Module) (t k w : Nat) : Nat := 8 + m.poolOcc t k w * ceilDiv (poolDim w) 64 + poolBags w * fld w 156 149

/-- The effect of a POOL. -/
def Module.poolRun (m : Module) (_ : StreamSet) (t k w : Nat) : CmdRun :=
  { m := m.sliceWrite t ((m.ctx t k).at (fld w 148 128)) (((List.range (poolBags w)).map (m.poolBag t k w)).flatten)
    clocks := m.poolClocks t k w }

/-! ## Control commands (08 R237, R238) -/

/-- Faults of a SIGNAL: TARGET is a tile-control base. -/
def Module.signalCheck (m : Module) (_ : StreamSet) (t k w : Nat) : Nat :=
  firstFault [
    (!(match m.locate ((m.ctx t k).addr (fld w 127 64)) with
      | .ctl _ o => o == 0
      | .remote _ _ => true
      | _ => false), 3),
    (decide (1 < fld w 167 166), 10)]

/-- The effect of a SIGNAL. -/
def Module.signalRun (waits : Nat) (m : Module) (_ : StreamSet) (t k w : Nat) : CmdRun :=
  let c := m.ctx t k
  match m.locate (c.addr (fld w 127 64)) with
  | .ctl u _ => { m := m.signal u (fld w 165 160) (fld w 167 166) (fld w 159 128), clocks := 1 + waits }
  | .remote d a =>
    let r := m.remoteSend t k c.setId d 10 2 (toLe 8 a ++ toLe 4 c.setId ++ toLe 1 (fld w 167 166) ++ toLe 1 (fld w 165 160) ++ zeros 2
      ++ toLe 4 (fld w 159 128))
    { m := r.1, clocks := 1 + waits, fault := if r.2 then 0 else 14 }
  | _ => { m := m }

/-! ## Event counters and stalls (08 R239, R255) -/

/-- A SIGNAL from any tile of any module reaches a counter (08 R239). -/
def eventCounterChange (t e : Nat) (set : Bool) (v : Nat) (m : Module) : Module := m.signal t e (b2n set) v

/-- EVENT_COUNTER_CHANGE (08 R239). -/
def execEventCounterChange (tile : Fin 512) (evt : Fin 64) (set : Bool) (value : Nat) (s : State) : Host.Outcome State Fault Refusal :=
  .next { s with m := eventCounterChange tile evt set value s.m }

/-- A context held by its marker for STALL_LIMIT_FRAMES consecutive ticks faults its stream (08 R255). -/
def streamStalled (t k : Nat) (m : Module) : Module :=
  let c := m.ctx t k
  let lim := m.cfg 0x3100 0x09
  if lim ≠ 0 ∧ c.state = 1 ∧ !c.depMet ∧ lim ≤ c.held then m.streamFault t k 13 else m

/-- STREAM_STALLED (08 R255). -/
def execStreamStalled (tile : Fin 512) (ctx : Fin 8) (s : State) : Host.Outcome State Fault Refusal := .next { s with m := streamStalled tile ctx s.m }

end Sys2Proof.Machine
end

