-- ==== Sys2Proof/Machine/Issue.lean ====
section
/-! DEFINITION. Which user context of a tile is ready, and how its next command issues (08 R226, R253). -/

namespace Sys2Proof.Machine

/-! ## What a command needs of its grant (08 R253) -/

/-- The clock figure of a compute command of Table 08-3, with 11 passes in EXACT; none for a transfer or control
command (08 R253). -/
def Module.cmdFigure (m : Module) (t k w : Nat) : Option Nat :=
  match cmdOp w with
  | 0x10 => m.mmaFig t k w
  | 0x11 => m.epiFig t k w
  | 0x20 => some (16 + skRecs w)
  | 0x21 => some (8 + ceilDiv (winsCount w) 32 + winsLists w)
  | 0x22 => some (m.drainClocks t w)
  | 0x23 => some (argClocks w)
  | 0x24 => some (m.redClocks t w)
  | 0x25 => some (m.poolClocks t k w)
  | _ => none

/-- The place lies in LPDDR5X. -/
def Loc.isLp (l : Loc) : Bool :=
  match l with
  | .lpddr _ => true
  | _ => false

/-- The command moves LPDDR5X bytes, which its set's grant pays for (08 R253, 12 R360). -/
def Module.cmdMoves (m : Module) (t k w : Nat) : Bool :=
  let c := m.ctx t k
  match cmdOp w with
  | 0x01 => (m.locateN (c.moveSrc w) (moveBytes w)).isLp || (m.locateN (c.moveDst w) (moveBytes w)).isLp
  | 0x02 => (m.gatIndices t k w).any (fun x => !c.gatInvalid w x && (m.locateN (c.gatAddr w x) (gatRow w)).isLp)
  | 0x03 => scKind w == 1
  | 0x24 => true
  | _ => false

/-- The context has grant left for its next command: clocks for a compute figure, unless that exceeds the whole grant
and faults; any clocks for a transfer or control command; and bytes where it moves LPDDR5X (08 R226, R253). -/
def Module.grantLeft (m : Module) (t k w : Nat) : Bool :=
  let c := m.ctx t k
  let s := m.streamSet c.setId
  let whole := (m.setGrant c.setId s m.clock.sfc).1
  decide (0 < c.grant) && (match m.cmdFigure t k w with
    | some g => decide (whole < g) || decide (g ≤ c.grant)
    | none => true)
  && (!m.cmdMoves t k w || decide (0 < s.bytesLeft))

/-- A context is ready: no operation in flight, its marker satisfied, neither parked nor waiting for a tick, and grant
left for its next command (08 R226). -/
def Module.ctxReady (m : Module) (t k : Nat) : Bool :=
  let c := m.ctx t k
  let s := m.streamSet c.setId
  c.state == 1 && (s.state == 2 || s.state == 5) && c.busy == 0 && c.depMet && !c.waitTick.any (fun f => decide (m.clock.sfc ≤ f))
    && (m.nextCmd t k).any (m.grantLeft t k)

/-! ## Issuing and completing -/

/-- The tile's highest-priority ready user context issues its next command, if that is the row's (08 R226): faults
found before issue, a compute figure above the whole grant, then its effect and its completion. check gives the command's
own fault code. -/
def Module.issue (m : Module) (t op : Nat) (check : Module → StreamSet → Nat → Nat → Nat → Nat)
    (run : Module → StreamSet → Nat → Nat → Nat → CmdRun) : Module :=
  match [2, 3, 4, 5, 6, 7].find? (m.ctxReady t) with
  | none => m
  | some k =>
    let c := m.ctx t k
    let s := m.streamSet c.setId
    let w := (m.nextCmd t k).getD 0
    if cmdOp w ≠ op then (if opcodes.contains (cmdOp w) then m else m.streamFault t k 1)
    else
      let f := minFault (s.commonFault w) (check m s t k w)
      if f ≠ 0 then m.streamFault t k f
      else if (m.cmdFigure t k w).any (fun g => decide ((m.setGrant c.setId s m.clock.sfc).1 < g)) then m.streamFault t k 12
      else after (run m s t k w) t k
where
  /-- Spend the grant, then fault, wait for remote operations, or complete. -/
  after (r : CmdRun) (t k : Nat) : Module :=
    let m := r.m.spend t k r.clocks r.bytes
    if r.fault ≠ 0 then m.streamFault t k r.fault
    else if (m.ctx t k).busy ≠ 0 then m else m.finishCmd t k

end Sys2Proof.Machine
end

