-- ==== Sys2Proof/Machine/Commands.lean ====
section
/-! DEFINITION. Meanings of the stream commands of a tile (08 Table 08-3): each issues as R226 has it. -/

namespace Sys2Proof.Machine

/-! ## Transfers (08 R231, R232) -/

/-- MOVE on a tile. -/
def move (t waits : Nat) (m : Module) : Module := m.issue t 0x01 Module.moveCheck (Module.moveRun waits)

/-- MOVE (08 R231). -/
def execMove (tile : Fin 512) (waits : Nat) (s : State) : Host.Outcome State Fault Refusal := .next { s with m := move tile waits s.m }

/-- GATHER on a tile. -/
def gather (t waits : Nat) (m : Module) : Module := m.issue t 0x02 Module.gatherCheck (Module.gatherRun waits)

/-- GATHER (08 R232). -/
def execGather (tile : Fin 512) (waits : Nat) (s : State) : Host.Outcome State Fault Refusal := .next { s with m := gather tile waits s.m }

/-- SCATTER_ACC on a tile. -/
def scatterAcc (t waits : Nat) (m : Module) : Module := m.issue t 0x03 Module.scatterCheck (Module.scatterRun waits)

/-- SCATTER_ACC (08 R232, 11 R318, R319). -/
def execScatterAcc (tile : Fin 512) (waits : Nat) (s : State) : Host.Outcome State Fault Refusal := .next { s with m := scatterAcc tile waits s.m }

/-! ## Arithmetic (07) -/

/-- MMA on a tile (07 R197). -/
def mma (t : Nat) (m : Module) : Module := m.issue t 0x10 Module.mmaCheck Module.mmaRun

/-- MMA (07 R193 to R214, 08 R234). -/
def execMma (tile : Fin 512) (s : State) : Host.Outcome State Fault Refusal := .next { s with m := mma tile s.m }

/-- EPI on a tile (07 R217). -/
def epi (t : Nat) (m : Module) : Module := m.issue t 0x11 Module.epiCheck Module.epiRun

/-- EPI (07 R216 to R222). -/
def execEpi (tile : Fin 512) (s : State) : Host.Outcome State Fault Refusal := .next { s with m := epi tile s.m }

/-! ## Selection (09) -/

/-- SKSCAN on a tile. -/
def skscan (t : Nat) (m : Module) : Module := m.issue t 0x20 Module.skCheck Module.skRun

/-- SKSCAN (05 R134, 08 R235). -/
def execSkscan (tile : Fin 512) (s : State) : Host.Outcome State Fault Refusal := .next { s with m := skscan tile s.m }

/-- WINS on a tile. -/
def wins (t : Nat) (m : Module) : Module :=
  m.issue t 0x21 Module.winsCheck Module.winsRun

/-- WINS (09 R265). -/
def execWins (tile : Fin 512) (s : State) : Host.Outcome State Fault Refusal := .next { s with m := wins tile s.m }

/-- WDRAIN on a tile. -/
def wdrain (t : Nat) (m : Module) : Module := m.issue t 0x22 Module.drainCheck Module.drainRun

/-- WDRAIN (09 R268). -/
def execWdrain (tile : Fin 512) (s : State) : Host.Outcome State Fault Refusal := .next { s with m := wdrain tile s.m }

/-- ARGMAX on a tile: a refused long row is counted (09 R273). -/
def argmax (t waits : Nat) (m : Module) : Module :=
  let refused := match [2, 3, 4, 5, 6, 7].find? (m.ctxReady t) with
    | some k =>
      let w := (m.nextCmd t k).getD 0
      let s := m.streamSet (m.ctx t k).setId
      cmdOp w == 0x23 && m.longRow w && minFault (s.commonFault w) (m.argCheck s t k w) == 10
    | none => false
  (if refused then m.count 0x3080 0x07 1 else m).issue t 0x23 Module.argCheck (Module.argRun waits)

/-- ARGMAX (09 R271). -/
def execArgmax (tile : Fin 512) (waits : Nat) (s : State) : Host.Outcome State Fault Refusal := .next { s with m := argmax tile waits s.m }

/-! ## REDUCE and POOL (11 R317, 10 R300) -/

/-- REDUCE on a tile. -/
def reduce (t waits : Nat) (m : Module) : Module := m.issue t 0x24 Module.redCheck (Module.redRun waits)

/-- REDUCE (11 R317). -/
def execReduce (tile : Fin 512) (waits : Nat) (s : State) : Host.Outcome State Fault Refusal := .next { s with m := reduce tile waits s.m }

/-- POOL on a tile. -/
def pool (t : Nat) (m : Module) : Module := m.issue t 0x25 Module.poolCheck Module.poolRun

/-- POOL (10 R300). -/
def execPool (tile : Fin 512) (s : State) : Host.Outcome State Fault Refusal := .next { s with m := pool tile s.m }

/-! ## Control commands (08 R237, R238) -/

/-- SIGNAL on a tile. -/
def signal (t waits : Nat) (m : Module) : Module := m.issue t 0x30 Module.signalCheck (Module.signalRun waits)

/-- SIGNAL (08 R237). -/
def execSignal (tile : Fin 512) (waits : Nat) (s : State) : Host.Outcome State Fault Refusal := .next { s with m := signal tile waits s.m }

/-- No faults beyond the common ones. -/
def noCheck (_ : Module) (_ : StreamSet) (_ _ _ : Nat) : Nat := 0

/-- WAIT on a tile: with UNTIL_TICK it completes once the next tick has passed (08 R238). -/
def wait (t : Nat) (m : Module) : Module :=
  let k := ([2, 3, 4, 5, 6, 7].find? (m.ctxReady t)).getD 0
  let begins := match m.nextCmd t k with
    | some w => m.ctxReady t k && cmdOp w == 0x31 && w.testBit 64 && (m.ctx t k).waitTick.isNone
        && (m.streamSet (m.ctx t k).setId).commonFault w == 0
    | none => false
  if begins then (m.spend t k 1 0).onCtx t k (fun c => { c with waitTick := some m.clock.sfc })
  else m.issue t 0x31 noCheck (fun m _ t k _ => { m := m, clocks := if (m.ctx t k).waitTick.isSome then 0 else 1 })

/-- WAIT (08 R238). -/
def execWait (tile : Fin 512) (s : State) : Host.Outcome State Fault Refusal := .next { s with m := wait tile s.m }

/-- Park or halt the tile's context that has just completed a command. -/
def Module.leave (m : Module) (t k st : Nat) : Module := m.onCtx t k (fun c => if c.state = 1 then { c with state := st } else c)

/-- REARM on a tile: the context parks; a fault in a set that is not persistent (08 R256). -/
def rearm (t : Nat) (m : Module) : Module :=
  let k := ([2, 3, 4, 5, 6, 7].find? (m.ctxReady t)).getD 0
  let pc := (m.ctx t k).pc
  let m' := m.issue t 0x32 (fun _ s _ _ _ => if armPersistent s.header then 0 else 1) (fun m _ _ _ _ => { m := m })
  if pc < (m'.ctx t k).pc then m'.leave t k 2 else m'

/-- REARM (08 R256). -/
def execRearm (tile : Fin 512) (s : State) : Host.Outcome State Fault Refusal := .next { s with m := rearm tile s.m }

/-- HALT on a tile: the context becomes idle, its reservations stay (08 R238). -/
def halt (t : Nat) (m : Module) : Module :=
  let k := ([2, 3, 4, 5, 6, 7].find? (m.ctxReady t)).getD 0
  let pc := (m.ctx t k).pc
  let m' := m.issue t 0x3F noCheck (fun m _ _ _ _ => { m := m })
  if pc < (m'.ctx t k).pc then m'.leave t k 3 else m'

/-- HALT (08 R238). -/
def execHalt (tile : Fin 512) (s : State) : Host.Outcome State Fault Refusal := .next { s with m := halt tile s.m }

end Sys2Proof.Machine
end

