-- ==== Sys2Proof/Machine/JobRows.lean ====
section
/-! DEFINITION. Meanings of the writes that configure, start, stop and check reduction jobs (11 R306 to R312, R335 to R338). -/

namespace Sys2Proof.Machine

/-! ## The checks of a configuration (11 R307 to R309, R311) -/

/-- The header keeps Table 11-1. -/
def jobHeaderOk (b : Bytes) : Bool :=
  let h := jobHdr b
  fld h 1023 768 == 0 && fld h 449 449 == 0 && fld h 398 6 == 0
    && jobStatusAddr b % 32 == 0 && jobBase b % 4096 == 0 && jobShard b % 32 == 0
    && decide (jobFrac b ≤ 149 ∧ 1 ≤ jobCompute b ∧ jobCompute b ≤ 64 ∧ 1 ≤ jobRing b ∧ jobRing b ≤ 64)
    && decide (jobPairs b ≤ 127 ∧ 1 ≤ jobTensors b ∧ jobTensors b ≤ 64 ∧ 1 ≤ jobMembers b ∧ jobMembers b ≤ 256)
    && b.length == 128 + 4 * jobMembers b + 64 * jobTensors b

/-- The member table keeps R308. -/
def jobMembersOk (b : Bytes) : Bool :=
  let ps := List.range (jobMembers b)
  let role (k p : Nat) : Bool := ps.countP (fun i => jobRole b i == k && jobPair b i == p) == 1
  ps.all (fun p => fld (jobEntry b p) 31 26 == 0 && fld (jobEntry b p) 15 8 == 0 && decide (jobRole b p ≤ 2)
      && (if jobRole b p = 0 then jobPair b p == 0 else decide (jobPair b p < jobPairs b)))
    && decide ((dedup (ps.map (jobDev b))).length = jobMembers b)
    && (List.range (jobPairs b)).all (fun p => role 1 p && role 2 p)

/-- A tensor descriptor keeps Table 11-2 and R309; a SPARSE tensor's table has an active version whose modules are all
members, and a DENSE tensor has an owner for every element. -/
def Module.tensorOk (m : Module) (b : Bytes) (t : Nat) : Bool :=
  let size (n : Nat) : Bool := decide (32 ≤ n ∧ n ≤ 65536) && n % 32 == 0
  fld t 195 0 == 0 && fld t 198 198 == 0 && fp32.isFin (tenLr t) && decide (tenUpdate t ≤ 2)
    && (tenUpdate t != 2 || tenParam t == 0)
    && (match tenKind t with
      | 0 => tenUpdate t != 2 && tenElems t % 32 == 0 && tenN t == 0 && tenM t == 0
          && decide (tenBase t + tenElems t ≤ jobShard b * jobMembers b)
      | 1 => tenUpdate t != 2 && tenElems t == 0 && size (tenN t) && size (tenM t) && decide (1 ≤ tenRank t ∧ tenRank t ≤ 64)
          && decide (tenOwner t < jobMembers b) && decide (tenBase t + tenRank t * (tenM t + tenN t) ≤ jobFactorElems b)
      | 2 => tenUpdate t == 2 && tenElems t == 0 && tenBase t == 0 && tenN t == 0 && tenM t == 0 && decide (1 ≤ tenEvery t)
          && decide (10 ≤ tenSlots t ∧ tenSlots t ≤ 28)
          && (match (m.table (tenTable t)).active with
            | some d => (List.range (tabModules d)).all (fun i => (jobPos b (tabFirst d + i)).isSome)
            | none => false)
      | _ => false)

/-- The configuration is good (11 R311). -/
def Module.jobConfigOk (m : Module) (b : Bytes) : Bool :=
  jobHeaderOk b && jobMembersOk b && (List.range (jobTensors b)).all (fun i => m.tensorOk b (jobTensor b i))
    && (!(jobOfKind b 0).isEmpty || jobShard b == 0)

/-- This module accepts the master's writes: it is the master, or stands alone (02 R43). -/
def Module.masters (m : Module) : Bool := !m.inCascadeConfig || m.device == 0

/-- A write of JOB_CONFIG executes; members lists the other members on which the job buffer fits (11 R311, 18 R511). -/
def Module.runJobConfig (members : List Nat) (m : Module) (r : VReq) (c : Client) : Module :=
  m.checked r c (fun m _ v => m.untargeted r (fun m =>
    let j := jobNum v
    let devs := (List.range (jobMembers v)).map (jobDev v)
    if m.health.unsparable then m.refuse r 80
    else if !m.masters then m.refuse r 13
    else if (m.job j).state = 2 then m.refuse r 44
    else if !m.jobConfigOk v then m.refuse r 45
    else if !devs.all m.present then m.refuse r 46
    else
      let free := m.unreserve (256 + j)
      let own := devs.contains m.device
      if (own && !free.canReserve (jobBase v) (m.jobBytes v)) || !devs.all (fun d => d == m.device || members.contains d) then m.refuse r 32
      else
        let m := if own then free.reserve (jobBase v) (m.jobBytes v) (256 + j) else free
        let m := (devs.filter (fun d => d != m.device)).foldl (fun (m : Module) d => m.sendConfig d j v) m
        (m.onJob j (fun x => { config := v, state := 1, pending := x.pending })).ack r m.clock.sfc))

/-- JOB_CONFIG. -/
def jobConfig (t : Nat) (members : List Nat) (m : Module) : Module :=
  m.serve t (fun r _ => r.writes 0x3300 0x03) (Module.runJobConfig members)
/-- JOB_CONFIG. -/
def execJobConfig (t : Nat) (members : List Nat) (s : State) : Host.Outcome State Fault Refusal :=
  .next { s with m := jobConfig t members s.m }

/-! ## Starting and stopping (11 R312, R335) -/

/-- ceil(m n r / 131,072) of a LOWRANK tensor. -/
def lowWork (t : Nat) : Nat := ceilDiv (tenM t * tenN t * tenRank t) 131072

/-- Sum of a figure over the tensors of a kind. -/
def jobSum (b : Bytes) (k : Nat) (f : Nat → Nat) : Nat := (jobOfKind b k).foldl (fun a p => a + f p.2) 0

/-- Service clocks per tile of phase 1 (11 Table 11-5). -/
def phase1Work (b : Bytes) : Nat := jobSum b 1 (fun t => 64 + 11 * lowWork t)

/-- Sparse sweep clocks per tile. -/
def Module.sparseWork (m : Module) (t : Nat) : Nat := 2 ^ tenSlots t * ceilDiv (m.tableDim (tenTable t)) 32 / 512

/-- Service clocks per tile of the final phase (11 Table 11-5). -/
def Module.finalWork (m : Module) (b : Bytes) : Nat :=
  jobSum b 1 (fun t => 128 + 22 * lowWork t + tenRank t * tenRank t * ceilDiv (tenM t) 32) + jobSum b 2 (fun t => 8 + m.sparseWork t)

/-- Service clocks per tile of the update frame, on the member that needs most (11 Table 11-5). -/
def Module.updateWork (m : Module) (b : Bytes) : Nat :=
  let owned (p : Nat) : Nat := ((jobOfKind b 1).filter (fun x => tenOwner x.2 == p)).foldl (fun a x => a + 11 * lowWork x.2) 0
  8 + ceilDiv (jobShard b * jobLanes b) 16384 + listMax ((List.range (jobMembers b)).map owned) + jobSum b 2 m.sparseWork

/-- The figures of Table 11-5 fit REDUCE_SHARE in the frames of the first step (11 R335). -/
def Module.jobFits (m : Module) (b : Bytes) (n : Nat) : Bool :=
  let c := n + jobCompute b
  let share (f : Nat) : Nat := m.cfgAt 0x3300 0x0A f * budgetClocks (m.periodAt f) (m.stepAt f) / 256
  (!jobTwoPhase b || decide (phase1Work b ≤ share c))
    && decide (m.finalWork b ≤ share (if jobTwoPhase b then c + jobRing b else c))
    && decide (m.updateWork b ≤ share (n + jobSpan b))

/-- A write of JOB_START executes (11 R312, R335, 08 R252). -/
def Module.runJobStart (m : Module) (r : VReq) (c : Client) : Module :=
  m.checked r c (fun m _ v =>
    let j := leAt v 0 1 % 64
    if leAt v 0 8 ≠ j then m.refuse r 8
    else m.untargeted r (fun m => m.withLead r (leAt v 8 8) (fun m n =>
      let x := m.job j
      let m' := m.onJob j (fun x => { x with pending := some n })
      if m.health.unsparable then m.refuse r 80
      else if !m.masters then m.refuse r 13
      else if x.config.isEmpty then m.refuse r 45
      else if x.state = 2 ∨ x.pending.isSome then m.refuse r 44
      else if !m.jobFits x.config n || !m'.grantsOk n then m.refuse r 47
      else
        let others := ((List.range (jobMembers x.config)).map (jobDev x.config)).filter (fun d => d != m.device)
        if others.isEmpty then m'.ack r n else m'.placeOnly r { kind := 8, arg := j, target := n, host := true } others)))

/-- JOB_START. -/
def jobStart (t : Nat) (m : Module) : Module := m.serve t (fun r _ => r.writes 0x3300 0x04) Module.runJobStart
/-- JOB_START. -/
def execJobStart (t : Nat) (s : State) : Host.Outcome State Fault Refusal := .next { s with m := jobStart t s.m }

/-- A write of JOB_STOP executes: the job ends with the update frame of its current step (11 R312). -/
def Module.runJobStop (m : Module) (r : VReq) (c : Client) : Module :=
  m.checked r c (fun m _ v => m.untargeted r (fun m =>
    let j := leNat v
    let x := m.job j
    if x.state = 2 && (jobPos x.config m.device).isNone then (m.onJob j (fun x => { x with state := 1 })).ack r m.clock.sfc
    else if x.state = 2 then (m.onJob j (fun x => { x with stopping := true })).ack r (x.deadline + 1) else m.ack r m.clock.sfc))

/-- JOB_STOP. -/
def jobStop (t : Nat) (m : Module) : Module := m.serve t (fun r _ => r.writes 0x3300 0x05) Module.runJobStop
/-- JOB_STOP. -/
def execJobStop (t : Nat) (s : State) : Host.Outcome State Fault Refusal := .next { s with m := jobStop t s.m }

/-- JOBS_ENABLE: an at-tick value; a 0 stops every running job at its tick (11 R312, R338). -/
def jobsEnable (t : Nat) (m : Module) : Module := m.serve t (fun r _ => r.writes 0x3300 0x01) Module.runWrite
/-- JOBS_ENABLE. -/
def execJobsEnable (t : Nat) (s : State) : Host.Outcome State Fault Refusal := .next { s with m := jobsEnable t s.m }

/-! ## Digests (11 R337) -/

/-- The digest pair that a record shows on one side: bytes and CRC. -/
def digestSent (r : Bytes) : Nat × Nat := (leAt r 8 8, leAt r 16 8)
/-- The received bytes and CRC of a record. -/
def digestRecv (r : Bytes) : Nat × Nat := (leAt r 24 8, leAt r 32 8)

/-- The record of ring position p: this module's own, or the one that the master read. -/
def Module.digestOf (m : Module) (j : Nat) (members : List (Nat × Bytes)) (p : Nat) : Option Bytes :=
  let x := m.job j
  let d := jobDev x.config p
  if d = m.device then some x.digestLast.record else (members.find? (fun q => q.1 == d)).map (fun q => fit q.2 48)

/-- DIGEST_RESULT of a comparison round the ring. -/
def Module.digestCompare (m : Module) (j : Nat) (members : List (Nat × Bytes)) : Nat :=
  let x := m.job j
  let n := jobMembers x.config
  let step := put (match m.digestOf j members 0 with
    | some r => leAt r 0 4
    | none => x.digestLast.step) 32 96
  let ok (p : Nat) : Bool := match m.digestOf j members p, m.digestOf j members ((p + 1) % n) with
    | some a, some b => digestSent a == digestRecv b
    | _, _ => false
  if !(List.range n).all (fun p => (m.digestOf j members p).isSome) then step + put 511 9 87 + 2
  else match (List.range n).find? (fun p => !ok p) with
    | some p => step + put p 9 87 + 1
    | none => step + put 511 9 87

/-- A write of DIGEST_CHECK executes; members holds the records that the master read: device and record (11 R337). -/
def Module.runDigestCheck (members : List (Nat × Bytes)) (m : Module) (r : VReq) (c : Client) : Module :=
  m.checked r c (fun m _ v => m.untargeted r (fun m =>
    let j := leNat v
    if !m.masters then m.refuse r 13
    else if (m.job j).config.isEmpty then m.refuse r 45
    else ({ m with jobs := { m.jobs with digestResult := m.digestCompare j members } }).ack r m.clock.sfc))

/-- DIGEST_CHECK. -/
def digestCheck (t : Nat) (members : List (Nat × Bytes)) (m : Module) : Module :=
  m.serve t (fun r _ => r.writes 0x3300 0x09) (Module.runDigestCheck members)
/-- DIGEST_CHECK. -/
def execDigestCheck (t : Nat) (members : List (Nat × Bytes)) (s : State) : Host.Outcome State Fault Refusal :=
  .next { s with m := digestCheck t members s.m }

end Sys2Proof.Machine
end

