-- ==== Sys2Proof/Machine/Jobs.lean ====
section
/-! DEFINITION. The meanings of the reduction-job rows that no cell carries (11 R314, R318 to R320, R323). -/

namespace Sys2Proof.Machine

/-- GFX64_ADD (11 R318): an MSA adds an operand into a 64-bit word of LPDDR5X. -/
def gfx64Add (j addr value : Nat) (m : Module) : Module :=
  if addr % 8 = 0 ∧ addr + 8 ≤ m.lpddrUsable then m.msaAdd j addr value else m

/-- The meaning of GFX64_ADD. -/
def execGfx64Add (job : Fin 64) (addr value : Nat) (s : State) : Host.Outcome State Fault Refusal :=
  .next { s with m := gfx64Add job.val addr value s.m }

/-- KEYED_ADD (11 R319): an MSA adds a row's values into the hold or owner area of a SPARSE tensor of a running job. -/
def keyedAdd (j i : Nat) (owner : Bool) (row lane : Nat) (values : List Nat) (m : Module) : Module :=
  let x := m.job j
  if x.state = 2 ∧ i < jobTensors x.config ∧ tenKind (jobTensor x.config i) = 2 then (m.sparseAdd j i owner (row * 256 + lane) 0 values).1 else m

/-- The meaning of KEYED_ADD. -/
def execKeyedAdd (job : Fin 64) (tensor : Nat) (owner : Bool) (row lane : Nat) (values : List Nat) (s : State) :
    Host.Outcome State Fault Refusal :=
  .next { s with m := keyedAdd job.val tensor owner row lane values s.m }

/-- LSA_COMBINE (11 R320): an outgoing operand of a running job enters the combine buffer of a port. -/
def lsaCombine (port j device addr lane value : Nat) (m : Module) : Module :=
  if (m.job j).state = 2 then
    m.lsaTake { port := port, job := j, device := device, addr := addr / 256 * 256, lane := lane, values := [(addr % 256 / 8, value % 2 ^ 64)] }
  else m

/-- The meaning of LSA_COMBINE. -/
def execLsaCombine (port : Fin 12) (job : Fin 64) (device addr lane value : Nat) (s : State) : Host.Outcome State Fault Refusal :=
  .next { s with m := lsaCombine port.val job.val device addr lane value s.m }

/-- REDUCTION_DEADLINE (11 R314, R323): the KIND 8 action of tick D applies; the member acts on the verdict. -/
def reductionDeadline (j : Nat) (m : Module) : Module :=
  (m.unplace (fun a => a.kind == 8 && a.arg == j && decide (a.target ≤ m.clock.sfc))).deadlineAct j

/-- The meaning of REDUCTION_DEADLINE. -/
def execReductionDeadline (job : Fin 64) (s : State) : Host.Outcome State Fault Refusal :=
  .next { s with m := reductionDeadline job.val s.m }

/-- LATE_VERDICT (11 R323): the verdict read from the predecessor arrives. -/
def lateVerdict (t j : Nat) (r : Bytes) (m : Module) : Module := (m.at t).lateVerdict j r

/-- The meaning of LATE_VERDICT. -/
def execLateVerdict (t : Nat) (job : Fin 64) (verdict : Bytes) (s : State) : Host.Outcome State Fault Refusal :=
  if (Instr.lateVerdict t job verdict).wellFormed then .next { s with m := lateVerdict t job.val verdict s.m }
  else .refused (.illFormed "LATE_VERDICT")

end Sys2Proof.Machine
end

