-- ==== Sys2Proof/Machine/Memory.lean ====
section
/-! DEFINITION. Meanings of the memory rows (12 R353 to R364, 08 R250). -/

namespace Sys2Proof.Machine

/-- A write of USER_REGION_BYTES executes (12 R357). -/
def Module.runUserRegion (m : Module) (r : VReq) (c : Client) : Module :=
  m.checked r c (fun m o v =>
    if !m.regionFits (leNat v) then m.refuse r 8
    else m.untargeted r (fun m =>
      let m := m.setNow o 0 v
      ({ m with vilur := { m.vilur with bookDirty := true } }).ack r m.clock.sfc))

/-- USER_REGION_BYTES. -/
def userRegionBytes (t : Nat) (m : Module) : Module := m.serve t (fun r _ => r.writes 0x4000 0x03) Module.runUserRegion
/-- USER_REGION_BYTES. -/
def execUserRegionBytes (t : Nat) (s : State) : Host.Outcome State Fault Refusal := .next { s with m := userRegionBytes t s.m }

/-- A write of SLICE_RESERVE_BYTES executes (08 R250, 03 R93). -/
def Module.runSliceReserve (m : Module) (r : VReq) (c : Client) : Module :=
  m.checked r c (fun m o v =>
    if !m.reserveFits (leNat v) then m.refuse r 8 else m.untargeted r (fun m => (m.setNow o 0 v).ack r m.clock.sfc))

/-- SLICE_RESERVE_BYTES. -/
def sliceReserveBytes (t : Nat) (m : Module) : Module := m.serve t (fun r _ => r.writes 0x2000 0x12) Module.runSliceReserve
/-- SLICE_RESERVE_BYTES. -/
def execSliceReserveBytes (t : Nat) (s : State) : Host.Outcome State Fault Refusal := .next { s with m := sliceReserveBytes t s.m }

/-- An error's address lies in the memory of its source. -/
def Module.errorAddrOk (m : Module) (source addr : Nat) : Bool :=
  if source = 0 then decide (addr < m.lpddrUsable)
  else if source = 1 then (match m.locateLocal addr with
    | .slice _ _ => true
    | .journal _ _ => true
    | _ => false)
  else if source = 2 then (match m.locateLocal addr with
    | .vat _ _ => true
    | _ => false)
  else true

/-- MEMORY_ERROR (12 R362 to R364): an error of a source 0 LPDDR5X, 1 slice, 2 Vat, 3 staging line, and a class
0 CORRECTED, 1 TRANSIENT, 2 UNCORRECTABLE, 3 LINK_CORRECTED. -/
def memoryError (t source cls addr syndrome : Nat) (m : Module) : Module :=
  let m := m.at t
  if m.errorAddrOk source addr then m.memoryFault source cls addr syndrome else m
/-- MEMORY_ERROR. -/
def execMemoryError (t : Nat) (source cls : Fin 4) (addr syndrome : Nat) (s : State) : Host.Outcome State Fault Refusal :=
  .next { s with m := memoryError t source.val cls.val addr syndrome s.m }

/-- PATROL_SCRUB (12 R353): a burst is read, and written back as it was; an error it finds is a MEMORY_ERROR. -/
def patrolScrub (t : Nat) (_addr : Nat) (m : Module) : Module := m.at t
/-- PATROL_SCRUB. -/
def execPatrolScrub (t addr : Nat) (s : State) : Host.Outcome State Fault Refusal := .next { s with m := patrolScrub t addr s.m }

/-- REFRESH_POLL (12 R354, R355): the refresh multiplier of a package, and whether it reports a temperature above its
range. -/
def refreshPoll (t pkg mult : Nat) (hot : Bool) (m : Module) : Module :=
  let m := m.at t
  let was := m.mem.hotPackages.contains pkg
  let rest := m.mem.hotPackages.filter (· != pkg)
  let m := { m with mem := { m.mem with
      refresh := mPutZ m.mem.refresh pkg (mult % 256) 4
      hotPackages := if hot then insertBy (fun a b => decide (a ≤ b)) pkg rest else rest } }
  let m := if hot && !was then m.event 0x0008 2 pkg else m
  m.thermal
/-- REFRESH_POLL. -/
def execRefreshPoll (t : Nat) (pkg : Fin 32) (multiplier : Nat) (hot : Bool) (s : State) : Host.Outcome State Fault Refusal :=
  .next { s with m := refreshPoll t pkg.val multiplier hot s.m }

/-- LPDDR_INIT_DONE (12 R355): every group has been written with zero data; no burst is poisoned;
phase 1 of a start ends (17 Table 17-2). -/
def lpddrInitDone (t : Nat) (m : Module) : Module :=
  let m := m.at t
  if m.mem.ready then m
  else { m with
    mem := { m.mem with ready := true, lpddr := [], poison := [] }
    boot := { m.boot with startState := if m.boot.startState = 1 then 2 else m.boot.startState } }
/-- LPDDR_INIT_DONE. -/
def execLpddrInitDone (t : Nat) (s : State) : Host.Outcome State Fault Refusal := .next { s with m := lpddrInitDone t s.m }

end Sys2Proof.Machine
end

