-- ==== Sys2Proof/Machine/Power.lean ====
section
/-! DEFINITION. Meanings of the power, thermal and sideband rows (19 R520 to R535, 15 R438). -/

namespace Sys2Proof.Machine

/-! ## Rails and resets (19 R521 to R525) -/

/-- P54V lies in its operating range. -/
def inRange54 (mv : Nat) : Bool := decide (48000 ≤ mv ∧ mv ≤ 60000)

/-- P3V3_SB has been in range for at least 100 ms (19 R522). -/
def Module.standbyReady (m : Module) : Bool := m.power.sbSince.any (fun x => decide (x + 100000000 ≤ m.clock.now))

/-- Main conversion starts: PWRGD is asserted, the charger runs, and a start with cause POWER_ON follows (19 R522, R523). -/
def Module.mainRises (m : Module) : Module :=
  { m with
    power := { m.power with mainOn := true, pwrgd := true, tripped := false }
    holdup := { m.holdup with charging := !m.holdup.stopped }
    boot := { m.boot with nextCause := some 0 } }

/-- MAIN_POWER_RISE: P54V rises to a voltage; reapplied, it ends the latch of a thermal trip (19 R522, R531). -/
def mainPowerRise (t mv : Nat) (m : Module) : Module :=
  let m := m.at t
  if m.power.mainOn then m
  else
    let m := { m with power := { m.power with p54 := mv, tripped := false, fault := m.power.fault && !m.power.tripped } }
    if inRange54 mv && m.standbyReady then m.mainRises else m
/-- MAIN_POWER_RISE. -/
def execMainPowerRise (t mv : Nat) (s : State) : Host.Outcome State Fault Refusal := .next { s with m := mainPowerRise t mv s.m }

/-- POWER_FAIL_INDICATION: P54V below 42 V or a fault of main conversion (19 R524, 15 R438). torn lists the records
without their commit mark. -/
def powerFailIndication (t us : Nat) (torn : List Nat) (m : Module) : Module :=
  let m := m.at t
  if m.power.mainOn then
    let m := m.powerFail us torn
    { m with power := { m.power with mainOn := false, p54 := 0 }, boot := { m.boot with nextCause := none } }
  else m
/-- POWER_FAIL_INDICATION. -/
def execPowerFailIndication (t flushUs : Nat) (torn : List Nat) (s : State) : Host.Outcome State Fault Refusal :=
  .next { s with m := powerFailIndication t flushUs torn s.m }

/-- STANDBY_RISE: P3V3_SB enters its range; CAP_LIMIT reads 950 (19 R522, R534). -/
def standbyRise (t mv : Nat) (m : Module) : Module :=
  let m := m.at t
  if m.power.sbSince.isSome then { m with power := { m.power with sb := mv } }
  else if 3135 ≤ mv ∧ mv ≤ 3465 then { m with power := { m.power with sb := mv, sbSince := some m.clock.now, capLimit := 950 } }
  else { m with power := { m.power with sb := mv } }
/-- STANDBY_RISE. -/
def execStandbyRise (t mv : Nat) (s : State) : Host.Outcome State Fault Refusal := .next { s with m := standbyRise t mv s.m }

/-- STANDBY_LOST: with main power present the module runs on, without its SMBus (19 R521, R522). -/
def standbyLost (t : Nat) (m : Module) : Module :=
  let m := m.at t
  if m.power.sbSince.isNone then m
  else
    let m := { m with power := { m.power with sb := 0, sbSince := none } }
    if m.power.mainOn then m.event 0x0011 6 0 else m
/-- STANDBY_LOST. -/
def execStandbyLost (t : Nat) (s : State) : Host.Outcome State Fault Refusal := .next { s with m := standbyLost t s.m }

/-- RST_L: its level changes; low for at least 10 us it raises the indication, and the start under cause PIN waits for
its release; it ends the latch of a thermal trip (19 R525, R531). -/
def rstL (t : Nat) (low : Bool) (ns us : Nat) (m : Module) : Module :=
  let m := m.at t
  if !low then { m with power := { m.power with rstL := true } }
  else if ns < 10000 then m
  else if m.power.mainOn ∨ (m.power.tripped ∧ inRange54 m.power.p54 ∧ m.standbyReady) then
    let m := if m.power.mainOn then m.powerFail us [] else m
    { m with power := { m.power with rstL := false, tripped := false, mainOn := true, fault := false }, boot := { m.boot with nextCause := some 1 } }
  else { m with power := { m.power with rstL := false, tripped := false, fault := m.power.fault && !m.power.tripped } }
/-- RST_L. -/
def execRstL (t : Nat) (low : Bool) (ns flushUs : Nat) (s : State) : Host.Outcome State Fault Refusal :=
  .next { s with m := rstL t low ns flushUs s.m }

/-! ## Emergency steps (19 R526 to R529) -/

/-- A lower CAP_LIMIT takes its step at the first tick whose change-list close has not passed; cause 4 ends at once
(19 R528, R529). -/
def Module.limitStep (m : Module) : Module :=
  let m := m.place { kind := 1, key := capLimitKey, value := toLe 2 m.power.capLimit, target := m.clock.firstFrame }
  let m := { m with power := { m.power with cause := 4 } }
  (m.event 0x0011 1 (put 4 8 8 + put (capStep m.effectiveCap) 8 0)).count 0x7000 0x0D 1

/-- A step for CAP_LIMIT is scheduled. -/
def Module.limitPending (m : Module) : Bool := m.schedule.any (fun a => a.kind == 1 && a.key == capLimitKey)

/-- EMERGENCY_STEP: cause 1 THERMAL, 2 POWER, 3 UNDERVOLTAGE, 4 CAP_LIMIT, when its condition holds (19 R528); mv and
watts are the readings. -/
def emergencyStep (t cause mv watts : Nat) (m : Module) : Module :=
  let m := m.at t
  let m := { m with power := { m.power with p54 := mv, watts := watts, amps := if mv = 0 then 0 else watts * 1000000 / mv
                                            peak := max m.power.peak watts } }
  let m := if m.power.emergency = 0 ∨ m.power.therm ∨ (10 * watts ≤ 9 * m.effectiveCap ∧ 48000 ≤ mv) then m else m.calm
  match cause with
  | 1 => if m.power.therm then m.stepDown 1 m.slower else m
  | 2 => if 105 * m.effectiveCap < 100 * watts then m.stepDown 2 (min 3 (capStep m.effectiveCap + 1)) else m
  | 3 => if 42000 ≤ mv ∧ mv < 47000 then m.stepDown 3 3 else m
  | _ => if m.power.capLimit < min m.power.cap m.power.limit ∧ !m.limitPending then m.limitStep else m
/-- EMERGENCY_STEP. -/
def execEmergencyStep (t : Nat) (cause : Fin 4) (mv watts : Nat) (s : State) : Host.Outcome State Fault Refusal :=
  .next { s with m := emergencyStep t (cause.val + 1) mv watts s.m }

/-- STEP_RESTORE: no cause has held for RESTORE_HOLD_S, and the return to the effective cap's step is scheduled with
the lead of R42 (19 R529). -/
def stepRestore (t : Nat) (m : Module) : Module :=
  let m := m.at t
  let held := m.power.calmSince.any (fun x => decide (x + m.power.hold * 1000000000 ≤ m.clock.now))
  if m.power.emergency = 0 ∨ m.power.therm ∨ m.power.restoreDue ∨ !held then m
  else
    let n := m.leadFrame
    let m := m.place { kind := 1, key := emergencyKey, value := [0], target := n }
    ({ m with power := { m.power with restoreDue := true } }).event 0x0011 2 n
/-- STEP_RESTORE. -/
def execStepRestore (t : Nat) (s : State) : Host.Outcome State Fault Refusal := .next { s with m := stepRestore t s.m }

/-- THERMAL_ALERT: readings of the 20 temperatures (19 R531). -/
def thermalAlert (t : Nat) (temps : List Int) (m : Module) : Module := ((m.at t).readTemps temps).thermal
/-- THERMAL_ALERT. -/
def execThermalAlert (t : Nat) (temps : List Int) (s : State) : Host.Outcome State Fault Refusal :=
  if (Instr.thermalAlert t temps).wellFormed then .next { s with m := thermalAlert t temps s.m } else .refused (.illFormed "THERMAL_ALERT")

/-- THERMAL_ALERT_END: readings at which the alert may end (19 R531). -/
def thermalAlertEnd (t : Nat) (temps : List Int) (m : Module) : Module := ((m.at t).readTemps temps).thermal
/-- THERMAL_ALERT_END. -/
def execThermalAlertEnd (t : Nat) (temps : List Int) (s : State) : Host.Outcome State Fault Refusal :=
  if (Instr.thermalAlertEnd t temps).wellFormed then .next { s with m := thermalAlertEnd t temps s.m }
  else .refused (.illFormed "THERMAL_ALERT_END")

/-- THERMAL_TRIP: a tile-die sensor at 110 °C or more raises the indication, and main conversion stays off (19 R531). -/
def thermalTrip (t : Nat) (temps : List Int) (us : Nat) (m : Module) : Module :=
  let m := (m.at t).readTemps temps
  match ((List.range 16).zip m.power.temps).find? (fun p => decide (1100 ≤ p.2)) with
  | none => m
  | some p =>
    if !m.power.mainOn then m
    else
      let m := (m.event 0x0011 4 (put (unsgn 16 p.2) 16 16 + put p.1 8 0)).powerFail us []
      { m with power := { m.power with mainOn := false, tripped := true, fault := true }, boot := { m.boot with nextCause := none } }
/-- THERMAL_TRIP. -/
def execThermalTrip (t : Nat) (temps : List Int) (flushUs : Nat) (s : State) : Host.Outcome State Fault Refusal :=
  if (Instr.thermalTrip t temps flushUs).wellFormed then .next { s with m := thermalTrip t temps flushUs s.m }
  else .refused (.illFormed "THERMAL_TRIP")

/-! ## SMBus (19 R534) -/

/-- The management endpoint takes a command while standby is present (19 R521). -/
def Module.smbus (m : Module) (t : Nat) (run : Module → Module) : Module :=
  let m := m.at t
  if m.power.sbSince.isNone then m else run m

/-- The endpoint answers NAK. -/
def Module.smbusNak (m : Module) : Module := m.send (.smbus [])

/-- STATUS. -/
def status (t : Nat) (m : Module) : Module := m.smbus t (fun m => m.send (.smbus (toLe 2
  (put (b2n m.power.pwrgd) 1 0 + put (b2n (!m.boot.ownerKey.isEmpty)) 1 1 + put (b2n m.power.fault) 1 2 + put (b2n m.power.therm) 1 3
    + put m.healthState 4 4 + put m.boot.startState 8 8))))
/-- STATUS. -/
def execStatus (t : Nat) (s : State) : Host.Outcome State Fault Refusal := .next { s with m := status t s.m }

/-- INPUT_POWER. -/
def inputPower (t : Nat) (m : Module) : Module := m.smbus t (fun m => m.send (.smbus (toLe 2 m.power.watts)))
/-- INPUT_POWER. -/
def execInputPower (t : Nat) (s : State) : Host.Outcome State Fault Refusal := .next { s with m := inputPower t s.m }

/-- The highest tile-die temperature. -/
def Module.hottestDie (m : Module) : Int := (m.power.temps.take 16).foldl (fun a b => if a < b then b else a) (m.power.temps.headD 0)

/-- HOTTEST. -/
def hottest (t : Nat) (m : Module) : Module := m.smbus t (fun m => m.send (.smbus (toLe 2 (unsgn 16 m.hottestDie))))
/-- HOTTEST. -/
def execHottest (t : Nat) (s : State) : Host.Outcome State Fault Refusal := .next { s with m := hottest t s.m }

/-- CAP_LIMIT written: below the cap in force it is emergency cause 4, otherwise its step is scheduled with the lead of
R42 (19 R527, R528, R534). -/
def Module.setCapLimit (m : Module) (v : Nat) : Module :=
  if v = m.power.capLimit then m
  else
    let inForce := min m.power.cap m.power.limit
    let m := ({ m with power := { m.power with capLimit := v } }).unplace (fun a => a.kind == 1 && a.key == capLimitKey)
    let m := m.event 0x0011 5 v
    if !m.running then { m with power := { m.power with limit := v } }
    else if v < inForce then m.limitStep
    else m.place { kind := 1, key := capLimitKey, value := toLe 2 v, target := m.leadFrame }

/-- CAP_LIMIT: a read, or a write of 500, 650, 800 or 950 (19 R534). -/
def capLimit (t : Nat) (write : Option Nat) (m : Module) : Module := m.smbus t (fun m => match write with
  | none => m.send (.smbus (toLe 2 m.power.capLimit))
  | some v => if [500, 650, 800, 950].contains v then m.setCapLimit v else m.smbusNak)
/-- CAP_LIMIT. -/
def execCapLimit (t : Nat) (write : Option Nat) (s : State) : Host.Outcome State Fault Refusal := .next { s with m := capLimit t write s.m }

end Sys2Proof.Machine
end

