-- ==== Sys2Proof/Machine/Roce.lean ====
section
/-! DEFINITION. Meanings of the host-port rows (13 R366 to R383). -/

namespace Sys2Proof.Machine

/-! ## Packets -/

/-- ROCE_PACKET. -/
def rocePacket (t s : Nat) (pkt : RocePacket) (m : Module) : Module := (m.at t).rxPacket s pkt
/-- ROCE_PACKET. -/
def execRocePacket (t session : Nat) (pkt : RocePacket) (s : State) : Host.Outcome State Fault Refusal :=
  if (Instr.rocePacket t session pkt).wellFormed then .next { s with m := rocePacket t session pkt s.m } else .refused (.illFormed "ROCE_PACKET")

/-- ACK_DELAY_EXPIRY: no further packet for ACK_DELAY_NS (13 R372). -/
def ackDelayExpiry (t s : Nat) (m : Module) : Module :=
  let m := m.at t
  match m.session s with
  | some x => if x.state = 2 ∧ 0 < x.unacked then m.sendAck s else m
  | none => m
/-- ACK_DELAY_EXPIRY. -/
def execAckDelayExpiry (t session : Nat) (s : State) : Host.Outcome State Fault Refusal := .next { s with m := ackDelayExpiry t session s.m }

/-- LOCAL_ACK_TIMEOUT: the module's operations of a session are sent again, or the session enters ERROR (13 R373). -/
def localAckTimeout (t s : Nat) (m : Module) : Module := (m.at t).retry s
/-- LOCAL_ACK_TIMEOUT. -/
def execLocalAckTimeout (t session : Nat) (s : State) : Host.Outcome State Fault Refusal := .next { s with m := localAckTimeout t session s.m }

/-- RNR_RETRY: the RNR timer has expired; past the count that the host gave the session enters ERROR (13 R373). -/
def rnrRetry (t s : Nat) (m : Module) : Module :=
  let m := m.at t
  match m.session s with
  | some x =>
    if x.rnrTries = 0 ∨ x.txList.isEmpty then m
    else if x.rnrCount ≠ 7 ∧ x.rnrCount < x.rnrTries then m.sessionError s
    else m.resend s
  | none => m
/-- RNR_RETRY. -/
def execRnrRetry (t session : Nat) (s : State) : Host.Outcome State Fault Refusal := .next { s with m := rnrRetry t session s.m }

/-- CNP: a received CNP lowers the session's rate (13 R375). -/
def cnp (t s : Nat) (m : Module) : Module :=
  let m := m.at t
  match m.session s with
  | some x =>
    if !m.cfgB 0x4100 0x10 then m
    else (m.portCount x.port 9 1).onSession s (fun x => { x with rate := max (m.cfg 0x4100 0x12) (x.rate * 3 / 4), cnpSeen := m.clock.now })
  | none => m
/-- CNP. -/
def execCnp (t session : Nat) (s : State) : Host.Outcome State Fault Refusal := .next { s with m := cnp t session s.m }

/-- RATE_RECOVER: RATE_RECOVER_US with no CNP raise the rate (13 R375). -/
def rateRecover (t s : Nat) (m : Module) : Module :=
  let m := m.at t
  m.onSession s (fun x =>
    if x.cnpSeen + m.cfg 0x4100 0x13 * 1000 ≤ m.clock.now then { x with rate := min 200000 (x.rate + 6250), cnpSeen := m.clock.now } else x)
/-- RATE_RECOVER. -/
def execRateRecover (t session : Nat) (s : State) : Host.Outcome State Fault Refusal := .next { s with m := rateRecover t session s.m }

/-- PFC_FRAME: times in quanta of 512 bit times by priority; 0 resumes (13 R368). -/
def pfcFrame (t port : Nat) (times : List (Nat × Nat)) (m : Module) : Module :=
  let m := (m.at t).portCount port 7 1
  let enabled := m.cfgI 0x4100 0x0F port
  m.onHostPort port (fun h => { h with paused := times.foldl (fun l x =>
    if !enabled.testBit x.1 then l else if x.2 = 0 then mDel l x.1 else mPut l x.1 (m.clock.now + ceilDiv (256 * x.2) 100)) h.paused })
/-- PFC_FRAME. -/
def execPfcFrame (t : Nat) (port : Fin 4) (times : List (Nat × Nat)) (s : State) : Host.Outcome State Fault Refusal :=
  .next { s with m := pfcFrame t port.val times s.m }

/-- FCS_ERROR: a frame is dropped, oversize or with a bad FCS, or because the receive buffer is full; bytes is what its
priority holds in the buffer, corrected and bad what the FEC has corrected and could not correct since the last such frame
(13 R367, R368, Table 13-6). -/
def fcsError (t port bytes prio : Nat) (full : Bool) (corrected bad : Nat) (m : Module) : Module :=
  (((m.at t).portCount port (if full then 5 else 3) 1).bufferLevel port prio bytes).onHostPort port (fun h =>
    { h with fecOk := (h.fecOk + corrected) % 2 ^ 64, fecBad := (h.fecBad + bad) % 2 ^ 64 })
/-- FCS_ERROR. -/
def execFcsError (t : Nat) (port : Fin 4) (bytes prio : Nat) (full : Bool) (corrected bad : Nat) (s : State) : Host.Outcome State Fault Refusal :=
  .next { s with m := fcsError t port.val bytes prio full corrected bad s.m }

/-- The packets of an RDMA WRITE in sequence: PSN and payload. -/
def writePackets (port : Fin 4) (psn addr rkey : Nat) (data : Bytes) : List RocePacket :=
  let ps := if data.isEmpty then [[]] else chunks 4096 data
  (ps.zip (List.range ps.length)).map (fun p =>
    { port := port, op := .write (p.2 == 0) (p.2 + 1 == ps.length), psn := BitVec.ofNat 24 (psn + p.2), ackReq := p.2 + 1 == ps.length, ce := false
      addr := addr, rkey := rkey, len := data.length, payload := p.1 })

/-- HOST_RDMA_WRITE: a whole RDMA WRITE, its packets in sequence (13 R382). -/
def hostRdmaWrite (t s addr rkey : Nat) (data : Bytes) (m : Module) : Module :=
  let m := m.at t
  match m.session s with
  | none => m
  | some x => (writePackets (Fin.ofNat 4 x.port) x.rxPsn addr rkey data).foldl (fun (m : Module) k => m.rxPacket s k) m
/-- HOST_RDMA_WRITE. -/
def execHostRdmaWrite (t session addr rkey : Nat) (data : Bytes) (s : State) : Host.Outcome State Fault Refusal :=
  .next { s with m := hostRdmaWrite t session addr rkey data s.m }

/-- HOST_RDMA_READ: an RDMA READ request (13 R383). -/
def hostRdmaRead (t s addr rkey len psn : Nat) (m : Module) : Module :=
  let m := m.at t
  match m.session s with
  | none => m
  | some x => m.rxPacket s { port := Fin.ofNat 4 x.port, op := .read, psn := BitVec.ofNat 24 psn, ackReq := false, ce := false
                             addr := addr, rkey := rkey, len := len, payload := [] }
/-- HOST_RDMA_READ. -/
def execHostRdmaRead (t session addr rkey len psn : Nat) (s : State) : Host.Outcome State Fault Refusal :=
  .next { s with m := hostRdmaRead t session addr rkey len psn s.m }

/-! ## Sessions (13 R376, R377, R379) -/

/-- REQ: a session is set up, or the request rejected (13 R377). ip is the address it was sent to, in the form of
Table 16-6. -/
def req (t : Nat) (port ip qpn rnr : Nat) (request : Bytes) (m : Module) : Module :=
  let m := m.at t
  let e := m.reqCode port ip request
  if e ≠ 0 then m.send (.cm port 1 0 (toLe 4 e))
  else
    let w := leNat request
    let s := m.freeSession
    let x : Session := { typ := fld w 7 0, port := port, state := 1, v6 := ip / 2 ^ 32 != 0xFFFF, remoteQpn := qpn, resultAddr := fld w 319 256
                         rkey := fld w 255 224, slots := fld w 223 192, slotBytes := fld w 191 160, rnrCount := rnr }
    (m.setSession s x).send (.cm port 0 s (toLe 4 s ++ toLe 2 (if x.typ = 1 then x.kMax else 0) ++ zeros 26))
/-- REQ. -/
def execReq (t : Nat) (port : Fin 4) (ip qpn rnr : Nat) (request : Bytes) (s : State) : Host.Outcome State Fault Refusal :=
  .next { s with m := req t port.val ip qpn rnr request s.m }

/-- RTU: the session is in service (13 R377). -/
def rtu (t s : Nat) (m : Module) : Module := (m.at t).onSession s (fun x => if x.state = 1 then { x with state := 2 } else x)
/-- RTU. -/
def execRtu (t session : Nat) (s : State) : Host.Outcome State Fault Refusal := .next { s with m := rtu t session s.m }

/-- DREQ: the session ends; it is answered once its Store commands have left the range-lock table (13 R379, 15 R434). -/
def dreq (t s : Nat) (m : Module) : Module :=
  let m := m.at t
  match m.session s with
  | none => m
  | some x =>
    let m := m.endSession s
    if m.storeHeld s then m else (m.closeSession s).send (.cm x.port 2 s [])
/-- DREQ. -/
def execDreq (t session : Nat) (s : State) : Host.Outcome State Fault Refusal := .next { s with m := dreq t session s.m }

/-- The session that the request at the front of the queue would reset, when its checks pass. -/
def Module.resetAsked (m : Module) : Option Nat :=
  match m.vilur.queue with
  | [] => none
  | r :: _ => match m.client r with
    | none => none
    | some c =>
      if r.writes 0x4100 0x1E && !m.placing && (mGet c.kept r.seq).isNone && r.target == 0 && (m.writeCheck r c (r.value c)).1 == 0 then
        some (leNat (r.value c))
      else none

/-- A write of SESSION_RESET executes: the session is CLOSED (13 R379). -/
def Module.runSessionReset (m : Module) (r : VReq) (c : Client) : Module :=
  m.checked r c (fun m _ v => m.untargeted r (fun m => (m.closeSession (leNat v)).ack r m.clock.sfc))

/-- SESSION_RESET: the reply waits, and the request with it, until the session's Store commands have left the range-lock
table (13 R379, 15 R434). -/
def sessionReset (t : Nat) (m : Module) : Module :=
  let m := m.at t
  let m := match m.resetAsked with
    | some s => m.endSession s
    | none => m
  if m.resetAsked.any m.storeHeld then m else m.serve t (fun r _ => r.writes 0x4100 0x1E) Module.runSessionReset
/-- SESSION_RESET. -/
def execSessionReset (t : Nat) (s : State) : Host.Outcome State Fault Refusal := .next { s with m := sessionReset t s.m }

/-! ## Links and addresses (13 R366, R369, R370) -/

/-- LINK_DOWN_HOLD: the port's link has been down for LINK_DOWN_HOLD_MS (13 R370). -/
def linkDownHold (t port : Nat) (m : Module) : Module :=
  let m := m.at t
  let h := m.hostPort port
  if !h.linkUp && h.downSince.any (fun x => decide (x + m.cfg 0x4100 0x18 * 1000000 ≤ m.clock.now)) then
    (m.ports.sessions.filter (fun p => p.2.port == port)).foldl (fun (m : Module) p => m.sessionError p.1) m
  else m
/-- LINK_DOWN_HOLD. -/
def execLinkDownHold (t : Nat) (port : Fin 4) (s : State) : Host.Outcome State Fault Refusal := .next { s with m := linkDownHold t port.val s.m }

/-- HOST_LINK_CHANGE: a link comes up or goes down; one that goes down trains again while its port is enabled
(13 R366, R370). -/
def hostLinkChange (t port : Nat) (up : Bool) (m : Module) : Module :=
  let m := m.at t
  m.setHostLink port up (!up && (port == 4 || m.cfgI 0x4100 0x04 port != 0))
/-- HOST_LINK_CHANGE. -/
def execHostLinkChange (t : Nat) (port : Fin 5) (up : Bool) (s : State) : Host.Outcome State Fault Refusal :=
  .next { s with m := hostLinkChange t port.val up s.m }

/-- NEIGHBOUR_RESOLUTION: kind 0 an ARP request or neighbour solicitation for target, 1 the answer of a peer, 2 an echo
request (13 R369). -/
def neighbourResolution (t port kind target peer mac : Nat) (data : Bytes) (m : Module) : Module :=
  let m := m.at t
  match kind with
  | 0 => if m.ownAddress port target then m.send (.neighbour port 0 peer (toBe 6 (m.boot.macs.getD port 0))) else m
  | 1 => m.onHostPort port (fun h => { h with neigh := mPut h.neigh peer mac })
  | _ => if m.ownAddress port target then m.send (.neighbour port 2 peer data) else m
/-- NEIGHBOUR_RESOLUTION. -/
def execNeighbourResolution (t : Nat) (port : Fin 5) (kind : Fin 3) (target peer mac : Nat) (data : Bytes) (s : State) : Host.Outcome State Fault Refusal :=
  .next { s with m := neighbourResolution t port.val kind.val target peer mac data s.m }

/-! ## Memory windows (13 R381) -/

/-- A write of WINDOW executes (13 R381). -/
def Module.runWindow (m : Module) (r : VReq) (c : Client) : Module :=
  m.checked r c (fun m o v => m.untargeted r (fun m =>
    let i := c.inst o
    if i = 0 then m.refuse r 5
    else match recordWindow v with
      | none =>
        let m := { m with ports := { m.ports with windows := mDel m.ports.windows i } }
        (m.persist 0x4100 0x1C i (zeros 32)).ack r m.clock.sfc
      | some w =>
        if w.len % 4096 ≠ 0 ∨ w.base % 4096 ≠ 0 ∨ m.userRegion < w.base + w.len then m.refuse r 8
        else
          let w := { w with rkey := i * 2 ^ 24 + m.freeBits 24 }
          let m := { m.drawn with ports := { m.ports with windows := mPut m.ports.windows i w } }
          (m.persist 0x4100 0x1C i (m.windowRecord i)).ack r m.clock.sfc))

/-- WINDOW. -/
def window (t : Nat) (m : Module) : Module := m.serve t (fun r _ => r.writes 0x4100 0x1C) Module.runWindow
/-- WINDOW. -/
def execWindow (t : Nat) (s : State) : Host.Outcome State Fault Refusal := .next { s with m := window t s.m }

end Sys2Proof.Machine
end

