-- ==== Sys2Proof/Machine/Gate.lean ====
section
/-! DEFINITION. What a tick does to stream sets (08 R253, R255, R256, R257), and gate 1 with the tower frames that follow
it (04 R116, 14 R409). -/

namespace Sys2Proof.Machine

/-! ## Grants and parked contexts -/

/-- The sets whose contexts run: started, and not faulted. -/
def Module.liveSets (m : Module) : List Nat := (m.streams.sets.filter (fun p => p.2.state == 2 || p.2.state == 5)).map (·.1)

/-- A set's grant of frame n, less the debts (08 R253). -/
def Module.renewSet (m : Module) (id n : Nat) : Module :=
  let s := m.streamSet id
  let g := m.setGrant id s n
  (m.onSetCtxs s (fun c => { c with grant := g.1 - c.debt, debt := c.debt - g.1 })).onSet id (fun s => { s with bytesLeft := g.2 })

/-- A set with a debt above its whole grant of frame f faults GRANT_EXCEEDED (08 R253). -/
def Module.debtFault (m : Module) (f id : Nat) : Module :=
  let s := m.streamSet id
  let g := (m.setGrant id s f).1
  match s.tiles.find? (fun t => decide (g < (m.ctx t (armCtx s.header)).debt)) with
  | some t => m.faultSet id t (m.ctx t (armCtx s.header)).pc 12
  | none => m

/-- A FRAME_BOUND set with a context that has not parked or halted by the tick faults GRANT_EXCEEDED (08 R254). -/
def Module.boundFault (m : Module) (id : Nat) : Module :=
  let s := m.streamSet id
  match s.tiles.find? (fun t => (m.ctx t (armCtx s.header)).state == 1) with
  | some t => if armFrameBound s.header then m.faultSet id t (m.ctx t (armCtx s.header)).pc 12 else m
  | none => m

/-- One more tick for each context of a set that its marker holds (08 R255). -/
def Module.countHeld (m : Module) (id : Nat) : Module :=
  let s := m.streamSet id
  let k := armCtx s.header
  (s.tiles.filter (fun t => (m.ctx t k).state == 1 && !(m.ctx t k).depMet && (m.ctx t k).busy == 0)).foldl (fun (m : Module) t =>
    m.onCtx t k (fun c => { c with held := c.held + 1 })) m

/-- The parked contexts of a set restart at command 0, with counters reset unless the set keeps them (08 R256). -/
def Module.restartSet (m : Module) (id : Nat) (regs : Ctx → List (Nat × Nat)) : Module :=
  let s := m.streamSet id
  let k := armCtx s.header
  (s.tiles.filter (fun t => (m.ctx t k).state == 2)).foldl (fun (m : Module) t =>
    let m := if armKeep s.header then m else m.onTile t (fun x => { x with events := x.events.filter (fun p => !s.hasEvt p.1) })
    (m.onCtx t k (fun c => { c with state := 1, pc := 0, regs := regs c, depMet := false, held := 0, waitTick := none, rearm := none })).settle t) m

/-- The re-arms of a set whose tick has come wait at its contexts; the latest governs (08 R256, R257). -/
def Module.takeRearms (m : Module) (id n : Nat) : Module :=
  let s := m.streamSet id
  match (s.rearms.filter (fun r => decide (r.1 ≤ n))).getLast? with
  | none => m
  | some r => (m.onSetCtxs s (fun c => { c with rearm := some (baseRegs r.2) })).onSet id
      (fun s => { s with rearms := s.rearms.filter (fun r => decide (n < r.1)) })

/-- A persistent set that is no TOWER set, at tick n (08 R256). -/
def Module.persistentRestart (m : Module) (id n : Nat) : Module :=
  let s := m.streamSet id
  if !armPersistent s.header ∨ armTower s.header then m else (m.takeRearms id n).restartSet id (fun c => c.rearm.getD c.regs)

/-- Disarms, starts, renewed grants and restarts of tick n, in this order (08 R249, R253, R256, R258). -/
def Module.streamsTick (m : Module) (n : Nat) : Module :=
  let off := (m.streams.sets.filter (fun p => p.2.disarm.any (fun d => decide (d ≤ n)))).map (·.1)
  let m := off.foldl Module.disarmSet m
  let old := m.liveSets
  let on := sortBy (fun a b => decide (a.2.order ≤ b.2.order)) (m.streams.sets.filter (fun p => p.2.state == 1 && decide (p.2.armSfc ≤ n)))
  let m := on.foldl (fun (m : Module) p => m.startSet p.1) m
  let m := (m.liveSets.filter (fun i => !armTower (m.streamSet i).header)).foldl (fun (m : Module) i => m.renewSet i n) m
  let m := old.foldl Module.countHeld m
  old.foldl (fun (m : Module) i => m.persistentRestart i n) m

/-! ## Gate 1 and the tower frames -/

/-- A TOWER set takes what gate 1 charged for it in the frame, and restarts if a batch is in its tower frames
(08 R251, R256, R257). -/
def Module.towerRestart (m : Module) (id : Nat) : Module :=
  if !armTower (m.streamSet id).header then m
  else
    let m := m.renewSet id m.clock.sfc
    match m.towerRearm id with
    | none => m
    | some (i, o, f, c) =>
      let own (a : Nat) : Nat := 0xFF80000000000000 + a
      (m.onSet id (fun s => { s with towerFrame := f })).restartSet id (fun x =>
        mPutZ (mPutZ (mPutZ x.regs 13 (own i) 0) 14 (own o) 0) 15 (put f 32 32 + put c 32 0) 0)

/-- Gate 1 of the latest tick, if it can run, and the tower frames that begin once it has run. -/
def Module.gate (m : Module) : Module :=
  let x := m.runGate1
  if !m.search.gate1 && x.search.gate1 then x.liveSets.foldl Module.towerRestart x else x

end Sys2Proof.Machine
end

