-- ==== Sys2Proof/Machine/Search.lean ====
section
/-! DEFINITION. The meanings of the search rows that no cell carries (02 R12, R49, 04 R103, R104, R114, R117, 05 R144,
R149, R160, 14 R409, R412). -/

namespace Sys2Proof.Machine

/-- CHANGE_LIST_CLOSE (00 R12): at-tick writes acknowledged from now on go to the tick after the next. An entry that runs
towers sends their outputs now, before the tick (14 R412). -/
def changeListClose (m : Module) : Module :=
  let m := m.at (m.clock.tickTime m.clock.next - 4000)
  ({ m with clock := { m.clock with closed := true } }).sendTowers

/-- The meaning of CHANGE_LIST_CLOSE. -/
def execChangeListClose (s : State) : Host.Outcome State Fault Refusal := .next { s with m := changeListClose s.m }

/-- The meaning of DEFER_LIMIT_EXPIRY (02 R49). -/
def execDeferLimitExpiry (s : State) : Host.Outcome State Fault Refusal := .next { s with m := s.m.deferExpiry }

/-- The meaning of GATE_2 (04 R117): at depth 4 and above, the preparation and probe of the tower queries due now. -/
def execGate2 (s : State) : Host.Outcome State Fault Refusal := .next { s with m := (s.m.runGate2).prepareDue true }

/-- The meaning of CONTRIBUTION (05 R144). -/
def execContribution (query : Nat) (tile : Fin 512) (measured : List (Nat × Nat × Nat)) (s : State) : Host.Outcome State Fault Refusal :=
  .next { s with m := s.m.contribute query tile.val measured }

/-- The meaning of RERANK (05 R149). -/
def execRerank (query : Nat) (s : State) : Host.Outcome State Fault Refusal := .next { s with m := s.m.rerank query }

/-- COST_INTERVAL_CLOSE (04 R114): the active Lot's measurements are folded in. Intervals count from activation. -/
def costIntervalClose (m : Module) : Module :=
  let n := m.cfg 0x1200 0x05
  match m.lots.active with
  | none => m
  | some l =>
    if l.interval + n ≤ m.clock.sfc then
      m.onLot l.number (fun l => { l.foldFigures with interval := l.interval + (m.clock.sfc - l.interval) / n * n })
    else m

/-- The meaning of COST_INTERVAL_CLOSE. -/
def execCostIntervalClose (s : State) : Host.Outcome State Fault Refusal := .next { s with m := costIntervalClose s.m }

/-- A session is a READY QUERY session whose oldest message is, or is not, SET_DEFAULTS. -/
def Module.queryMessage (m : Module) (s : Nat) (defaults : Bool) : Option (Nat × Bytes) :=
  match m.session s with
  | none => none
  | some x => match x.unparsed with
    | [] => none
    | a :: _ => if x.typ = 1 ∧ x.state = 2 ∧ (decide (64 ≤ a.2.length) && msgOp a.2 == 2) = defaults then some a else none

/-- QUERY (04 R104): the oldest message of a QUERY session, when it is not SET_DEFAULTS. -/
def query (t s : Nat) (m : Module) : Module :=
  let m := m.at t
  match m.queryMessage s false, m.takeMessage s with
  | some a, some r => r.2.takeQuery s a.1 a.2
  | _, _ => m

/-- The meaning of QUERY. -/
def execQuery (t session : Nat) (s : State) : Host.Outcome State Fault Refusal := .next { s with m := query t session s.m }

/-- SET_DEFAULTS (04 R103): the oldest message of a QUERY session, when it is SET_DEFAULTS. -/
def setDefaults (t s : Nat) (m : Module) : Module :=
  let m := m.at t
  match m.queryMessage s true, m.takeMessage s with
  | some a, some r => r.2.takeDefaults s a.2
  | _, _ => m

/-- The meaning of SET_DEFAULTS. -/
def execSetDefaults (t session : Nat) (s : State) : Host.Outcome State Fault Refusal := .next { s with m := setDefaults t session s.m }

/-- The meaning of CASCADE_MERGE (05 R160). -/
def execCascadeMerge (t : Nat) (s : State) : Host.Outcome State Fault Refusal := .next { s with m := ((s.m.at t).dropLateCells).cascadeMerge }

/-- The meaning of BATCH_ACCEPT (14 R409): gate 1 runs once the last batch of the tick is decided. -/
def execBatchAccept (t entry group : Nat) (s : State) : Host.Outcome State Fault Refusal :=
  .next { s with m := (((s.m.at t).dropLateCells).acceptBatch entry group).gate }

/-- The meaning of TOWER_OUT_LATE (14 R412). -/
def execTowerOutLate (t : Nat) (s : State) : Host.Outcome State Fault Refusal := .next { s with m := ((s.m.at t).dropLateCells).towerLate }

end Sys2Proof.Machine
end

