-- ==== Sys2Proof/Machine/Security.lean ====
section
/-! DEFINITION. Meanings of the ownership, attestation, firmware and debug rows (17 R491 to R498, 19 R534). -/

namespace Sys2Proof.Machine

/-! ## The owner key (17 R493) -/

/-- The owner key changes: every Maintain unlock ends and one event is logged; the key is durable (17 R493). -/
def Module.setOwner (m : Module) (key : Bytes) : Module :=
  let m := { m with
    boot := { m.boot with ownerKey := key }
    vilur := { m.vilur with clients := m.vilur.clients.map (fun (c : Client) => { c with unlockEnd := none }) } }
  m.event 0x000D 2 m.ownerKeyId

/-- A write of OWNER_KEY_REPLACE executes (17 R493, R498). -/
def Module.runOwnerReplace (m : Module) (r : VReq) (c : Client) : Module :=
  m.checked r c (fun m _ v => m.untargeted r (fun m =>
    if m.boot.ownerKey.isEmpty then m.refuse r 67 else (m.setOwner v).ack r m.clock.sfc))

/-- OWNER_KEY_REPLACE. -/
def ownerKeyReplace (t : Nat) (m : Module) : Module := m.serve t (fun r _ => r.writes 0x5000 0x04) Module.runOwnerReplace
/-- OWNER_KEY_REPLACE. -/
def execOwnerKeyReplace (t : Nat) (s : State) : Host.Outcome State Fault Refusal := .next { s with m := ownerKeyReplace t s.m }

/-- A write of OWNER_CLEAR executes: 1 removes the key (17 R493, R498). -/
def Module.runOwnerClear (m : Module) (r : VReq) (c : Client) : Module :=
  m.checked r c (fun m _ v => m.untargeted r (fun m =>
    if m.boot.ownerKey.isEmpty then m.refuse r 67
    else (if v = [1] then m.setOwner [] else m).ack r m.clock.sfc))

/-- OWNER_CLEAR. -/
def ownerClear (t : Nat) (m : Module) : Module := m.serve t (fun r _ => r.writes 0x5000 0x05) Module.runOwnerClear
/-- OWNER_CLEAR. -/
def execOwnerClear (t : Nat) (s : State) : Host.Outcome State Fault Refusal := .next { s with m := ownerClear t s.m }

/-- KEY_RESULT takes a value and the chunks are discarded (19 R534). -/
def Module.keyDone (m : Module) (n : Nat) : Module := { m with power := { m.power with keyResult := n, chunks := [] } }

/-- OWNER_KEY_CHUNK: a block of 17 bytes, index and 16 key bytes (19 R534). -/
def ownerKeyChunk (t : Nat) (b : Bytes) (m : Module) : Module := m.smbus t (fun m =>
  if b.length ≠ 17 ∨ 121 < leAt b 0 1 then m.smbusNak
  else { m with power := { m.power with chunks := mPut m.power.chunks (leAt b 0 1) (b.drop 1) } })
/-- OWNER_KEY_CHUNK. -/
def execOwnerKeyChunk (t : Nat) (block : Bytes) (s : State) : Host.Outcome State Fault Refusal :=
  if (Instr.ownerKeyChunk t block).wellFormed then .next { s with m := ownerKeyChunk t block s.m } else .refused (.illFormed "OWNER_KEY_CHUNK")

/-- OWNER_KEY_COMMIT: a block of 8 bytes, the expected OWNER_KEY_ID (19 R534, 17 R493). -/
def ownerKeyCommit (t : Nat) (b : Bytes) (m : Module) : Module := m.smbus t (fun m =>
  if b.length ≠ 8 then m.smbusNak
  else
    let key := (m.power.chunks.map (·.2)).flatten
    if !m.boot.ownerKey.isEmpty then m.keyDone 2
    else if m.power.chunks.length ≠ 122 then m.keyDone 4
    else if m.boot.startState < 1 then m.keyDone 5
    else if keyId key ≠ b then m.keyDone 3
    else (m.setOwner key).keyDone 1)
/-- OWNER_KEY_COMMIT. -/
def execOwnerKeyCommit (t : Nat) (block : Bytes) (s : State) : Host.Outcome State Fault Refusal :=
  if (Instr.ownerKeyCommit t block).wellFormed then .next { s with m := ownerKeyCommit t block s.m } else .refused (.illFormed "OWNER_KEY_COMMIT")

/-- OWNER_CLEAR on the SMBus: byte 0xC5, honoured while RECOVERY_L is low (19 R534, 17 R493). -/
def smbusOwnerClear (t value : Nat) (m : Module) : Module := m.smbus t (fun m =>
  if value ≠ 0xC5 then m.smbusNak
  else if m.power.recoveryL then m.keyDone 7
  else if m.boot.startState < 1 then m.keyDone 5
  else (if m.boot.ownerKey.isEmpty then m else m.setOwner []).keyDone 6)
/-- OWNER_CLEAR on the SMBus. -/
def execSmbusOwnerClear (t value : Nat) (s : State) : Host.Outcome State Fault Refusal := .next { s with m := smbusOwnerClear t value s.m }

/-- KEY_RESULT. -/
def keyResult (t : Nat) (m : Module) : Module := m.smbus t (fun m => m.send (.smbus (toLe 1 m.power.keyResult)))
/-- KEY_RESULT. -/
def execKeyResult (t : Nat) (s : State) : Host.Outcome State Fault Refusal := .next { s with m := keyResult t s.m }

/-! ## Attestation and debug (17 R494, R495) -/

/-- The body of an attestation report, Table 17-7. -/
def Module.attestBody (m : Module) (nonce : Bytes) : Bytes :=
  let pending := (m.slotIn 3).isSome
  let flags := b2n (!m.boot.ownerKey.isEmpty) + put (b2n m.boot.debugged) 1 1 + put (b2n (m.boot.booted != m.boot.preferred)) 1 2
    + put (b2n pending) 1 3
  let lot := match m.lots.active with
    | some l => (l.number, match m.ro2000 0x0D with
      | some d => fit d 64
      | none => zeros 64)
    | none => (0, zeros 64)
  toLe 64 (0x0000_5454_4132_4E46 + put 1 16 64 + put flags 16 80 + put m.boot.serial 64 128 + put m.boot.version 32 192 + put m.boot.svn 32 224
    + put m.boot.minSvn 32 256 + put m.boot.bootCount 32 288 + put m.clock.sfc 64 320 + put m.clock.now 64 384 + put m.ownerKeyId 64 448)
  ++ fit nonce 32 ++ zeros 32 ++ fit m.boot.measurement 64 ++ (List.range 5).flatMap (fun i => fit (m.boot.comps.getD i []) 64)
  ++ toLe 4 lot.1 ++ zeros 28 ++ lot.2 ++ zeros 32

/-- The DIK's signature of a report body (17 R494, log 7). -/
def attestSign (body : Bytes) : Bytes := (List.range 3309).map (Config.dikSignByte body (ascii "FN2-ATTEST"))

/-- A write of ATTEST_REQUEST executes (17 R494). -/
def Module.runAttest (m : Module) (r : VReq) (c : Client) : Module :=
  m.checked r c (fun m _ v => m.untargeted r (fun m =>
    let b := m.attestBody v
    (m.onClient r (fun c => { c with attest := b ++ attestSign b })).ack r m.clock.sfc))

/-- ATTEST_REQUEST. -/
def attestRequest (t : Nat) (m : Module) : Module := m.serve t (fun r _ => r.writes 0x5000 0x08) Module.runAttest
/-- ATTEST_REQUEST. -/
def execAttestRequest (t : Nat) (s : State) : Host.Outcome State Fault Refusal := .next { s with m := attestRequest t s.m }

/-- A write of DEBUG_ENABLE executes (17 R495). -/
def Module.runDebug (m : Module) (r : VReq) (c : Client) : Module :=
  m.checked r c (fun m _ v => m.untargeted r (fun m =>
    let on := v == [1]
    ({ m with boot := { m.boot with debug := on, debugged := m.boot.debugged || on } }).ack r m.clock.sfc))

/-- DEBUG_ENABLE. -/
def debugEnable (t : Nat) (m : Module) : Module := m.serve t (fun r _ => r.writes 0x5000 0x10) Module.runDebug
/-- DEBUG_ENABLE. -/
def execDebugEnable (t : Nat) (s : State) : Host.Outcome State Fault Refusal := .next { s with m := debugEnable t s.m }

/-! ## Firmware update (17 R496, R497) -/

/-- The image that a FW_UPDATE argument names in the Store area, or none where a block of it cannot be read. -/
def Module.fwSource (m : Module) (off n : Nat) : Option Bytes :=
  if (m.cistern.badIn off n).isSome then none else some (m.cistern.read off n)

/-- A write of FW_UPDATE executes: the image is verified, and its write into the slot not booted from begins
(17 R496). -/
def Module.runFwUpdate (m : Module) (r : VReq) (c : Client) : Module :=
  m.checked r c (fun m _ v =>
    let off := leAt v 0 8
    let n := leAt v 8 8
    if !allZero (sub v 16 16) ∨ m.cfg 0x4300 0x03 < off + n then m.refuse r 8
    else m.untargeted r (fun m =>
      if m.boot.updateState = 1 ∨ m.boot.updateState = 2 then m.refuse r 66
      else match m.fwSource off n with
        | none => m.reply r 64 0 6 []
        | some b =>
          let e := m.imageCheck b
          if e = 5 then m.refuse r 65
          else if e ≠ 0 then m.reply r 64 0 e []
          else
            let m := m.onSlot (1 - m.boot.booted) (fun _ => {})
            ({ m with boot := { m.boot with updateState := 2, updateImage := b } }).ack r 0))

/-- FW_UPDATE. -/
def fwUpdate (t : Nat) (m : Module) : Module := m.serve t (fun r _ => r.writes 0x5000 0x0C) Module.runFwUpdate
/-- FW_UPDATE. -/
def execFwUpdate (t : Nat) (s : State) : Host.Outcome State Fault Refusal := .next { s with m := fwUpdate t s.m }

/-- FW_UPDATE_DONE: the image is written; when it reads back the slot is PENDING (17 R496). -/
def fwUpdateDone (t : Nat) (readBackOk : Bool) (m : Module) : Module :=
  let m := m.at t
  if m.boot.updateState ≠ 2 then m
  else if readBackOk then
    let m := m.onSlot (1 - m.boot.booted) (fun _ => { image := m.boot.updateImage, state := 3 })
    { m with boot := { m.boot with updateState := 3, updateImage := [] } }
  else { m with boot := { m.boot with updateState := 4, updateImage := [] } }
/-- FW_UPDATE_DONE. -/
def execFwUpdateDone (t : Nat) (readBackOk : Bool) (s : State) : Host.Outcome State Fault Refusal :=
  .next { s with m := fwUpdateDone t readBackOk s.m }

/-- A write of FW_COMMIT executes: 1 raises MIN_SVN to the running image's SVN (17 R497). -/
def Module.runFwCommit (m : Module) (r : VReq) (c : Client) : Module :=
  m.checked r c (fun m _ v => m.untargeted r (fun m =>
    if (m.slotIn 3).isSome then m.refuse r 66
    else
      let m := if v = [1] then ({ m with boot := { m.boot with minSvn := max m.boot.minSvn m.boot.svn } }).revokeSlots else m
      m.ack r m.clock.sfc))

/-- FW_COMMIT. -/
def fwCommit (t : Nat) (m : Module) : Module := m.serve t (fun r _ => r.writes 0x5000 0x0E) Module.runFwCommit
/-- FW_COMMIT. -/
def execFwCommit (t : Nat) (s : State) : Host.Outcome State Fault Refusal := .next { s with m := fwCommit t s.m }

end Sys2Proof.Machine
end

