-- ==== Sys2Proof/Machine/Start.lean ====
section
/-! DEFINITION. Meanings of the start rows (17 R479 to R487, R499, 18 R510 to R512). -/

namespace Sys2Proof.Machine

/-! ## Starts and resets -/

/-- START: the start that is due begins at module time t; with P54V and standby in their ranges it is a power-on
(17 R479, R482, 19 R522, R525). -/
def start (t mv : Nat) (torn : List Nat) (rimOk : Bool) (m : Module) : Module :=
  let m := if m.power.mainOn || !inRange54 m.power.p54 || m.power.tripped || !m.power.sbSince.any (fun x => decide (x + 100000000 ≤ t)) then m
    else m.mainRises
  match m.boot.nextCause with
  | none => m.at t
  | some c =>
    if !m.power.mainOn || !m.power.rstL then m.at t
    else ({ m with clock := { m.clock with now := t } }).startWith c mv torn rimOk
/-- START. -/
def execStart (t mv : Nat) (torn : List Nat) (rimOk : Bool) (s : State) : Host.Outcome State Fault Refusal :=
  .next { s with m := start t mv torn rimOk s.m }

/-- A write of RESET executes: 1 an orderly stop, 2 a reset at once; the reply goes first (17 R480). -/
def Module.runReset (us : Nat) (m : Module) (r : VReq) (c : Client) : Module :=
  m.checked r c (fun m _ v => m.untargeted r (fun m =>
    let m := m.ack r m.clock.sfc
    if leNat v = 2 then m.resetTo 1 us else m.requestStop (if (m.slotIn 3).isSome then 4 else 2) 0))

/-- ORDERLY_RESET. -/
def orderlyReset (t : Nat) (m : Module) : Module := m.serve t (fun r v => r.writes 0x5100 0x05 && v != [2]) (Module.runReset 0)
/-- ORDERLY_RESET. -/
def execOrderlyReset (t : Nat) (s : State) : Host.Outcome State Fault Refusal := .next { s with m := orderlyReset t s.m }

/-- IMMEDIATE_RESET. -/
def immediateReset (t us : Nat) (m : Module) : Module := m.serve t (fun r v => r.writes 0x5100 0x05 && v == [2]) (Module.runReset us)
/-- IMMEDIATE_RESET. -/
def execImmediateReset (t flushUs : Nat) (s : State) : Host.Outcome State Fault Refusal := .next { s with m := immediateReset t flushUs s.m }

/-- A write of FACTORY_RESET executes: an orderly stop, then erasure (17 R499). -/
def Module.runFactory (m : Module) (r : VReq) (c : Client) : Module :=
  m.checked r c (fun m _ v => m.untargeted r (fun m => (m.ack r m.clock.sfc).requestStop 2 (leNat v)))

/-- FACTORY_RESET. -/
def factoryReset (t : Nat) (m : Module) : Module := m.serve t (fun r _ => r.writes 0x5100 0x08) Module.runFactory
/-- FACTORY_RESET. -/
def execFactoryReset (t : Nat) (s : State) : Host.Outcome State Fault Refusal := .next { s with m := factoryReset t s.m }

/-- UNSPARABLE: a fault of R510 resets the module; cause 1, a tile without a spare, only once one is due (18 R510). -/
def unsparable (t cause us : Nat) (m : Module) : Module :=
  let m := m.at t
  if m.running && (cause != 1 || m.health.faultDue) then m.unsparableReset cause us else m
/-- UNSPARABLE. -/
def execUnsparable (t cause flushUs : Nat) (s : State) : Host.Outcome State Fault Refusal := .next { s with m := unsparable t cause flushUs s.m }

/-- CODE_CHECK: the digest of the supervisor's loaded code against D_2, which when it differs is unsparable; corrected
errors of its SRAM in the second are counted (18 R512). -/
def codeCheck (t : Nat) (digest : Bytes) (corrected us : Nat) (m : Module) : Module :=
  let m := m.at t
  if !m.running then m
  else if digest = m.boot.comps.getD 1 [] then m.count 0x6000 0x14 corrected
  else m.unsparableReset 3 us
/-- CODE_CHECK. -/
def execCodeCheck (t : Nat) (digest : Bytes) (corrected flushUs : Nat) (s : State) : Host.Outcome State Fault Refusal :=
  .next { s with m := codeCheck t digest corrected flushUs s.m }

/-- WATCHDOG: no service for WATCHDOG_MS resets the module (18 R512). -/
def watchdog (t us : Nat) (m : Module) : Module :=
  let m := m.at t
  if m.running then m.resetTo 3 us else m
/-- WATCHDOG. -/
def execWatchdog (t flushUs : Nat) (s : State) : Host.Outcome State Fault Refusal := .next { s with m := watchdog t flushUs s.m }

/-! ## Phase 4 (17 R485 to R487) -/

/-- STARTUP_LOT_LOAD: once phase 1 has ended, the committed Lot is loaded, or the previous one (17 R485). -/
def startupLotLoad (t : Nat) (m : Module) : Module :=
  let m := m.at t
  if m.boot.startState < 2 ∨ m.boot.startupTried ∨ !m.cfgB 0x5100 0x06 ∨ m.health.unsparable then m
  else
    let m := { m with boot := { m.boot with startupTried := true } }
    if m.lots.committed = 0 then m
    else (match m.startupLoad m.lots.committed 2 with
      | some x => x
      | none => m.startupFallback).notePhase
/-- STARTUP_LOT_LOAD. -/
def execStartupLotLoad (t : Nat) (s : State) : Host.Outcome State Fault Refusal := .next { s with m := startupLotLoad t s.m }

/-- STARTUP_LOT_SWITCH: a stand-alone module switches to its staged start-up Lot itself (17 R486). -/
def startupLotSwitch (t : Nat) (m : Module) : Module :=
  let m := m.at t
  if !m.boot.startupSwitch ∨ m.inCascadeConfig then m
  else
    let m := { m with boot := { m.boot with startupSwitch := false } }
    match m.lots.staged with
    | some l => if l.number = m.boot.startupLot then m.ownSwitch l.number else m
    | none => m
/-- STARTUP_LOT_SWITCH. -/
def execStartupLotSwitch (t : Nat) (s : State) : Host.Outcome State Fault Refusal := .next { s with m := startupLotSwitch t s.m }

/-- A single-module switch of another module, as if a host had written it (17 R486, 06 R172). -/
def Module.switchMember (m : Module) (x : MemberLot) : Module :=
  let a : Action := { kind := 5, arg := x.committed, target := m.leadFrame, host := true, seq := m.nextSeq }
  let tag := m.cascade.nextTag
  let p : Placement := { tag := tag, action := a, targets := [x.device], sent := m.clock.now }
  ({ m with
      nextSeq := (m.nextSeq + 1) % 2 ^ 32
      cascade := { m.cascade with nextTag := (tag + 1) % 2 ^ 48, placements := m.cascade.placements ++ [p] } }).sendSched x.device tag a 0

/-- MASTER_STARTUP_CHECK: in cascade frames the master switches each member, itself among them, that has its committed
Lot staged and no active Lot (17 R486). members are the other modules as remote access reads them. -/
def masterStartupCheck (t : Nat) (members : List MemberLot) (m : Module) : Module :=
  let m := m.at t
  if !m.isMaster ∨ m.cascade.state ≠ 2 then m
  else
    let due (x : MemberLot) : Bool := x.committed != 0 && x.staged == x.committed && x.active == 0
    let m := if due m.ownMember && !m.switchPending && !m.health.unsparable && !m.hostFull then
        m.place { kind := 5, arg := m.lots.committed, target := m.leadFrame, host := true }
      else m
    (members.filter (fun x => due x && x.device != m.device && m.mates.contains x.device
      && !m.cascade.placements.any (fun p => p.action.kind == 5 && p.targets.contains x.device))).foldl Module.switchMember m
/-- MASTER_STARTUP_CHECK. -/
def execMasterStartupCheck (t : Nat) (members : List MemberLot) (s : State) : Host.Outcome State Fault Refusal :=
  .next { s with m := masterStartupCheck t members s.m }

/-- One table with a restore record: staged at its recorded addresses, filled by its loads, and switched in (17 R487). -/
def Module.restoreTable (m : Module) (t : Nat) (x : Table) : Option Module :=
  match x.restore with
  | none => none
  | some d =>
    if !x.restoreOk ∨ tabModules d ≠ 1 then none
    else (m.stageTable d).map (fun m =>
      let m := x.restoreLoads.foldl (fun (m : Module) l => m.loadTable t l.1 l.2.1 l.2.2) m
      m.place { kind := 6, arg := t * 2 ^ 32 + tabVersion d, target := m.leadFrame })

/-- TABLE_RESTORE: in phase 4, once, each table with a valid restore record (17 R487). -/
def tableRestore (t : Nat) (m : Module) : Module :=
  let m := m.at t
  if m.boot.startState < 2 ∨ m.boot.tablesTried then m
  else
    let want := m.tables.tables.filter (fun p => p.2.restore.isSome)
    let m := { m with boot := { m.boot with tablesTried := true } }
    want.foldl (fun (m : Module) p =>
      let r := if m.cfgB 0x5100 0x07 then m.restoreTable p.1 p.2 else none
      match r with
      | some x => { x with boot := { x.boot with restored := x.boot.restored + 1 } }
      | none => { m with boot := { m.boot with notRestored := m.boot.notRestored + 1 } }) m
/-- TABLE_RESTORE. -/
def execTableRestore (t : Nat) (s : State) : Host.Outcome State Fault Refusal := .next { s with m := tableRestore t s.m }

end Sys2Proof.Machine
end

