-- ==== Sys2Proof/Machine/Store.lean ====
section
/-! DEFINITION. Meanings of the Store and hold-up rows (15 R421 to R444). -/

namespace Sys2Proof.Machine

/-! ## Store commands -/

/-- A READY STORE session whose oldest message is, or is not, a STORE_WRITE. -/
def Module.storeMessage (m : Module) (s : Nat) (write : Bool) : Option Session :=
  match m.session s with
  | none => none
  | some x => match x.unparsed with
    | [] => none
    | a :: _ => if x.typ = 2 ∧ x.state = 2 ∧ (a.2.length == 64 && scOp a.2 == 0x21) = write then some x else none

/-- The oldest message of a STORE session is taken, when it is of the kind asked for. -/
def Module.storeArrives (m : Module) (s : Nat) (write : Bool) (bad : List Nat) : Module :=
  match m.storeMessage s write, m.takeMessage s with
  | some x, some r => r.2.takeStore s x r.1.2 bad
  | _, _ => m

/-- STORE_READ (15 R425 to R429): the oldest message of a STORE session, when it is no STORE_WRITE; bad are
the blocks that stay uncorrectable. -/
def storeRead (t s : Nat) (bad : List Nat) (m : Module) : Module := (m.at t).storeArrives s false bad
/-- STORE_READ. -/
def execStoreRead (t session : Nat) (bad : List Nat) (s : State) : Host.Outcome State Fault Refusal :=
  .next { s with m := storeRead t session bad s.m }

/-- STORE_WRITE (15 R425, R426, R430): the oldest message of a STORE session, when it is a STORE_WRITE. -/
def storeWrite (t s : Nat) (m : Module) : Module := (m.at t).storeArrives s true []
/-- STORE_WRITE. -/
def execStoreWrite (t session : Nat) (s : State) : Host.Outcome State Fault Refusal := .next { s with m := storeWrite t session s.m }

/-- STORE_DATA_FETCHED (15 R430): the whole data of a write that is being fetched. -/
def storeDataFetched (t id : Nat) (data : Bytes) (m : Module) : Module :=
  let m := m.at t
  match m.storeCmd id with
  | none => m
  | some c => if c.fetching && data.length == scLen c.cmd then (m.storeFetched c data).storeSettle else m
/-- STORE_DATA_FETCHED. -/
def execStoreDataFetched (t cmd : Nat) (data : Bytes) (s : State) : Host.Outcome State Fault Refusal :=
  .next { s with m := storeDataFetched t cmd data s.m }

/-- RANGE_LOCK_RELEASE (15 R427, R428): the completion of a command is posted. -/
def rangeLockRelease (t id : Nat) (m : Module) : Module :=
  let m := m.at t
  match m.storeCmd id with
  | none => m
  | some c => m.releaseCmd c
/-- RANGE_LOCK_RELEASE. -/
def execRangeLockRelease (t cmd : Nat) (s : State) : Host.Outcome State Fault Refusal := .next { s with m := rangeLockRelease t cmd s.m }

/-- WRITE_CACHE_DRAIN (15 R430, R431, R433, R437): the oldest write is programmed, which leaves permille spare blocks. -/
def writeCacheDrain (t permille : Nat) (m : Module) : Module :=
  let m := m.at t
  if m.cistern.cache.isEmpty then m else m.drainOldest.wear permille
/-- WRITE_CACHE_DRAIN. -/
def execWriteCacheDrain (t permille : Nat) (s : State) : Host.Outcome State Fault Refusal :=
  .next { s with m := writeCacheDrain t permille s.m }

/-- A write of STORE_AREA_BYTES executes (15 R421). -/
def Module.runStoreArea (m : Module) (r : VReq) (c : Client) : Module :=
  m.checked r c (fun m o v =>
    let n := leNat v
    if cisternUser < cisternSystem + n + m.libraryUsed then m.refuse r 8
    else m.untargeted r (fun m =>
      if m.storeOpen then m.refuse r 49
      else ({ m.setNow o 0 v with cistern := m.cistern.cut n }).ack r m.clock.sfc))

/-- STORE_AREA_BYTES. -/
def storeAreaBytes (t : Nat) (m : Module) : Module := m.serve t (fun r _ => r.writes 0x4300 0x03) Module.runStoreArea
/-- STORE_AREA_BYTES. -/
def execStoreAreaBytes (t : Nat) (s : State) : Host.Outcome State Fault Refusal := .next { s with m := storeAreaBytes t s.m }

/-! ## The hold-up bank -/

/-- The charger holds the target, and the state is FULL: a test that is due runs (15 R443). -/
def Module.testGate (m : Module) : Module :=
  let h := m.holdup
  { m with holdup := { h with testing := h.due && h.state == 2 && h.atTarget && !h.charging && !h.stopped } }

/-- JOURNAL_LIMIT_UPDATE: the bank and cell voltages as measured (15 R436, R442). -/
def journalLimitUpdate (t mv : Nat) (cells : List Nat) (m : Module) : Module :=
  let m := m.at t
  let m := { m with holdup := { m.holdup with voltage := mv, volts := cells } }
  (m.evaluateBank.admitJournal.storeSettle).testGate
/-- JOURNAL_LIMIT_UPDATE. -/
def execJournalLimitUpdate (t mv : Nat) (cells : List Nat) (s : State) : Host.Outcome State Fault Refusal :=
  if (Instr.journalLimitUpdate t mv cells).wellFormed then .next { s with m := journalLimitUpdate t mv cells s.m }
  else .refused (.illFormed "JOURNAL_LIMIT_UPDATE")

/-- BANK_AT_TARGET: the charger holds the target; the first time since the start a test falls due (15 R440, R443). -/
def bankAtTarget (t : Nat) (m : Module) : Module :=
  let m := m.at t
  let h := m.holdup
  if h.stopped then m
  else { m with holdup := { h with charging := false, atTarget := true, due := h.due || !h.atTarget } }.testGate
/-- BANK_AT_TARGET. -/
def execBankAtTarget (t : Nat) (s : State) : Host.Outcome State Fault Refusal := .next { s with m := bankAtTarget t s.m }

/-- TEST_INTERVAL: TEST_INTERVAL_S after the last test the next falls due (15 R443). -/
def testInterval (t : Nat) (m : Module) : Module :=
  let m := m.at t
  if m.holdup.atTarget ∧ m.holdup.lastTestAt + m.cfg 0x4400 0x0D * 1000000000 ≤ m.clock.now then
    { m with holdup := { m.holdup with due := true } }.testGate
  else m
/-- TEST_INTERVAL. -/
def execTestInterval (t : Nat) (s : State) : Host.Outcome State Fault Refusal := .next { s with m := testInterval t s.m }

/-- A write of TEST_NOW executes (15 R443). -/
def Module.runTestNow (m : Module) (r : VReq) (c : Client) : Module :=
  m.checked r c (fun m _ _ => m.untargeted r (fun m =>
    ({ m with holdup := { m.holdup with due := true } }.testGate).ack r m.clock.sfc))

/-- TEST_NOW. -/
def testNow (t : Nat) (m : Module) : Module := m.serve t (fun r _ => r.writes 0x4400 0x0E) Module.runTestNow
/-- TEST_NOW. -/
def execTestNow (t : Nat) (s : State) : Host.Outcome State Fault Refusal := .next { s with m := testNow t s.m }

/-- BANK_TEMPERATURE_CHANGE: the cell target, HOT, and the charger (15 R441). -/
def bankTemperatureChange (t : Nat) (temp : Int) (m : Module) : Module :=
  let m := m.at t
  let h := { m.holdup with temp := temp, hot := decide (550 < temp), stopped := decide (700 < temp) }
  let h := { h with charging := !h.stopped && m.power.pwrgd && (m.holdup.charging || decide (m.holdup.target < h.target) || m.holdup.stopped)
                                  && decide (h.voltage < h.target) }
  ({ m with holdup := h, power := { m.power with temps := m.power.temps.set 19 temp } }).testGate
/-- BANK_TEMPERATURE_CHANGE. -/
def execBankTemperatureChange (t : Nat) (temp : Int) (s : State) : Host.Outcome State Fault Refusal :=
  .next { s with m := bankTemperatureChange t temp s.m }

/-- C_i in mF of a cell whose voltage fell from a to b mV: 0.1 / dV farads; where it did not fall the spec states no
value, and a free value stands (15 R443). -/
def cellMeasured (free a b : Nat) : Nat := if a ≤ b then free else 100000 / (a - b)

/-- The cells after a test: those in the series string as measured, the others as they were (15 R443). -/
def Holdup.measure (h : Holdup) (word : Nat) (before after : List Nat) : List Nat :=
  (List.range 13).map (fun i => if h.map.getD i 1 = 0 then cellMeasured (word / 2 ^ (32 * i) % 2 ^ 32) (before.getD i 0) (after.getD i 0) else h.caps.getD i 0)

/-- The cells in service with their capacitances. -/
def Holdup.serving (h : Holdup) : List (Nat × Nat) := (((List.range 13).zip h.caps).filter (fun p => h.map.getD p.1 1 == 0))

/-- Twice the median of a list. -/
def median2 (l : List Nat) : Nat :=
  let s := sortBy (fun a b => decide (a ≤ b)) l
  s.getD ((s.length - 1) / 2) 0 + s.getD (s.length / 2) 0

/-- The cells in service that the latest test puts below CELL_RATIO_PCT per cent of the median, weakest first
(18 R500). -/
def Holdup.weak (h : Holdup) (pct : Nat) : List Nat :=
  let c := h.serving
  let md := median2 (c.map (·.2))
  (sortBy (fun a b => decide (a.2 ≤ b.2)) (c.filter (fun p => decide (200 * p.2 < pct * md)))).map (·.1)

/-- A weak cell: the spare cell is planned in its place, or CELL_FAULT is set (18 R500). -/
def Module.planCell (m : Module) (cell : Nat) : Module :=
  if m.cutPending 5 cell then m
  else match (List.range 13).find? (fun i => m.holdup.map.getD i 0 == 1 &&
      !(m.schedule ++ m.health.waiting).any (fun a => a.kind == 4 && partKind a.part == 5 && partSpare a.part == i)) with
    | some s => m.planned 5 cell s
    | none => { m with holdup := { m.holdup with cellFault := true } }

/-- Table 15-5 of a test. -/
def Holdup.testRecord (h : Holdup) (sfc esr : Nat) : Nat :=
  let c := h.serving
  let least := listMin 0 (c.map (·.2))
  let cell := match c.find? (fun p => p.2 == least) with
    | some p => p.1
    | none => 0
  put cell 8 56 + put least 32 64 + put h.rated 32 96 + put esr 32 128
    + put (bankCap h.caps h.map * 1000).floor.toNat 32 160 + put sfc 64 192

/-- CAPACITANCE_TEST: a test that is due, while it may run, ends with these cell voltages and this ESR (15 R443, R444,
18 R500). -/
def capacitanceTest (t : Nat) (before after : List Nat) (esr : Nat) (m : Module) : Module :=
  let m := m.at t
  if !m.holdup.testing then m
  else
    let caps := m.holdup.measure (Config.freeValue m.fresh) before after
    let m := if ((List.range 13).any (fun i => m.holdup.map.getD i 1 == 0 && decide (before.getD i 0 ≤ after.getD i 0))) then m.drawn else m
    let rated := (bankEnergy (bankCap caps m.holdup.map) 30000 1000).floor.toNat
    let old := m.holdup.endOfLife
    let h := { m.holdup with caps := caps, rated := rated, due := false, testing := false, lastTestAt := m.clock.now
                             testsRun := m.holdup.testsRun + 1, endOfLife := old || decide (rated < 40000) }
    let m := { m with holdup := { h with lastTest := h.testRecord m.clock.sfc esr } }
    let m := if h.endOfLife && !old then m.event 0x000C 2 rated else m
    (m.holdup.weak (m.cfg 0x6000 0x0F)).foldl Module.planCell m
/-- CAPACITANCE_TEST. -/
def execCapacitanceTest (t : Nat) (before after : List Nat) (esr : Nat) (s : State) : Host.Outcome State Fault Refusal :=
  if (Instr.capacitanceTest t before after esr).wellFormed then .next { s with m := capacitanceTest t before after esr s.m }
  else .refused (.illFormed "CAPACITANCE_TEST")

end Sys2Proof.Machine
end

