-- ==== Sys2Proof/Machine/Tables.lean ====
section
/-! DEFINITION. The meanings of the look-up rows that no cell carries (10 R290, R291, R294, R297). -/

namespace Sys2Proof.Machine

/-- LOOKUP_OWNER_POOL (10 R290): nothing issues on a quarantined tile (18 R504). -/
def lookupOwnerPool (t : Nat) (m : Module) : Module := if (m.tileHealth t).state = 1 then m else m.ownerPool t

/-- The meaning of LOOKUP_OWNER_POOL. -/
def execLookupOwnerPool (tile : Fin 512) (s : State) : Host.Outcome State Fault Refusal := .next { s with m := lookupOwnerPool tile.val s.m }

/-- LOOKUP_COMBINE (10 R291). -/
def lookupCombine (t : Nat) (m : Module) : Module := if (m.tileHealth t).state = 1 then m else m.lkCombine t

/-- The meaning of LOOKUP_COMBINE. -/
def execLookupCombine (tile : Fin 512) (s : State) : Host.Outcome State Fault Refusal := .next { s with m := lookupCombine tile.val s.m }

/-- The meaning of LOOKUP_INCOMPLETE (10 R294). -/
def execLookupIncomplete (s : State) : Host.Outcome State Fault Refusal := .next { s with m := s.m.lkOverdue }

/-- The meaning of HOT_ROW_REFRESH (10 R297). -/
def execHotRowRefresh (s : State) : Host.Outcome State Fault Refusal := .next { s with m := s.m.hotRefresh }

end Sys2Proof.Machine
end

