-- ==== Sys2Proof/Machine/TickOps.lean ====
section
/-! DEFINITION. The parts of a tick (02 R41): the end of a frame (R47), the next instant of the grid (R30, R44), the
scheduled actions of each KIND, attribute words (03 R76, R78), the link graph and cascade frames (14 R396, R399), and the
batches and beacons that follow. -/

namespace Sys2Proof.Machine

/-! ## Whether a tick falls, and when (02 R30, R32, R55) -/

/-- The module ticks: it serves or waits for time, and its time is LOCKED or FREE, or it has ticked before. -/
def Module.mayTick (m : Module) : Bool :=
  m.running && decide (2 ≤ m.boot.startState) && (m.clock.ticked || m.clock.timeState == 2 || m.clock.timeState == 4)

/-- The grid moves to its next tick: the next SFC of the base triple, or of the master's where it is to be adopted
(02 R30, R32, R59). -/
def Clock.advance (c : Clock) : Clock :=
  match c.adopt with
  | some (b, t, p, d) =>
    { c with baseSfc := b, baseNs := t, period := p, depth := d, adopt := none, ticked := true, closed := false
             sfc := max c.sfc (if p = 0 then b else b + (c.now - t) / p) }
  | none => { c with sfc := c.next, ticked := true, closed := false }

/-! ## The end of a frame (02 R47, 04 R116, 11 R314, 14 R409, R412) -/

/-- What frame f still owes at its end: deadlines of its tick, undecided batches and gate 1, late towers. -/
def Module.endFrame (m : Module) : Module :=
  let m := m.jobs.jobs.foldl (fun (m : Module) p => m.deadlineAct p.1) m
  let m := if m.search.gate1 then m
    else ((m.cascade.batches.filter (fun b => b.sfc == m.clock.sfc && m.receives b && b.verdict == 0)).foldl Module.decideBatch m).gate
  m.towerLate

/-- A stage of a query that was due by frame f is not finished, or its tower has faulted (02 R47, 08 R254). -/
def Module.unfinished (m : Module) (f : Nat) (q : Query) : Bool :=
  (q.stage == 0 && decide (probeFrame q.start q.depth ≤ f)) || (q.stage == 1 && decide (scanFrame q.start q.depth ≤ f))
    || (q.stage == 2 && decide (rerankFrame q.start q.depth ≤ f))
    || (q.stage == 0 && q.params.tower != 0xFF && !q.staged && (m.streamSet (towerStream q.desc)).state == 4)

/-- Pipeline work of frame f that is unfinished at its end is stopped: its queries are affected, and their partial results
are discarded (02 R47, R50). -/
def Module.overrun (m : Module) (f : Nat) : Module :=
  if !m.search.live.any (m.unfinished f) then m
  else
    let live := m.search.live.map (fun q => if m.unfinished f q then { q with stage := 4, due := [], base := [], wide := [] } else q)
    (({ m with search := { m.search with live := live } }).count 0x1100 0x1A 1).event 0x0001 1 f

/-! ## KIND 1 to 3 (02 R41, R44 to R46, R60) -/

/-- KIND 1: the caps and the emergency step as applied, and the step in force (19 R527). -/
def Module.applySteps (m : Module) (acts : List Action) : Module :=
  let b := acts.foldl StepBase.apply m.stepBase
  let back := acts.any (fun a => a.key == emergencyKey && leNat a.value == 0)
  { m with
    clock := { m.clock with step := b.step }
    power := { m.power with cap := b.cap, limit := b.limit, emergency := b.emergency, restoreDue := m.power.restoreDue && !back } }

/-- An object is one that the row of the profile in force sets (02 R60). -/
def Module.inProfile (m : Module) (key : Nat) : Bool :=
  key == odKey 0x1100 0x01 0 || (key == odKey 0x1100 0x02 0 && decide (m.clock.profile ≤ 1))
    || (profileValue m.clock.profile (key / 2 ^ 24) (key / 2 ^ 16 % 256)).isSome && key % 2 ^ 16 == 0

/-- The objects of a profile's row but the frame shape, with their lengths (02 Table 02-7). -/
def profileObjs : List (Nat × Nat × Nat) :=
  [(0x2000, 0x11, 1), (0x1200, 0x04, 1), (0x2100, 0x06, 1), (0x2200, 0x07, 2), (0x3000, 0x01, 1), (0x3300, 0x01, 1)]

/-- KIND 3: the values of the profile's row (02 R60). -/
def Module.applyProfile (m : Module) (p : Nat) : Module :=
  let m := { m with clock := { m.clock with profile := p, profileModified := false } }
  profileObjs.foldl (fun (m : Module) o => match profileValue p o.1 o.2.1 with
    | some v => m.setCfg o.1 o.2.1 0 (toLe o.2.2 v)
    | none => m) m

/-- KIND 2 and 3 of tick n, in their order: depth, profile, and a grid re-based where the period or the epoch changes
(02 R44, R45, R60). A member makes its copies durable here. -/
def Module.applyShape (m : Module) (n : Nat) (acts : List Action) : Module :=
  let member := m.inCascadeConfig && m.device != 0
  let m := if acts.any Action.reshapes then
      let g := m.clock.grid.reshape n (shapeOf acts m.clock.grid)
      { m with clock := { m.clock with baseSfc := g.sfc, baseNs := g.ns, period := g.period, epoch := g.epoch } }
    else m
  acts.foldl (fun (m : Module) a =>
    let m := if member then m.persistAction a else m
    if a.kind = 3 then
      let m := { m with clock := { m.clock with depth := profileDepth (leNat a.value) m.clock.depth } }
      m.applyProfile (leNat a.value)
    else
      let m := if a.key = odKey 0x1100 0x02 0 then { m with clock := { m.clock with depth := leNat a.value } } else m
      if m.inProfile a.key then { m with clock := { m.clock with profileModified := true } } else m) m

/-! ## KIND 4 and 5 (18 R501, R506, R509, 06 R171, 17 R485) -/

/-- KIND 4: one epoch for the tick, then each cut-over; the Pattern Book shows tiles and lanes (16 R474). -/
def Module.applyCutovers (m : Module) (acts : List Action) : Module :=
  let m := acts.foldl Module.cutover (m.raiseEpoch acts)
  if acts.any (fun a => decide (partKind a.part ≤ 1) || partKind a.part == 4) then { m with vilur := { m.vilur with bookDirty := true } } else m

/-- KIND 5: a Lot switch, and the outcome of the start-up Lot with it. -/
def Module.applySwitch (m : Module) (n : Nat) (a : Action) : Module :=
  let start := a.arg != 0 && a.arg == m.boot.startupLot && m.boot.startupResult == 0 && m.switchOk a.arg
  let res := if a.arg = m.lots.committed then 1 else 2
  let m := m.switchLot a.arg n
  if start then { m with boot := { m.boot with startupResult := res } } else m

/-! ## KIND 0 (02 R41, 00 R14) -/

/-- A new device number or cascade: the own state leaves its old number, and every link that meets its neighbour is
judged again (14 R391, R395). -/
def Module.renumbered (m : Module) (old : Nat) : Module :=
  let drop (l : List (Nat × NodeState)) := if old = m.device then l else mDel l old
  let m := { m with cascade := { m.cascade with nodes := drop m.cascade.nodes, known := drop m.cascade.known } }
  let m := (List.range 12).foldl (fun (m : Module) p =>
    let l := m.linkPort p
    if l.state = 4 then (m.linkTo p 2).sendLink p [] 0
    else if l.state = 3 then (if m.linkVerdict l = 4 then m.linkTo p 4 else m).sendLink p [] 0
    else m) m
  m.originate

/-- One plain value: a command's own entry only leaves the schedule; a value is put in force, with what it sets off
(00 R14, 02 R51, 11 R312, 18 R516). -/
def Module.applyValue (m : Module) (n : Nat) (a : Action) : Module :=
  let idx := a.key / 2 ^ 24
  let s := a.key / 2 ^ 16 % 256
  match findObj idx s with
  | none => m
  | some o =>
    if idx = 0x6100 ∧ s = 0x04 then (if leNat a.value = 1 then m.armInjectors n else m.disarmInjectors 1)
    else if o.access = 3 then m
    else if idx = 0x6100 ∧ s = 0x02 then m.setInjectors false a.value
    else if idx = 0x6100 ∧ s = 0x03 then m.setInjectors true a.value
    else
      let dev := m.device
      let was := m.cfgBytes idx s 0
      let m := m.setCfg idx s (a.key % 2 ^ 16) a.value
      let m := if m.inProfile a.key then { m with clock := { m.clock with profileModified := true } } else m
      if idx = 0x1100 ∧ s = 0x07 ∧ leNat a.value = 2 then m.setTimeState 4
      else if idx = 0x4200 ∧ s ≤ 0x02 ∧ was ≠ a.value then m.renumbered dev
      else m

/-- JOBS_ENABLE 0 stops every running job at the end of its step (11 R312). -/
def Module.jobsOff (m : Module) : Module :=
  if m.cfgB 0x3300 0x01 then m
  else { m with jobs := { m.jobs with jobs := m.jobs.jobs.map (fun p => if p.2.state = 2 then (p.1, { p.2 with stopping := true }) else p) } }

/-! ## All actions of a tick (02 R41) -/

/-- The actions of tick n leave the schedule and apply, KIND 1 to 7 and then KIND 0; a deadline stays for its own row
until the tick after. -/
def Module.applyActions (m : Module) (n : Nat) : Module :=
  let acts := m.actionsTo n
  let of (k : Nat) := acts.filter (fun a => a.kind == k)
  let need := m.cfgB 0x2000 0x11
  let m := m.unplace (fun a => decide (a.target < n ∨ (a.target = n ∧ a.kind ≠ 8)))
  let m := m.applySteps (of 1)
  let m := m.applyShape n (of 2 ++ of 3)
  let m := m.applyCutovers (of 4)
  let m := (of 5).foldl (fun (m : Module) a => m.applySwitch n a) m
  let m := (of 6).foldl (fun (m : Module) a => m.switchTable (a.arg / 2 ^ 32) (a.arg % 2 ^ 32)) m
  let m := (of 7).foldl (fun (m : Module) _ => m.hotFlip) m
  let m := ((of 0).foldl (fun (m : Module) a => m.applyValue n a) m).jobsOff
  let far := match m.lots.active with
    | some l => l.nonresident
    | none => 0
  if !need && m.cfgB 0x2000 0x11 && far != 0 then m.event 0x0003 4 far else m

/-! ## Lots at a tick (03 R76, R78, R79, 04 R115) -/

/-- Old words that no query in flight can still see are discarded (03 R78). -/
def Module.trimHistory (m : Module) : Module :=
  { m with lots := { m.lots with history := m.lots.history.filter (fun h => m.search.live.any (fun q => decide (q.attrFrame < h.tick))) } }

/-- One attribute word takes effect at tick n (03 R76, R78). -/
def Module.applyWord (m : Module) (n : Nat) (w : PendWord) : Module :=
  match m.lotOf w.lot with
  | none => m
  | some l =>
    let old : OldWord := { tick := n, lot := w.lot, ordinal := w.ordinal, old := l.word w.ordinal }
    let m := m.onLot w.lot (fun l => { l with words := mPutZ l.words w.ordinal w.word (imgRecAttr l.bytes 4 w.ordinal) })
    { m with lots := { m.lots with history := m.lots.history ++ [old] } }

/-- The attribute words of tick n; those of the staged Lot wait for it to become active (03 R76). -/
def Module.applyWords (m : Module) (n : Nat) : Module :=
  let due (w : PendWord) : Bool := decide (w.target ≤ n) && !m.lots.staged.any (fun l => l.number == w.lot)
  let ws := m.lots.words.filter due
  ws.foldl (fun (m : Module) w => m.applyWord n w) { m with lots := { m.lots with words := m.lots.words.filter (fun w => !due w) } }

/-- Figures that a measurement passed rise (04 R115). -/
def Module.raiseAll (m : Module) : Module :=
  { m with lots := { m.lots with active := m.lots.active.map LotData.raiseFigures, retained := m.lots.retained.map LotData.raiseFigures } }

/-! ## Cascade (14 R396, R399, R405 to R408, 02 R58, R59) -/

/-- States whose EFFECT_SFC has come govern; a change of the graph is a change of routes (14 R396). -/
def Module.governStates (m : Module) : Module :=
  let n := m.clock.sfc
  let due := m.cascade.coming.filter (fun p => decide (p.2.effect ≤ n))
  let known := due.foldl (fun (k : List (Nat × NodeState)) p =>
    mPut (k.filter (fun x => x.1 == p.1 || x.2.serial != p.2.serial)) p.1 p.2) m.cascade.known
  let graph (k : List (Nat × NodeState)) := k.map (fun x => (x.1, x.2.adj))
  let moved := graph known != graph m.cascade.known
  let m := { m with cascade := { m.cascade with
    known := known, coming := m.cascade.coming.filter (fun p => decide (n < p.2.effect))
    routeSfc := if moved then n else m.cascade.routeSfc } }
  if moved then m.count 0x4200 0x1B 1 else m

/-- The module leaves or re-enters cascade frames (14 R399). -/
def Module.memberTick (m : Module) : Module :=
  let x := m.frameState
  let old := m.cascade.state
  let m := { m with cascade := { m.cascade with state := x.1, outReason := x.2 } }
  let m := if old = x.1 then m else m.event 0x000A 2 (put x.2 8 8 + put x.1 8 0)
  if (old = 2) ≠ (x.1 = 2) then m.originate else m

/-- A tick for which no beacon was here (02 R59). -/
def Module.beaconTick (m : Module) : Module :=
  let miss := m.inCascadeConfig && m.device != 0 && m.clock.beaconHere.isNone
  { m with clock := { m.clock with beaconMiss := if miss then m.clock.beaconMiss + 1 else m.clock.beaconMiss, beaconHere := none } }

/-- The master announces the next tick on every port in service (02 R58). -/
def Module.sendBeacons (m : Module) : Module :=
  if !m.isMaster then m else
    let b := m.beacon
    m.upPorts.foldl (fun (m : Module) p => m.sendBeacon p 1 b) m

/-- What no frame from n on needs is dropped: ledgers, batches, answers of queries that are gone. -/
def Module.trimFrames (m : Module) : Module :=
  let n := m.clock.sfc
  { m with
    search := { m.search with
      ledger := m.search.ledger.filter (fun p => decide (n ≤ p.1))
      answers := m.search.answers.filter (fun a => m.search.live.any (fun q => q.role == 1 && q.tag == a.entryTag && q.admSfc == a.sfc)) }
    cascade := { m.cascade with
      batches := m.cascade.batches.filter (fun b => decide (n ≤ b.sfc + 9))
      own := m.cascade.own.filter (fun o => decide (n ≤ o.sfc + 9)) } }

/-! ## Search (04 R103, R116, 05 R154) -/

/-- Completions of SET_DEFAULTS whose arrival tick has come (04 R103). -/
def Module.postDefaults (m : Module) : Module :=
  let n := m.clock.sfc
  let due := m.search.defaultsDue.filter (fun d => decide (d.2.2.2 ≤ n))
  due.foldl (fun (m : Module) d => m.post d.1 d.2.1 (bareCompletion d.2.2.1 0 d.2.2.2))
    { m with search := { m.search with defaultsDue := m.search.defaultsDue.filter (fun d => decide (n < d.2.2.2)) } }

/-- The batch of the tick is closed, and gate 1 takes it (04 R116). -/
def Module.searchTick (m : Module) : Module :=
  let m := m.postDefaults
  ({ m with search := { m.search with batch := m.search.arrivals, arrivals := [], gate1 := false } }).gate

/-! ## Builder, jobs, self-tests (06 R178, R185, 11 R335, 18 R502) -/

/-- The builder at tick n: its start frame, or its cancel (06 R178, R185). -/
def Module.buildTick (m : Module) (n : Nat) : Module :=
  if m.lots.buildState ≠ 1 then m
  else if m.lots.buildCancel.any (fun c => decide (c ≤ n)) then m.stopBuild 4 0
  else if m.lots.buildPhase = 0 ∧ m.lots.buildStart ≤ n then m.beginBuild
  else m

/-- Service-stream clocks of one job in frame f (11 Table 11-5). -/
def Module.jobClocks (m : Module) (x : Job) (f : Nat) : Nat :=
  let b := x.config
  if x.state ≠ 2 then 0
  else (if f = x.close ∧ jobTwoPhase b then phase1Work b else 0)
    + (if f = (if jobTwoPhase b then x.close + jobRing b else x.close) then m.finalWork b else 0)
    + (if f = x.deadline then m.updateWork b else 0)

/-- SERVICE_CLOCKS of frame f (11 R335). -/
def Module.noteService (m : Module) (f : Nat) : Module :=
  { m with jobs := { m.jobs with serviceClocks := m.jobs.jobs.foldl (fun a p => a + m.jobClocks p.2 f) 0 } }

/-- The self-tests of frame f end: those in their turn pass but for the ones that tests names, and the rotation moves on
(18 R502, R503). -/
def Module.bistTick (m : Module) (f : Nat) (tests : List SelfTest) : Module :=
  let next := m.bistStart 1
  let places := (m.bistTiles f).map m.placeOf ++ m.bistSpares 544 m.health.bist (m.cfg 0x6000 0x07)
  let m := (places.filter (fun p => !tests.any (fun x => x.place == p))).foldl (fun (m : Module) p => m.passTest f p) m
  let m := tests.foldl (Module.selfTest f) m
  { m with health := { m.health with bist := next } }

/-- SPARES_LOW is noted and logged when it comes about (18 R517). -/
def Module.noteSpares (m : Module) : Module :=
  let low := m.sparesLow
  let m' := if low && !m.health.low then m.event 0x000F 10 (m.spareSummary / 2 ^ 64) else m
  { m' with health := { m'.health with low := low } }

/-- The Pattern Book is rewritten when a content has changed (16 R474). -/
def Module.bookTick (m : Module) : Module :=
  if m.vilur.bookDirty then { m with vilur := { m.vilur with bookGen := m.vilur.bookGen + 2, bookSfc := m.clock.sfc, bookDirty := false } } else m

/-! ## Drains and the start (02 R54, 17 R480, R482, R497) -/

/-- The end of a drain at its tick: the time step, or the orderly stop (02 R54, 17 R480). -/
def Module.drainTickEnd (m : Module) : Module :=
  match m.clock.drainEnd with
  | none => m
  | some e =>
    if m.clock.sfc < e then m
    else
      let step := m.clock.drainStep
      let stop := m.clock.drainReset
      let m := { m with clock := { m.clock with drainFrom := none, drainEnd := none, drainStep := none, drainReset := none } }
      match stop with
      | some cause => m.orderlyStop cause
      | none => match step with
        | some d =>
          let m := m.stepTime d
          { m with clock := { m.clock with offset := 0, adoptNext := m.inCascadeConfig && m.device != 0 } }
        | none => m

/-- What a tick notes of the start: the first tick, and the first tick with an active Lot (17 R482, R497). -/
def Module.startTick (m : Module) (first : Bool) : Module :=
  let m := if first then
      let m := m.bootSucceeds
      { m with boot := { m.boot with startSfc := m.clock.sfc } }
    else m
  let m := if m.boot.lastStartMs = 0 ∧ m.lots.active.isSome then
      { m with boot := { m.boot with lastStartMs := (m.clock.now - m.clock.fwStart) / 1000000 } } else m
  m.notePhase

end Sys2Proof.Machine
end

