-- ==== Sys2Proof/Machine/Tick.lean ====
section
/-! DEFINITION. The meaning of TICK (02 R41). -/

namespace Sys2Proof.Machine

/-- The work of tick n after its actions: Lots, cascade frames, streams, look-ups, jobs, the builder and the batch. -/
def Module.tickWork (m : Module) (n : Nat) : Module :=
  let m := (m.applyWords n).raiseAll.placeWaiting
  let m := m.governStates.memberTick.beaconTick.trimFrames
  let m := (m.streamsTick n).lkTick
  let m := ((m.jobsTick n).buildTick n).searchTick
  m.sendBeacons.endBatches.openBatches

/-- The next tick of the grid: the frame before it ends, its actions apply in order, and its work starts (02 R41). tests are the
self-tests of the frame that ended which are not just passes (18 R503). -/
def tick (tests : List SelfTest) (m : Module) : Module :=
  if !m.mayTick then m
  else
    let first := !m.clock.ticked
    let m := m.at (m.clock.tickTime m.clock.next)
    let m := if first then m else ((m.endFrame).noteService m.clock.sfc).bistTick m.clock.sfc tests
    let m := { m with clock := m.clock.advance }
    let n := m.clock.sfc
    let m := if first then m
      else (m.liveSets.foldl Module.boundFault (m.liveSets.foldl (fun (m : Module) i => m.debtFault (n - 1) i) m)).overrun (n - 1)
    let m := (((m.trimHistory).freeLots).releaseTables.rewriteAll).applyActions n
    ((((m.tickWork n).noteSpares).bookTick).startTick first).drainTickEnd

/-- The meaning of TICK. -/
def execTick (tests : List SelfTest) (s : State) : Host.Outcome State Fault Refusal := .next { s with m := tick tests s.m }

end Sys2Proof.Machine
end

