-- ==== Sys2Proof/Machine/Dispatch.lean ====
section
/-! DEFINITION. What each command does: one arm per row of spec/opcode_table.json, each one call of its meaning. -/

namespace Sys2Proof.Machine

/-- The effect of a command on everything but the queue. -/
def exec (i : Instr) (s : State) : Host.Outcome State Fault Refusal :=
  match i with
  | .tick tests => Sys2Proof.Machine.execTick tests s
  | .changeListClose => Sys2Proof.Machine.execChangeListClose s
  | .deferLimitExpiry => Sys2Proof.Machine.execDeferLimitExpiry s
  | .gate2 => Sys2Proof.Machine.execGate2 s
  | .contribution query tile measured => Sys2Proof.Machine.execContribution query tile measured s
  | .rerank query => Sys2Proof.Machine.execRerank query s
  | .costIntervalClose => Sys2Proof.Machine.execCostIntervalClose s
  | .query t session => Sys2Proof.Machine.execQuery t session s
  | .setDefaults t session => Sys2Proof.Machine.execSetDefaults t session s
  | .attrWrite t session => Sys2Proof.Machine.execAttrWrite t session s
  | .storeRead t session bad => Sys2Proof.Machine.execStoreRead t session bad s
  | .storeWrite t session => Sys2Proof.Machine.execStoreWrite t session s
  | .rangeLockRelease t cmd => Sys2Proof.Machine.execRangeLockRelease t cmd s
  | .storeDataFetched t cmd data => Sys2Proof.Machine.execStoreDataFetched t cmd data s
  | .writeCacheDrain t permille => Sys2Proof.Machine.execWriteCacheDrain t permille s
  | .journalLimitUpdate t mv cells => Sys2Proof.Machine.execJournalLimitUpdate t mv cells s
  | .powerFailIndication t flushUs torn => Sys2Proof.Machine.execPowerFailIndication t flushUs torn s
  | .start t mv torn rimOk => Sys2Proof.Machine.execStart t mv torn rimOk s
  | .mainPowerRise t mv => Sys2Proof.Machine.execMainPowerRise t mv s
  | .standbyLost t => Sys2Proof.Machine.execStandbyLost t s
  | .rstL t low ns flushUs => Sys2Proof.Machine.execRstL t low ns flushUs s
  | .lpddrInitDone t => Sys2Proof.Machine.execLpddrInitDone t s
  | .startupLotLoad t => Sys2Proof.Machine.execStartupLotLoad t s
  | .startupLotSwitch t => Sys2Proof.Machine.execStartupLotSwitch t s
  | .masterStartupCheck t members => Sys2Proof.Machine.execMasterStartupCheck t members s
  | .tableRestore t => Sys2Proof.Machine.execTableRestore t s
  | .lockFallback t => Sys2Proof.Machine.execLockFallback t s
  | .moduleTimePersist t => Sys2Proof.Machine.execModuleTimePersist t s
  | .ptpSync t port domain origin => Sys2Proof.Machine.execPtpSync t port domain origin s
  | .syncLoss t => Sys2Proof.Machine.execSyncLoss t s
  | .holdoverLimitExceeded t => Sys2Proof.Machine.execHoldoverLimitExceeded t s
  | .timeStep t => Sys2Proof.Machine.execTimeStep t s
  | .ppsIn t ns => Sys2Proof.Machine.execPpsIn t ns s
  | .beacon port t cell => Sys2Proof.Machine.execBeacon port t cell s
  | .beaconMissing t => Sys2Proof.Machine.execBeaconMissing t s
  | .emergencyStep t cause mv watts => Sys2Proof.Machine.execEmergencyStep t cause mv watts s
  | .stepRestore t => Sys2Proof.Machine.execStepRestore t s
  | .thermalAlert t temps => Sys2Proof.Machine.execThermalAlert t temps s
  | .thermalTrip t temps flushUs => Sys2Proof.Machine.execThermalTrip t temps flushUs s
  | .move tile waits => Sys2Proof.Machine.execMove tile waits s
  | .gather tile waits => Sys2Proof.Machine.execGather tile waits s
  | .scatterAcc tile waits => Sys2Proof.Machine.execScatterAcc tile waits s
  | .mma tile => Sys2Proof.Machine.execMma tile s
  | .epi tile => Sys2Proof.Machine.execEpi tile s
  | .skscan tile => Sys2Proof.Machine.execSkscan tile s
  | .wins tile => Sys2Proof.Machine.execWins tile s
  | .wdrain tile => Sys2Proof.Machine.execWdrain tile s
  | .argmax tile waits => Sys2Proof.Machine.execArgmax tile waits s
  | .reduce tile waits => Sys2Proof.Machine.execReduce tile waits s
  | .pool tile => Sys2Proof.Machine.execPool tile s
  | .signal tile waits => Sys2Proof.Machine.execSignal tile waits s
  | .wait tile => Sys2Proof.Machine.execWait tile s
  | .rearm tile => Sys2Proof.Machine.execRearm tile s
  | .halt tile => Sys2Proof.Machine.execHalt tile s
  | .streamStalled tile ctx => Sys2Proof.Machine.execStreamStalled tile ctx s
  | .eventCounterChange tile evt set_ value => Sys2Proof.Machine.execEventCounterChange tile evt set_ value s
  | .vatAccumulateWrite tile offset operand => Sys2Proof.Machine.execVatAccumulateWrite tile offset operand s
  | .winnerWrite tile offset coll rows op fmt evt records => Sys2Proof.Machine.execWinnerWrite tile offset coll rows op fmt evt records s
  | .gfx64Add job addr value => Sys2Proof.Machine.execGfx64Add job addr value s
  | .keyedAdd job tensor owner row lane values => Sys2Proof.Machine.execKeyedAdd job tensor owner row lane values s
  | .lsaCombine port job device addr lane value => Sys2Proof.Machine.execLsaCombine port job device addr lane value s
  | .lookupOwnerPool tile => Sys2Proof.Machine.execLookupOwnerPool tile s
  | .lookupCombine tile => Sys2Proof.Machine.execLookupCombine tile s
  | .lookupIncomplete => Sys2Proof.Machine.execLookupIncomplete s
  | .hotRowRefresh => Sys2Proof.Machine.execHotRowRefresh s
  | .reductionDeadline job => Sys2Proof.Machine.execReductionDeadline job s
  | .tokenCell port t cell => Sys2Proof.Machine.execToken port t cell s
  | .ring port t cell => Sys2Proof.Machine.execRing port t cell s
  | .lateVerdict t job verdict => Sys2Proof.Machine.execLateVerdict t job verdict s
  | .abort port t cell => Sys2Proof.Machine.execAbort port t cell s
  | .batchOpen port t cell => Sys2Proof.Machine.execBatchOpen port t cell s
  | .queryRecord port t cell => Sys2Proof.Machine.execQueryRecord port t cell s
  | .batchEnd port t cell => Sys2Proof.Machine.execBatchEnd port t cell s
  | .batchAccept t entry group => Sys2Proof.Machine.execBatchAccept t entry group s
  | .towerOut port t cell => Sys2Proof.Machine.execTowerOut port t cell s
  | .towerOutLate t => Sys2Proof.Machine.execTowerOutLate t s
  | .answer port t cell => Sys2Proof.Machine.execAnswer port t cell s
  | .cascadeMerge t => Sys2Proof.Machine.execCascadeMerge t s
  | .sched port t cell => Sys2Proof.Machine.execSched port t cell s
  | .doneCell port t cell => Sys2Proof.Machine.execDone port t cell s
  | .stateCell port t cell => Sys2Proof.Machine.execState port t cell s
  | .stateOriginate t => Sys2Proof.Machine.execStateOriginate t s
  | .link port t cell => Sys2Proof.Machine.execLink port t cell s
  | .delay port t cell => Sys2Proof.Machine.execDelay port t cell s
  | .delayInterval t => Sys2Proof.Machine.execDelayInterval t s
  | .readReq port t cell => Sys2Proof.Machine.execReadReq port t cell s
  | .readData port t cell => Sys2Proof.Machine.execReadData port t cell s
  | .writeCell port t cell => Sys2Proof.Machine.execWrite port t cell s
  | .acc port t cell => Sys2Proof.Machine.execAcc port t cell s
  | .remoteSignal port t cell => Sys2Proof.Machine.execRemoteSignal port t cell s
  | .lookup port t cell => Sys2Proof.Machine.execLookup port t cell s
  | .remoteTimeout t => Sys2Proof.Machine.execRemoteTimeout t s
  | .gapNak port t => Sys2Proof.Machine.execGapNak port t s
  | .replayTimeout port t => Sys2Proof.Machine.execReplayTimeout port t s
  | .reservedTypeCell port t cell => Sys2Proof.Machine.execReservedTypeCell port t cell s
  | .laneLock port t lane => Sys2Proof.Machine.execLaneLock port t lane s
  | .laneLoss port t lane => Sys2Proof.Machine.execLaneLoss port t lane s
  | .linkRetry port t => Sys2Proof.Machine.execLinkRetry port t s
  | .laneCrcCheck t => Sys2Proof.Machine.execLaneCrcCheck t s
  | .rocePacket t session pkt => Sys2Proof.Machine.execRocePacket t session pkt s
  | .ackDelayExpiry t session => Sys2Proof.Machine.execAckDelayExpiry t session s
  | .localAckTimeout t session => Sys2Proof.Machine.execLocalAckTimeout t session s
  | .cnp t session => Sys2Proof.Machine.execCnp t session s
  | .rateRecover t session => Sys2Proof.Machine.execRateRecover t session s
  | .pfcFrame t port times => Sys2Proof.Machine.execPfcFrame t port times s
  | .hostRdmaWrite t session addr rkey data => Sys2Proof.Machine.execHostRdmaWrite t session addr rkey data s
  | .hostRdmaRead t session addr rkey len psn => Sys2Proof.Machine.execHostRdmaRead t session addr rkey len psn s
  | .req t port ip qpn rnr request => Sys2Proof.Machine.execReq t port ip qpn rnr request s
  | .rtu t session => Sys2Proof.Machine.execRtu t session s
  | .dreq t session => Sys2Proof.Machine.execDreq t session s
  | .linkDownHold t port => Sys2Proof.Machine.execLinkDownHold t port s
  | .neighbourResolution t port kind target peer mac data => Sys2Proof.Machine.execNeighbourResolution t port kind target peer mac data s
  | .reorderHoldExpiry t injector => Sys2Proof.Machine.execReorderHoldExpiry t injector s
  | .injectLimit => Sys2Proof.Machine.execInjectLimit s
  | .vilurDatagram t port addr udp payload => Sys2Proof.Machine.execVilurDatagram t port addr udp payload s
  | .read t => Sys2Proof.Machine.execRead t s
  | .readPending t => Sys2Proof.Machine.execReadPending t s
  | .writeOd t => Sys2Proof.Machine.execWriteOd t s
  | .stage t => Sys2Proof.Machine.execStage t s
  | .writeStaged t => Sys2Proof.Machine.execWriteStaged t s
  | .challenge t => Sys2Proof.Machine.execChallenge t s
  | .unlock t => Sys2Proof.Machine.execUnlock t s
  | .lock t => Sys2Proof.Machine.execLock t s
  | .subscribe t => Sys2Proof.Machine.execSubscribe t s
  | .unsubscribe t => Sys2Proof.Machine.execUnsubscribe t s
  | .ping t => Sys2Proof.Machine.execPing t s
  | .notify t client sub => Sys2Proof.Machine.execNotify t client sub s
  | .clientIdle t => Sys2Proof.Machine.execClientIdle t s
  | .maintainExpiry t => Sys2Proof.Machine.execMaintainExpiry t s
  | .lockAll t => Sys2Proof.Machine.execLockAll t s
  | .tickPeriodWrite t => Sys2Proof.Machine.execTickPeriodWrite t s
  | .profileWrite t => Sys2Proof.Machine.execProfileWrite t s
  | .powerCapWrite t => Sys2Proof.Machine.execPowerCapWrite t s
  | .lotLoad t => Sys2Proof.Machine.execLotLoad t s
  | .loadDone t readOk => Sys2Proof.Machine.execLoadDone t readOk s
  | .lotUnstage t => Sys2Proof.Machine.execLotUnstage t s
  | .lotSwitch t members => Sys2Proof.Machine.execLotSwitch t members s
  | .lotRollback t => Sys2Proof.Machine.execLotRollback t s
  | .lotImport t => Sys2Proof.Machine.execLotImport t s
  | .importDone t data => Sys2Proof.Machine.execImportDone t data s
  | .lotDelete t => Sys2Proof.Machine.execLotDelete t s
  | .holdPreviousClear t => Sys2Proof.Machine.execHoldPreviousClear t s
  | .lotRepaired t => Sys2Proof.Machine.execLotRepaired t s
  | .buildStart t => Sys2Proof.Machine.execBuildStart t s
  | .buildCancel t => Sys2Proof.Machine.execBuildCancel t s
  | .buildEnded t input deletes => Sys2Proof.Machine.execBuildEnded t input deletes s
  | .streamArm t => Sys2Proof.Machine.execStreamArm t s
  | .streamDisarm t => Sys2Proof.Machine.execStreamDisarm t s
  | .streamRearm t => Sys2Proof.Machine.execStreamRearm t s
  | .tableStage t => Sys2Proof.Machine.execTableStage t s
  | .tableUnstage t => Sys2Proof.Machine.execTableUnstage t s
  | .tableSwitch t members => Sys2Proof.Machine.execTableSwitch t members s
  | .tableLoad t => Sys2Proof.Machine.execTableLoad t s
  | .jobConfig t members => Sys2Proof.Machine.execJobConfig t members s
  | .jobStart t => Sys2Proof.Machine.execJobStart t s
  | .jobStop t => Sys2Proof.Machine.execJobStop t s
  | .jobsEnable t => Sys2Proof.Machine.execJobsEnable t s
  | .digestCheck t members => Sys2Proof.Machine.execDigestCheck t members s
  | .sessionReset t => Sys2Proof.Machine.execSessionReset t s
  | .window t => Sys2Proof.Machine.execWindow t s
  | .shardMap t => Sys2Proof.Machine.execShardMap t s
  | .userRegionBytes t => Sys2Proof.Machine.execUserRegionBytes t s
  | .storeAreaBytes t => Sys2Proof.Machine.execStoreAreaBytes t s
  | .sliceReserveBytes t => Sys2Proof.Machine.execSliceReserveBytes t s
  | .ownerKeyReplace t => Sys2Proof.Machine.execOwnerKeyReplace t s
  | .ownerClear t => Sys2Proof.Machine.execOwnerClear t s
  | .attestRequest t => Sys2Proof.Machine.execAttestRequest t s
  | .fwUpdate t => Sys2Proof.Machine.execFwUpdate t s
  | .fwUpdateDone t readBackOk => Sys2Proof.Machine.execFwUpdateDone t readBackOk s
  | .fwCommit t => Sys2Proof.Machine.execFwCommit t s
  | .debugEnable t => Sys2Proof.Machine.execDebugEnable t s
  | .orderlyReset t => Sys2Proof.Machine.execOrderlyReset t s
  | .immediateReset t flushUs => Sys2Proof.Machine.execImmediateReset t flushUs s
  | .factoryReset t => Sys2Proof.Machine.execFactoryReset t s
  | .cutoverRequest t => Sys2Proof.Machine.execCutoverRequest t s
  | .clearFailed t => Sys2Proof.Machine.execClearFailed t s
  | .eventQuery t => Sys2Proof.Machine.execEventQuery t s
  | .injectArm t => Sys2Proof.Machine.execInjectArm t s
  | .injectorWrite t => Sys2Proof.Machine.execInjectorWrite t s
  | .testNow t => Sys2Proof.Machine.execTestNow t s
  | .capacitanceTest t before after esr => Sys2Proof.Machine.execCapacitanceTest t before after esr s
  | .bankAtTarget t => Sys2Proof.Machine.execBankAtTarget t s
  | .testInterval t => Sys2Proof.Machine.execTestInterval t s
  | .hangLimit t tile => Sys2Proof.Machine.execHangLimit t tile s
  | .unsparable t cause flushUs => Sys2Proof.Machine.execUnsparable t cause flushUs s
  | .memoryError t source cls addr syndrome => Sys2Proof.Machine.execMemoryError t source cls addr syndrome s
  | .patrolScrub t addr => Sys2Proof.Machine.execPatrolScrub t addr s
  | .refreshPoll t pkg multiplier hot => Sys2Proof.Machine.execRefreshPoll t pkg multiplier hot s
  | .healthWindow t => Sys2Proof.Machine.execHealthWindow t s
  | .codeCheck t digest corrected flushUs => Sys2Proof.Machine.execCodeCheck t digest corrected flushUs s
  | .watchdog t flushUs => Sys2Proof.Machine.execWatchdog t flushUs s
  | .status t => Sys2Proof.Machine.execStatus t s
  | .inputPower t => Sys2Proof.Machine.execInputPower t s
  | .hottest t => Sys2Proof.Machine.execHottest t s
  | .capLimit t write => Sys2Proof.Machine.execCapLimit t write s
  | .ownerKeyChunk t block => Sys2Proof.Machine.execOwnerKeyChunk t block s
  | .ownerKeyCommit t block => Sys2Proof.Machine.execOwnerKeyCommit t block s
  | .smbusOwnerClear t value => Sys2Proof.Machine.execSmbusOwnerClear t value s
  | .keyResult t => Sys2Proof.Machine.execKeyResult t s
  | .hostLinkChange t port up => Sys2Proof.Machine.execHostLinkChange t port up s
  | .standbyRise t mv => Sys2Proof.Machine.execStandbyRise t mv s
  | .thermalAlertEnd t temps => Sys2Proof.Machine.execThermalAlertEnd t temps s
  | .bankTemperatureChange t temp => Sys2Proof.Machine.execBankTemperatureChange t temp s
  | .ppsOutPulse t => Sys2Proof.Machine.execPpsOutPulse t s
  | .ptpMessage t port msg => Sys2Proof.Machine.execPtpMessage t port msg s
  | .ptpInterval t => Sys2Proof.Machine.execPtpInterval t s
  | .schedTimeout t => Sys2Proof.Machine.execSchedTimeout t s
  | .rnrRetry t session => Sys2Proof.Machine.execRnrRetry t session s
  | .cellCrcFail port t lane => Sys2Proof.Machine.execCellCrcFail port t lane s
  | .idle port t cell => Sys2Proof.Machine.execIdle port t cell s
  | .fcsError t port bytes prio full corrected bad => Sys2Proof.Machine.execFcsError t port bytes prio full corrected bad s

end Sys2Proof.Machine
end

