-- ==== Sys2Proof/Safety.lean ====
section
/-! DEFINITION. What counts as a safe step, and the words in which the statements speak: which parts of the module's
state a command may change, and when the supervisor takes a Vilur request and how it answers it. -/

namespace Sys2Proof

open Sys2Proof.Machine

/-- The outcome is a next state: neither a fault nor a refusal. -/
def isNext {σ φ ρ : Type} : Host.Outcome σ φ ρ → Bool
  | .next _ => true
  | .fault _ => false
  | .refused _ => false

/-- A step from s answers a next state. -/
def SafeStep (s : State) : Prop := ∃ t, step s = .next t

/-! ## Frames -/

/-- The parts of the module's state that a frame speaks of. -/
inductive Part where
  | now | clock | schedule | nextSeq | cfg | cnt | persist | queue | clients | book | hosts | sessions
  | windows | inject | search | library | lots | tiles | streams | tables | jobs | lpddr | mem | links
  | cascade | nand | cistern | holdup | boot | events | health | power | out | fresh
  deriving DecidableEq, Repr

/-- Two modules agree on a part. -/
def Part.same (g : Part) (m m' : Module) : Prop :=
  match g with
  | .now => m'.clock.now = m.clock.now
  | .clock => { m'.clock with now := 0 } = { m.clock with now := 0 }
  | .schedule => m'.schedule = m.schedule
  | .nextSeq => m'.nextSeq = m.nextSeq
  | .cfg => m'.od.cfg = m.od.cfg
  | .cnt => m'.od.cnt = m.od.cnt
  | .persist => m'.od.persist = m.od.persist ∧ m'.od.record = m.od.record
  | .queue => m'.vilur.queue = m.vilur.queue
  | .clients => m'.vilur.clients = m.vilur.clients
  | .book => { m'.vilur with queue := [], clients := [] } = { m.vilur with queue := [], clients := [] }
  | .hosts => m'.ports.host = m.ports.host
  | .sessions => m'.ports.sessions = m.ports.sessions
  | .windows => m'.ports.windows = m.ports.windows
  | .inject => m'.ports.inject = m.ports.inject
  | .search => m'.search = m.search
  | .library => m'.lots.library = m.lots.library
  | .lots => { m'.lots with library := [] } = { m.lots with library := [] }
  | .tiles => m'.tiles = m.tiles
  | .streams => m'.streams = m.streams
  | .tables => m'.tables = m.tables
  | .jobs => m'.jobs = m.jobs
  | .lpddr => m'.mem.lpddr = m.mem.lpddr ∧ m'.mem.poison = m.mem.poison ∧ m'.mem.lotPoison = m.mem.lotPoison
  | .mem => { m'.mem with lpddr := [], poison := [], lotPoison := [] } = { m.mem with lpddr := [], poison := [], lotPoison := [] }
  | .links => m'.cascade.ports = m.cascade.ports
  | .cascade => { m'.cascade with ports := [] } = { m.cascade with ports := [] }
  | .nand => m'.cistern.nand = m.cistern.nand
  | .cistern => { m'.cistern with nand := [] } = { m.cistern with nand := [] }
  | .holdup => m'.holdup = m.holdup
  | .boot => m'.boot = m.boot
  | .events => m'.health.events = m.health.events ∧ m'.health.nextSeq = m.health.nextSeq ∧ m'.health.overwritten = m.health.overwritten
  | .health => { m'.health with events := [], nextSeq := [], overwritten := [] } = { m.health with events := [], nextSeq := [], overwritten := [] }
  | .power => m'.power = m.power
  | .out => m'.out = m.out
  | .fresh => m'.fresh = m.fresh

/-- From m to m', nothing changes outside the parts gs. -/
def Only (gs : List Part) (m m' : Module) : Prop := ∀ g, g ∉ gs → g.same m m'

/-- A command completes in a next state that keeps the queue of waiting commands and changes nothing outside the groups
gs, and of which P holds. -/
def Completes (i : Instr) (s : State) (gs : List Part) (P : Module → Prop) : Prop :=
  ∃ t, exec i s = .next t ∧ t.pending = s.pending ∧ Only gs s.m t.m ∧ P t.m

/-- From m to m' an event has been logged at a module time: it is the newest of its source, under the source's next SEQ
(18 R513, R514). -/
structure Logged (m m' : Module) (time source code data : Nat) : Prop where
  newest : (mGetD m'.health.events source []).getLast? =
    some { source := source, code := code, seq := mGetD m.health.nextSeq source 0, sfc := m.clock.sfc, time := time, data := data }
  next : mGetD m'.health.nextSeq source 0 = (mGetD m.health.nextSeq source 0 + 1) % 2 ^ 32

/-- A stop without power, or a reset, from m to m': of the state, what stands in NAND, in the boot NOR and the fuses is as
it was, and what stands in SRAM, LPDDR5X and the supervisor is gone (17 R481, R488). -/
structure Stopped (m m' : Module) : Prop where
  gone : m'.schedule = [] ∧ m'.vilur = {} ∧ m'.ports = {} ∧ m'.search = {} ∧ m'.tiles = [] ∧ m'.streams = {} ∧ m'.jobs = {}
    ∧ m'.mem = {} ∧ m'.cascade = {} ∧ m'.od.cfg = [] ∧ m'.od.cnt = [] ∧ m'.lots.active = none ∧ m'.lots.staged = none
    ∧ m'.cistern.cache = [] ∧ m'.cistern.journal = [] ∧ m'.cistern.cmds = [] ∧ m'.boot.startState = 0
  nand : m'.cistern.nand = m.cistern.nand ∧ m'.cistern.bad = m.cistern.bad ∧ m'.cistern.savedTime = m.cistern.savedTime
  settings : m'.od.persist = m.od.persist ∧ m'.od.record = m.od.record
  library : m'.lots.library = m.lots.library ∧ m'.lots.committed = m.lots.committed ∧ m'.lots.previous = m.lots.previous
  keys : m'.boot.slots = m.boot.slots ∧ m'.boot.ownerKey = m.boot.ownerKey ∧ m'.boot.minSvn = m.boot.minSvn
    ∧ m'.boot.vendor = m.boot.vendor ∧ m'.boot.revoked = m.boot.revoked ∧ m'.boot.serial = m.boot.serial

/-- The spare map and the event log are as they were. -/
def LogsSurvive (m m' : Module) : Prop :=
  m'.health.events = m.health.events ∧ m'.health.nextSeq = m.health.nextSeq ∧ m'.health.map = m.health.map

/-- Every addressed memory of the module is in canonical form. -/
def Machine.Module.memoryCanonical (m : Module) : Bool :=
  memWf m.mem.lpddr && memWf m.cistern.nand && m.tiles.all (fun p => memWf p.2.slice && memWf p.2.vat)

/-! ## Cells of the cascade (14 R392 to R394) -/

/-- A cell of a type arrives intact and in order at a cascade port whose link is UP, when no cell waits for another that is
missing, none of this module's waits for a credit, the cell acknowledges nothing new, and no injectors are armed. -/
structure Arrives (m : Module) (p typ : Nat) (c : Bytes) : Prop where
  size : c.length = 272
  crc : cellCrcOk c = true
  typ : cellTyp c = typ
  up : (m.linkPort p).state = 3
  order : cellSeq c = (m.linkPort p).rxNext
  window : (m.linkPort p).window = []
  waiting : (m.linkPort p).waiting = []
  acks : cellAck c = (match (m.linkPort p).replay with
    | e :: _ => e.1
    | [] => (m.linkPort p).txSeq)
  injectors : m.health.armed = false

/-- From m to m' a port has taken one cell more in sequence and counted it. -/
structure TookCell (m m' : Module) (p : Nat) : Prop where
  next : (m'.linkPort p).rxNext = ((m.linkPort p).rxNext + 1) % 4096
  rest : (m'.linkPort p).window = [] ∧ (m'.linkPort p).state = 3
  counted : m'.ctrI 0x4200 0x0A (p * 16 + 1) = (m.ctrI 0x4200 0x0A (p * 16 + 1) + 1) % 2 ^ 64

/-- A port can send n cells at once: its link is UP, nothing waits, and each class has n credits and the replay buffer
room for n cells. -/
structure CanSend (m : Module) (p n : Nat) : Prop where
  up : (m.linkPort p).state = 3
  waiting : (m.linkPort p).waiting = []
  credits : ∀ k, k < 4 → n ≤ mGetD (m.linkPort p).credits k 0
  room : (m.linkPort p).replay.length + n ≤ 1024

/-- From m to m' a cell of a type has left a port with these ARG and payload. -/
def SentCell (m' : Module) (p typ arg : Nat) (pay : Bytes) : Prop :=
  ∃ c, Out.cell p c ∈ m'.out ∧ cellTyp c = typ ∧ cellArg c = arg ∧ cellPay c = fit pay 256 ∧ cellCrcOk c = true

/-- From m to m' a completion has been posted in a slot of a session, where the session is in service and no injectors are
armed (13 R378). -/
def Posted (m m' : Module) (session slot : Nat) (bs : Bytes) : Prop :=
  ∀ x, m.session session = some x → x.state = 2 → m.health.armed = false →
    Out.completion session slot ((x.resultAddr + slot * x.slotBytes) % 2 ^ 64) bs ∈ m'.out

/-! ## The Vilur supervisor (16 R456 to R458) -/

/-- At time t the supervisor is free to execute request r of client c, which stands before rest: the client is known, no
write of the master waits for its SCHED cells, no reply is kept under the request's SEQ, module time has not passed t, and
the port is one of the module's five. -/
structure Served (m : Module) (t : Nat) (r : VReq) (c : Client) (rest : List VReq) : Prop where
  front : m.vilur.queue = r :: rest
  client : m.client r = some c
  free : m.placing = false
  unseen : mGet c.kept r.seq = none
  time : m.clock.now ≤ t
  port : r.port ≤ 4

/-- The module as it executes that request: at time t, with the request off the queue and counted in REQUESTS. -/
def Machine.Module.executing (m : Module) (t : Nat) (rest : List VReq) : Module :=
  ({ m.at t with vilur := { (m.at t).vilur with queue := rest } } : Module).count 0x1010 0x0B 1

/-- From m to m' the supervisor has answered request r at time t with bs: the queue is what stood behind the request,
module time is t, REQUESTS has counted it, its client is c with the reply kept under the request's SEQ, and, unless
injectors are armed, the reply has left on the port of arrival. -/
structure Answered (m m' : Module) (t : Nat) (r : VReq) (rest : List VReq) (c : Client) (bs : Bytes) : Prop where
  queue : m'.vilur.queue = rest
  now : m'.clock.now = t
  requests : m'.ctr 0x1010 0x0B = (m.ctr 0x1010 0x0B + 1) % 2 ^ 64
  client : m'.client r = some { c with kept := keepReply c.kept r.seq bs }
  out : m.health.armed = false → m'.out = m.out ++ [.datagram r.port r.addr r.udp bs]

/-- From m to m', answering r, no other client changes, and no counter does but REQUESTS and those of the ports. -/
structure Quiet (m m' : Module) (r : VReq) : Prop where
  others : ∀ q : VReq, (q.port, q.addr, q.udp) ≠ (r.port, r.addr, r.udp) → m'.client q = m.client q
  counters : ∀ k, k ≠ odKey 0x1010 0x0B 0 → ¬ (odKey 0x4100 0x20 0 ≤ k ∧ k < odKey 0x4100 0x21 0) →
    mGetD m'.od.cnt k 0 = mGetD m.od.cnt k 0

/-- A request writes value v to object o, and the checks of R450 pass. -/
structure Writes (m : Module) (r : VReq) (c : Client) (o : Obj) (v : Bytes) : Prop where
  value : r.value c = v
  checks : m.writeCheck r c v = (0, o)

end Sys2Proof
end

