-- ==== Sys2Proof/Certificates/Slice0/Obligations.lean ====
section
/-! DEFINITION. The statements about the module, by chapter of the spec. Completes, Served, Answered and the other words
they speak in stand in Sys2Proof/Safety.lean. -/

open Sys2Proof Sys2Proof.Machine

/-! ## The queue of commands -/

/-- A step runs the command at the front of the queue: exec of it on the state with the queue's rest, whatever the
command; on an empty queue the block idles (log 1). -/
def Obligations.StepRunsFrontCommand : Prop :=
  (∀ (i : Instr) (rest : List Instr) (s : State), s.pending = i :: rest → step s = exec i { s with pending := rest })
  ∧ ∀ s : State, s.pending = [] → step s = .next s

/-- What a step can do: it faults never; it is refused only where the command at the front breaks the shape of its row; to
a next state it takes the one command at the front; and every well-formed command completes, in a next state that keeps the
queue. -/
def Obligations.StepsTakeOneCommand : Prop :=
  (∀ (s t : State), step s = .next t → t.pending = s.pending.tail)
  ∧ (∀ (s : State) (f : Fault), step s ≠ .fault f)
  ∧ (∀ (s : State) (r : Refusal), step s = .refused r → ∃ i rest, s.pending = i :: rest ∧ i.wellFormed = false)
  ∧ ∀ (i : Instr) (s : State), i.wellFormed = true → ∃ t, exec i s = .next t ∧ t.pending = s.pending

/-! ## The Vilur protocol (16) -/

/-- PING, LOCK, STAGE and CHALLENGE, taken by the supervisor from the front of its queue, complete with status OK and what
Table 16-4 gives each: PING answers the SFC, module time and the level; LOCK ends Maintain; STAGE writes its data at ARG,
and fails with LENGTH past 16,384 bytes, which leaves the client as it was; CHALLENGE gives a fresh nonce, whose value is free
(log 2), with the serial number. Nothing else changes. -/
def Obligations.ClientRequestsComplete : Prop :=
  ∀ (s : State) (t : Nat) (r : VReq) (c : Client) (rest : List VReq), Served s.m t r c rest →
    (r.opcode = 11 → Completes (.ping t) s [.now, .queue, .clients, .cnt, .inject, .out] (fun m' =>
      Quiet s.m m' r ∧ Answered s.m m' t r rest c (replyBytes r 0 0 0
        (toLe 8 s.m.clock.sfc ++ toLe 8 t ++ toLe 1 (if c.unlockEnd.isSome then 2 else s.m.baseLevel c.port c.addr) ++ zeros 7))))
    ∧ (r.opcode = 8 → Completes (.lock t) s [.now, .queue, .clients, .cnt, .inject, .out] (fun m' =>
      Quiet s.m m' r ∧ Answered s.m m' t r rest { c with unlockEnd := none } (replyBytes r 0 0 0 [])))
    ∧ (r.opcode = 4 → r.arg + r.data.length ≤ 16384 → Completes (.stage t) s [.now, .queue, .clients, .cnt, .inject, .out] (fun m' =>
      Quiet s.m m' r ∧ Answered s.m m' t r rest { c with staging := splice c.staging r.arg r.data } (replyBytes r 0 0 0 [])))
    ∧ (r.opcode = 4 → 16384 < r.arg + r.data.length → Completes (.stage t) s [.now, .queue, .clients, .cnt, .inject, .out]
      (fun m' => Answered s.m m' t r rest c (replyBytes r 7 0 0 []) ∧ m'.ctr 0x1010 0x0C = (s.m.ctr 0x1010 0x0C + 1) % 2 ^ 64))
    ∧ (r.opcode = 6 → Completes (.challenge t) s [.now, .queue, .clients, .cnt, .inject, .out, .fresh] (fun m' =>
      let nonce := Config.freeValue s.m.fresh % 2 ^ 128
      m'.fresh = s.m.fresh + 1 ∧ Quiet s.m m' r
        ∧ Answered s.m m' t r rest { c with nonce := some (nonce, t) } (replyBytes r 0 0 0 (toLe 16 nonce ++ toLe 8 s.m.boot.serial))))

/-- R469. SUBSCRIBE gives a client the lowest free number of 0 to 3 and answers it in DETAIL, and a fifth fails with
SUBSCRIPTIONS_FULL, so that a client holds at most 4, each under a number of its own. UNSUBSCRIBE ends the subscription it names, and is
accepted with OK and does nothing where the client does not hold it; one whose ARG is above 3 is answered MALFORMED when its
datagram comes in (stated on the management port, for a client that is known and has no reply kept under the SEQ). -/
def Obligations.SubscriptionsAreFour : Prop :=
  (∀ (s : State) (t : Nat) (r : VReq) (c : Client) (rest : List VReq), Served s.m t r c rest →
    let parts := [Part.now, .queue, .clients, .cnt, .inject, .out]
    let fine := fun (l : List Sub) => (l.map (fun x => x.num)).Nodup ∧ (∀ x ∈ l, x.num < 4) ∧ l.length ≤ 4
    (r.opcode = 9 → ∀ i : Nat, i < 4 → (∀ x ∈ c.subs, x.num ≠ i) → (∀ j, j < i → ∃ x ∈ c.subs, x.num = j) →
      let subs := insertBy (fun a b => decide (a.num ≤ b.num))
        { num := i, source := leAt r.data 0 2, codeMin := leAt r.data 2 2, codeMax := leAt r.data 4 2 } c.subs
      (fine c.subs → fine subs)
        ∧ Completes (.subscribe t) s parts (fun m' => Quiet s.m m' r ∧ Answered s.m m' t r rest { c with subs := subs } (replyBytes r 0 0 i [])))
    ∧ (r.opcode = 9 → (∀ i, i < 4 → ∃ x ∈ c.subs, x.num = i) → Completes (.subscribe t) s parts (fun m' =>
        Answered s.m m' t r rest c (replyBytes r 18 0 0 []) ∧ m'.ctr 0x1010 0x0C = (s.m.ctr 0x1010 0x0C + 1) % 2 ^ 64))
    ∧ (r.opcode = 10 → Completes (.unsubscribe t) s parts (fun m' => Quiet s.m m' r
        ∧ Answered s.m m' t r rest { c with subs := c.subs.filter (fun x => x.num != r.arg) } (replyBytes r 0 0 0 [])
        ∧ ((∀ x ∈ c.subs, x.num ≠ r.arg) → c.subs.filter (fun x => x.num != r.arg) = c.subs))))
  ∧ ∀ (s : State) (t addr udp : Nat) (bs : Bytes) (c : Client), s.m.clock.now ≤ t →
      (Instr.vilurDatagram t 4 addr udp bs).wellFormed = true → 32 ≤ bs.length → s.m.health.armed = false →
      let h := leAt bs 0 32
      let r := vilurRequest 4 addr udp h (bs.drop 32)
      fld h 255 240 = 0x4C56 → bs.length = vilurExpected h → fld h 23 16 = 1 → fld h 7 0 = 10 → 3 < r.arg → s.m.client r = some c →
      mGet c.kept r.seq = none →
      Completes (.vilurDatagram t 4 addr udp bs) s [.now, .cnt, .clients, .inject, .out] (fun m' =>
        m'.out = s.m.out ++ [.datagram 4 addr udp (replyBytes r 1 0 0 [])] ∧ m'.vilur.queue = s.m.vilur.queue
          ∧ m'.ctr 0x1010 0x0C = (s.m.ctr 0x1010 0x0C + 1) % 2 ^ 64
          ∧ ∃ c', m'.client r = some c' ∧ c'.subs = c.subs)

/-- A request whose SEQ has a kept reply is not executed again: the kept reply is resent, byte for byte, nothing is
counted as a request, and no client, value or other part of the module changes. It holds for each row by which the
supervisor executes a request of no object: PING, LOCK, STAGE, SUBSCRIBE, UNSUBSCRIBE, CHALLENGE, UNLOCK, READ and
READ_PENDING. -/
def Obligations.KeptReplyIsResent : Prop :=
  ∀ (s : State) (t : Nat) (r : VReq) (c : Client) (rest : List VReq) (bs : Bytes) (i : Instr),
    s.m.vilur.queue = r :: rest → s.m.client r = some c → s.m.placing = false → s.m.clock.now ≤ t → r.port ≤ 4 →
    mGet c.kept r.seq = some bs →
    (r.opcode, i) ∈ [(11, Instr.ping t), (8, .lock t), (4, .stage t), (9, .subscribe t), (10, .unsubscribe t), (6, .challenge t),
      (7, .unlock t), (1, .read t), (2, .readPending t)] →
    Completes i s [.now, .queue, .cnt, .inject, .out] (fun m' =>
      m'.vilur.queue = rest ∧ m'.clock.now = t ∧ m'.ctr 0x1010 0x0B = s.m.ctr 0x1010 0x0B
        ∧ (s.m.health.armed = false → m'.out = s.m.out ++ [.datagram r.port r.addr r.udp bs]))

/-- UNLOCK: the checks of R468 in order. Where all pass, the client holds Maintain until the earlier of NOT_AFTER_NS and
MAINTAIN_MAX_S from now, and UNLOCKS counts; where check n is the first that fails, the reply is TOKEN_INVALID with n in
DETAIL, Maintain stays as it was, UNLOCK_FAILURES counts and an event is logged. The nonce is consumed either way. -/
def Obligations.UnlockChecksTheToken : Prop :=
  ∀ (s : State) (t : Nat) (r : VReq) (c : Client) (rest : List VReq), Served s.m t r c rest → r.opcode = 7 →
    let b := fit c.staging 3373
    let failed : Nat → Prop := fun n => match n with
      | 1 => s.m.boot.ownerKey = []
      | 2 => leAt b 0 8 ≠ leNat (keyId s.m.boot.ownerKey)
      | 3 => leAt b 8 8 ≠ s.m.boot.serial
      | 4 => ∀ v at_, c.nonce = some (v, at_) → v ≠ leAt b 48 16 ∨ at_ + 300000000000 < t
      | 5 => beNat (sub b 32 16) ≠ c.addr ∨ leAt b 30 2 ≠ c.udp
      | 6 => leAt b 29 1 ≠ 2 ∨ leAt b 24 5 ≠ 0
      | 7 => leAt b 16 8 ≤ t
      | 8 => Config.mldsaVerify s.m.boot.ownerKey (b.take 64) (ascii "VILUR-UNLOCK") (b.drop 64) = false
      | 9 => r.arg ≠ 3373
      | _ => False
    Completes (.unlock t) s [.now, .queue, .clients, .cnt, .inject, .out, .events] (fun m' =>
      ((∀ n, ¬ failed n) →
        let end_ := min (leAt b 16 8) (t + s.m.cfg 0x1010 0x08 * 1000000000)
        m'.ctr 0x1010 0x0E = (s.m.ctr 0x1010 0x0E + 1) % 2 ^ 64 ∧ Only [.now, .queue, .clients, .cnt, .inject, .out] s.m m'
          ∧ Answered s.m m' t r rest { c with nonce := none, unlockEnd := some end_ } (replyBytes r 0 0 0 (toLe 8 end_)))
      ∧ ∀ n, failed n → (∀ k, k < n → ¬ failed k) →
          m'.ctr 0x1010 0x0F = (s.m.ctr 0x1010 0x0F + 1) % 2 ^ 64 ∧ Logged s.m m' t 0x000D 1 n
            ∧ ∃ c', c'.nonce = none ∧ c'.unlockEnd = c.unlockEnd ∧ Answered s.m m' t r rest c' (replyBytes r 17 0 n []))

/-- READ and READ_PENDING complete: a READ of a readable object answers LENGTH bytes from offset ARG of the value in force
and its whole length in DETAIL; with SNAPSHOT and ARG 0 it first copies the value into the client's snapshot, and with
SNAPSHOT and a later ARG it answers from the snapshot, whatever the request names. READ_PENDING pages through the values
that await their effect points, and answers their number. A read changes nothing else. -/
def Obligations.ReadsComplete : Prop :=
  ∀ (s : State) (t : Nat) (r : VReq) (c : Client) (rest : List VReq), Served s.m t r c rest →
    let page := fun v : Bytes => (v.drop r.arg).take r.len
    (∀ o, findObj r.index r.sub = some o → o.access < 3 →
      let v := (s.m.executing t rest).odValue c o
      (r.opcode = 1 → r.snap = false → Completes (.read t) s [.now, .queue, .clients, .cnt, .inject, .out] (fun m' =>
        Quiet s.m m' r ∧ Answered s.m m' t r rest c (replyBytes r 0 0 v.length (page v))))
      ∧ (r.opcode = 1 → r.snap = true → r.arg = 0 → v.length ≤ 16384 →
        Completes (.read t) s [.now, .queue, .clients, .cnt, .inject, .out] (fun m' =>
          Quiet s.m m' r ∧ Answered s.m m' t r rest { c with snapshot := v } (replyBytes r 0 0 v.length (page v))))
      ∧ (r.opcode = 2 → Completes (.readPending t) s [.now, .queue, .clients, .cnt, .inject, .out] (fun m' =>
        let l := (s.m.executing t rest).pendingOf c o
        Quiet s.m m' r ∧ Answered s.m m' t r rest c (replyBytes r 0 0 l.length (page (pendingBytes l))))))
    ∧ (r.opcode = 1 → r.snap = true → 0 < r.arg → Completes (.read t) s [.now, .queue, .clients, .cnt, .inject, .out] (fun m' =>
        Quiet s.m m' r ∧ Answered s.m m' t r rest c (replyBytes r 0 0 c.snapshot.length (page c.snapshot))))

/-- A write whose checks fail is refused with the status of the first check that fails, in the order of R450: existence,
access, level, length, range. WRITE and WRITE_STAGED of an object with no row of its own; nothing but the reply changes. -/
def Obligations.WriteChecksInOrder : Prop :=
  ∀ (s : State) (t : Nat) (r : VReq) (c : Client) (rest : List VReq) (i : Instr), Served s.m t r c rest →
    (r.opcode, i) ∈ [(3, Instr.writeOd t), (5, .writeStaged t)] → r.ownRow (r.value c) = false →
    let v := r.value c
    let level := if c.unlockEnd.isSome then 2 else s.m.baseLevel c.port c.addr
    let refuses := fun st : Nat => Completes i s [.now, .queue, .clients, .cnt, .inject, .out] (fun m' =>
      Answered s.m m' t r rest c (replyBytes r st 0 0 []) ∧ m'.ctr 0x1010 0x0C = (s.m.ctr 0x1010 0x0C + 1) % 2 ^ 64)
    (objIndices.contains r.index = false → refuses 3)
    ∧ (objIndices.contains r.index = true → findObj r.index r.sub = none → refuses 4)
    ∧ ∀ o, findObj r.index r.sub = some o →
        (o.access = 0 → refuses 5)
        ∧ (o.access ≠ 0 → level < o.level → refuses 6)
        ∧ (o.access ≠ 0 → o.level ≤ level → o.lengthOk v = false → refuses 7)
        ∧ (o.access ≠ 0 → o.level ≤ level → o.lengthOk v = true → (s.m.executing t rest).rangeOk o v = false → refuses 8)

/-- WRITE and WRITE_STAGED complete, by the effect point of the object (R464), for a write whose checks pass: a selector is
the client's own; an Immediate value stands at once (outside the port objects, whose writes act on links too); an at-tick
value becomes a KIND 0 action of the first frame that is open or of the frame named, in the schedule under the next SEQ; a
value with the lead of R42 becomes one of its frame. An RWS value is durable before the reply. The reply names the first
frame that the value governs. -/
def Obligations.WritesTakeEffectAtTheirPoint : Prop :=
  ∀ (s : State) (t : Nat) (r : VReq) (c : Client) (rest : List VReq) (i : Instr) (o : Obj) (v : Bytes), Served s.m t r c rest →
    (r.opcode, i) ∈ [(3, Instr.writeOd t), (5, .writeStaged t)] → r.ownRow v = false → Writes (s.m.executing t rest) r c o v →
    let key := odKey o.index o.sub (c.inst o)
    let durable := fun m' : Module => m'.od.persist = if o.access = 2 then mPut s.m.od.persist key (o.stored v) else s.m.od.persist
    let ack := fun n : Nat => replyBytes r 0 n 0 (toLe 8 t)
    let placed := fun (n : Nat) (m' : Module) =>
      m'.schedule = insertAction { kind := 0, key := key, value := o.stored v, target := n, host := true, seq := s.m.nextSeq } s.m.schedule
        ∧ m'.nextSeq = (s.m.nextSeq + 1) % 2 ^ 32 ∧ durable m' ∧ Quiet s.m m' r ∧ Answered s.m m' t r rest c (ack n)
    let f := (s.m.executing t rest).clock.firstFrame
    (o.selector = true → r.target = 0 → Completes i s [.now, .queue, .clients, .cnt, .inject, .out] (fun m' =>
      Quiet s.m m' r ∧ Answered s.m m' t r rest
        { c with selectors := mPutZ c.selectors (odKey o.index o.sub 0) (leNat v) 0 } (ack s.m.clock.sfc)))
    ∧ (o.selector = false → o.effect = 1 → r.target = 0 → o.index ≠ 0x4100 → o.index ≠ 0x4200 →
        Completes i s [.now, .queue, .clients, .cnt, .inject, .out, .cfg, .persist] (fun m' =>
          m'.od.cfg = mPut s.m.od.cfg key (o.stored v) ∧ durable m' ∧ Quiet s.m m' r
            ∧ Answered s.m m' t r rest c (ack s.m.clock.sfc)))
    ∧ (o.selector = false → o.effect = 2 → ∀ n, n = (if r.target = 0 then f else r.target) → f ≤ n → s.m.hostFull = false →
        (o.index = 0x2100 → o.sub ≤ 4 → (s.m.executing t rest).defaultFits o n v = true) →
        Completes i s [.now, .queue, .clients, .cnt, .inject, .out, .persist, .schedule, .nextSeq] (placed n))
    ∧ (o.selector = false → o.effect = 2 → r.target ≠ 0 → r.target < f →
        Completes i s [.now, .queue, .clients, .cnt, .inject, .out] (fun m' => Answered s.m m' t r rest c (replyBytes r 10 f 0 [])))
    ∧ (o.selector = false → o.effect = 4 → ∀ n, n = (if r.target = 0 then (s.m.executing t rest).leadFrame else r.target) →
        (s.m.executing t rest).leadOk n ((s.m.executing t rest).depthAt n) = true → s.m.hostFull = false →
        (o.index ≠ 0x2200 → ((s.m.executing t rest).place { key := key, value := v, target := n, host := true }).grantsOk n = true) →
        Completes i s [.now, .queue, .clients, .cnt, .inject, .out, .persist, .schedule, .nextSeq] (placed n))

/-- Immediate writes of the port objects act on the ports too: PHY_MODE and PORT_ENABLE retrain the host link; a changed
IPv4 or IPv6 address takes every session of the port and family to ERROR; the cascade's PORT_ENABLE at 0 takes the link to
DISABLED with no lane locked, and at 1 brings a disabled link to DOWN. The value stands in each case. -/
def Obligations.PortWritesActOnThePorts : Prop :=
  ∀ (s : State) (t : Nat) (r : VReq) (c : Client) (rest : List VReq) (i : Instr) (o : Obj) (v : Bytes), Served s.m t r c rest →
    (r.opcode, i) ∈ [(3, Instr.writeOd t), (5, .writeStaged t)] → r.ownRow v = false → Writes (s.m.executing t rest) r c o v →
    o.selector = false → o.effect = 1 → r.target = 0 →
    let p := c.inst o
    (o.index = 0x4100 → ∃ s', exec i s = .next s' ∧ s'.m.od.cfg = mPut s.m.od.cfg (odKey o.index o.sub p) (o.stored v)
      ∧ Only [.now, .queue, .clients, .cnt, .inject, .out, .cfg, .persist, .hosts, .sessions, .events] s.m s'.m
      ∧ (∃ c', Answered s.m s'.m t r rest c' (replyBytes r 0 s.m.clock.sfc 0 (toLe 8 t)))
      ∧ (o.sub = 0x03 ∨ o.sub = 0x04 → (s'.m.hostPort p).linkUp = false
          ∧ (s'.m.hostPort p).training = (s'.m.cfgI 0x4100 0x04 p != 0))
      ∧ (∀ a x, mGet s.m.ports.sessions a = some x → x.port = p →
          (o.sub = 0x06 ∧ x.v6 = false ∨ o.sub = 0x09 ∧ x.v6 = true) →
          ∃ y, mGet s'.m.ports.sessions a = some y ∧ (s.m.cfgBytes o.index o.sub p ≠ v → y.state = 3)
            ∧ (s.m.cfgBytes o.index o.sub p = v → y = x)))
    ∧ (o.index = 0x4200 → o.sub = 0x08 → ∃ s', exec i s = .next s' ∧ s'.m.od.cfg = mPut s.m.od.cfg (odKey o.index o.sub p) (o.stored v)
      ∧ (v = [0] → (s'.m.linkPort p).state = 0 ∧ (s'.m.linkPort p).lanes = 0)
      ∧ (v = [1] → (s.m.linkPort p).state = 0 → (s'.m.linkPort p).state = 1)
      ∧ ∀ q, q ≠ p → (s'.m.linkPort q).state = (s.m.linkPort q).state)

/-- LOCK_ALL: a write of 1 ends every client's Maintain, and a write of 0 does nothing; both are acknowledged. -/
def Sys2Proof.Claims.LockAllEndsMaintain : Prop :=
  ∀ (s : State) (t : Nat) (r : VReq) (c : Client) (rest : List VReq) (o : Obj) (v : Bytes), Served s.m t r c rest →
    r.writes 0x1010 0x09 = true → Writes (s.m.executing t rest) r c o v → r.target = 0 →
    Completes (.lockAll t) s [.now, .queue, .clients, .cnt, .inject, .out] (fun m' =>
      (v = [1] → Answered s.m m' t r rest { c with unlockEnd := none } (replyBytes r 0 s.m.clock.sfc 0 (toLe 8 t))
        ∧ ∀ x ∈ m'.vilur.clients, x.unlockEnd = none)
      ∧ (v ≠ [1] → Answered s.m m' t r rest c (replyBytes r 0 s.m.clock.sfc 0 (toLe 8 t)) ∧ Quiet s.m m' r))

/-- The clients' timers: CLIENT_IDLE deletes exactly the clients silent for CLIENT_IDLE_S, with all they hold;
MAINTAIN_EXPIRY ends exactly the unlocks whose end has come; nothing else changes but module time. -/
def Sys2Proof.Claims.ClientTimersComplete : Prop :=
  ∀ (s : State) (t : Nat), s.m.clock.now ≤ t →
    Completes (.clientIdle t) s [.now, .clients] (fun m' => m'.clock.now = t
      ∧ m'.vilur.clients = s.m.vilur.clients.filter (fun c => decide (t < c.lastNs + s.m.cfg 0x1010 0x04 * 1000000000)))
    ∧ Completes (.maintainExpiry t) s [.now, .clients] (fun m' => m'.clock.now = t
      ∧ m'.vilur.clients.length = s.m.vilur.clients.length
      ∧ ∀ (i : Nat) (c : Client), s.m.vilur.clients[i]? = some c →
          m'.vilur.clients[i]? = some (match c.unlockEnd with
            | some e => if e ≤ t then { c with unlockEnd := none } else c
            | none => c))

/-- Maintain and clients end: by LOCK_ALL, by expiry, and by silence. -/
def Obligations.MaintainAndClientsEnd : Prop := Claims.LockAllEndsMaintain ∧ Claims.ClientTimersComplete


/-- NOTIFY: of a subscription's records, those older than 1 s are dropped, added to NOTIFY_LOST and to the count that the
next NOTIFY carries in DETAIL; the first 32 of the others leave in one datagram to the client, whose sequence number rises
by 1, unless 1,000 have gone to it in the last second. Other clients and other subscriptions stay as they are. -/
def Obligations.NotifySendsEventRecords : Prop :=
  ∀ (s : State) (t : Nat) (k : Nat) (i : Fin 4) (c : Client) (x : Sub), s.m.clock.now ≤ t → c.port ≤ 4 →
    s.m.vilur.clients[k]? = some c → c.subs.find? (fun x => x.num == i.val) = some x →
    let keep := x.queue.filter (fun e => decide (t ≤ e.time + 1000000000))
    let lost := (x.lost + (x.queue.length - keep.length)) % 2 ^ 32
    Completes (.notify t k i) s [.now, .clients, .cnt, .inject, .out] (fun m' =>
      m'.clock.now = t
        ∧ (∀ j, j ≠ k → m'.vilur.clients[j]? = s.m.vilur.clients[j]?)
        ∧ m'.ctr 0x1010 0x10 = (if x.queue.length = keep.length then s.m.ctr 0x1010 0x10
            else (s.m.ctr 0x1010 0x10 + (x.queue.length - keep.length)) % 2 ^ 64)
        ∧ ∃ c', m'.vilur.clients[k]? = some c' ∧ (∀ y, y ∈ c.subs → y.num ≠ i.val → y ∈ c'.subs)
          ∧ (keep ≠ [] → (c.sent.filter (fun a => decide (t < a + 1000000000))).length < 1000 →
              { x with queue := keep.drop 32, seq := (x.seq + 1) % 2 ^ 32, lost := 0 } ∈ c'.subs
              ∧ (s.m.health.armed = false → m'.out = s.m.out ++ [.datagram c.port c.addr c.udp
                  (notifyBytes { x with queue := keep, lost := lost } (keep.take 32))]))
          ∧ (keep = [] ∨ 1000 ≤ (c.sent.filter (fun a => decide (t < a + 1000000000))).length →
              { x with queue := keep, lost := lost } ∈ c'.subs ∧ m'.out = s.m.out))

/-- VILUR_DATAGRAM, on the management port or on an enabled host port while no injector is armed: a datagram that is
shorter than its header, has another MAGIC or another length than its LENGTH says is discarded and counted; a request in
good form joins the end of the supervisor's queue, and its client is known from then on with its time of arrival, as long
as 64 clients and 256 requests are not exceeded. -/
def Obligations.DatagramsQueueRequests : Prop :=
  ∀ (s : State) (t : Nat) (port : Fin 5) (addr udp : Nat) (bs : Bytes), s.m.clock.now ≤ t → s.m.health.armed = false →
    (port.val < 4 → s.m.cfgB 0x4100 0x1F = true) → (Instr.vilurDatagram t port addr udp bs).wellFormed = true →
    let h := leAt bs 0 32
    let r := vilurRequest port.val addr udp h (bs.drop 32)
    (bs.length < 32 ∨ fld h 255 240 ≠ 0x4C56 ∨ bs.length ≠ vilurExpected h →
      Completes (.vilurDatagram t port addr udp bs) s [.now, .cnt] (fun m' => m'.clock.now = t
        ∧ m'.ctr 0x1010 0x0D = (s.m.ctr 0x1010 0x0D + 1) % 2 ^ 64))
    ∧ (32 ≤ bs.length → fld h 255 240 = 0x4C56 → bs.length = vilurExpected h → fld h 23 16 = 1 → vilurMalformed h (bs.drop 32) = false →
        s.m.vilur.queue.length < 256 →
        ((s.m.client r).isSome ∨ s.m.vilur.clients.length < 64) →
        Completes (.vilurDatagram t port addr udp bs) s [.now, .cnt, .queue, .clients] (fun m' => m'.clock.now = t
          ∧ m'.vilur.queue = s.m.vilur.queue ++ [r]
          ∧ m'.client r = some { (s.m.client r).getD { port := port.val, addr := addr, udp := udp } with
                                 lastNs := t, lastSfc := s.m.clock.sfc }
          ∧ ∀ q : VReq, (q.port, q.addr, q.udp) ≠ (r.port, r.addr, r.udp) → m'.client q = s.m.client q))

/-! ## Time (02) -/

/-- The time state moves as Table 02-5 says: four intervals without a Sync take LOCKED to HOLDOVER and, while ticks run,
LOCKING to FREE; a holdover estimate above the limit takes HOLDOVER to FREE; 10 s without a lock after firmware start take
a module that has not ticked to FREE, at the persisted module time plus 1 s. Each change is logged. Module time becomes
durable, and nothing else does, at MODULE_TIME_PERSIST. -/
def Sys2Proof.Claims.TimeStateRowsComplete : Prop :=
  ∀ (s : State) (t : Nat), s.m.clock.now ≤ t →
    let moved := fun (st : Nat) (m' : Module) =>
      m'.clock = { s.m.clock with now := t, timeState := st, inRun := 0, outRun := 0 } ∧ Logged s.m m' t 0x0001 2 st
    (s.m.timeSource ≠ 2 → s.m.clock.lastSync + 4 * s.m.syncInterval ≤ t →
      (s.m.clock.timeState = 2 → Completes (.syncLoss t) s [.now, .clock, .clients, .events] (moved 3))
      ∧ (s.m.clock.timeState = 1 → s.m.clock.ticked = true → Completes (.syncLoss t) s [.now, .clock, .clients, .events] (moved 4)))
    ∧ (s.m.clock.timeState = 3 → s.m.cfg 0x1100 0x15 * 1000000000 < 40000000000 + 100 * (t - s.m.clock.lastSync) →
      Completes (.holdoverLimitExceeded t) s [.now, .clock, .clients, .events] (moved 4))
    ∧ (1 ≤ s.m.boot.startState → s.m.clock.timeState ≤ 1 → s.m.clock.ticked = false → s.m.clock.fwStart + 10000000000 ≤ t →
      Completes (.lockFallback t) s [.now, .clock, .clients, .events] (fun m' => ∀ now,
        now = (match s.m.cistern.savedTime with
          | some x => x + 1000000000
          | none => t) →
        m'.clock = { s.m.clock with now := now, timeState := 4, inRun := 0, outRun := 0 } ∧ Logged s.m m' now 0x0001 2 4))
    ∧ Completes (.moduleTimePersist t) s [.now, .cistern] (fun m' =>
        m'.clock.now = t ∧ m'.cistern = { s.m.cistern with savedTime := some t })

/-- A Sync of the PTP port and domain at a receiver gives the offset from the master: outside the first tick's step, it
counts towards the 16 consecutive intervals that lock or unlock the module; before the first tick an offset above
STEP_THRESHOLD_NS steps module time by its negative at once. A two-step Sync does so at its Follow_Up. -/
def Obligations.SyncsGovernTheOffset : Prop :=
  ∀ (s : State) (t : Nat) (port : Fin 4) (domain origin received : Nat) (i : Instr) (off : Int), s.m.clock.now ≤ t →
    s.m.timeSource = 0 → s.m.ptpMine port.val domain = true → s.m.ptpReceives = true →
    (i, off) ∈ [(Instr.ptpSync t port domain origin, (t : Int) - origin - s.m.clock.ptpDelay),
      (.ptpMessage t port (.followUp domain origin received), (received : Int) - origin - s.m.clock.ptpDelay)] →
    let lim : Int := s.m.cfg 0x1100 0x16
    let fresh := s.m.clock.timeState = 0 ∨ 3 ≤ s.m.clock.timeState
    let st := if s.m.clock.timeState = 0 ∨ 3 ≤ s.m.clock.timeState then 1 else s.m.clock.timeState
    (s.m.clock.ticked = true ∨ (-lim ≤ off ∧ off ≤ lim) →
      Completes i s [.now, .clock, .clients, .events] (fun m' =>
        m'.clock.now = t ∧ m'.clock.offset = off ∧ m'.clock.lastSync = t
          ∧ (-40 ≤ off → off ≤ 40 →
              (st = 1 → ¬ fresh → 15 ≤ s.m.clock.inRun → m'.clock.timeState = 2 ∧ m'.clock.inRun = 0)
              ∧ (¬ fresh → s.m.clock.inRun < 15 → m'.clock.timeState = st ∧ m'.clock.inRun = s.m.clock.inRun + 1)
              ∧ (fresh → m'.clock.timeState = 1 ∧ m'.clock.inRun = 1 ∧ m'.clock.outRun = 0)
              ∧ (st = 2 → m'.clock.timeState = 2))
          ∧ (off < -40 ∨ 40 < off →
              (st = 2 → ¬ fresh → 15 ≤ s.m.clock.outRun → m'.clock.timeState = 1 ∧ m'.clock.outRun = 0)
              ∧ (¬ fresh → s.m.clock.outRun < 15 → m'.clock.timeState = st ∧ m'.clock.outRun = s.m.clock.outRun + 1)
              ∧ (fresh → m'.clock.timeState = 1 ∧ m'.clock.inRun = 0 ∧ m'.clock.outRun = 1)
              ∧ (st = 1 → m'.clock.timeState = 1))))
    ∧ (s.m.clock.ticked = false → off < -lim ∨ lim < off →
      Completes i s [.now, .clock, .clients, .events] (fun m' =>
        m'.clock.now = ((t : Int) - off).toNat ∧ m'.clock.offset = off ∧ m'.clock.timeState = st
          ∧ (fresh ∨ Logged s.m m' m'.clock.now 0x0001 3 (unsgn 64 (-off)))))

/-- The other PTP messages and the PTP interval: a transmitter answers a Delay_Req with its receive time and sends Sync,
with a Follow_Up unless it is one-step; a receiver sends Delay_Req and takes the mean path delay from the Delay_Resp; an
Announce becomes the best master when it is the first, the standing best's own, or better. -/
def Obligations.PtpMessagesComplete : Prop :=
  ∀ (s : State) (t : Nat) (port : Fin 4) (domain : Nat), s.m.clock.now ≤ t → s.m.ptpMine port.val domain = true →
    (s.m.ptpReceives = false → Completes (.ptpMessage t port (.delayReq domain)) s [.now, .out] (fun m' =>
      m'.clock.now = t ∧ m'.out = s.m.out ++ [.ptp port.val 2 t]))
    ∧ (s.m.ptpReceives = true → ∀ t1 received, s.m.clock.ptpT1 = some t1 →
        Completes (.ptpMessage t port (.delayResp domain received)) s [.now, .clock] (fun m' => m'.clock = { s.m.clock with
          now := t, ptpT1 := none, ptpDelay := (s.m.clock.offset + s.m.clock.ptpDelay + ((received : Int) - t1)) / 2 }))
    ∧ (∀ p1 q p2 k, (s.m.clock.best = none ∨ ∃ x, s.m.clock.best = some x ∧ (x.identity = k ∨
          (⟨p1, q, p2, k⟩ : BestMaster).beats x = true)) →
        Completes (.ptpMessage t port (.announce domain p1 q p2 k)) s [.now, .clock] (fun m' =>
          m'.clock = { s.m.clock with now := t, best := some ⟨p1, q, p2, k⟩ }))
    ∧ (s.m.ptpReceives = true → s.m.timeSource = 0 → Completes (.ptpInterval t) s [.now, .clock, .out] (fun m' =>
        m'.clock = { s.m.clock with now := t, ptpT1 := some t } ∧ m'.out = s.m.out ++ [.ptp (s.m.cfg 0x1100 0x0A) 1 t]))
    ∧ (s.m.ptpReceives = false → Completes (.ptpInterval t) s [.now, .out] (fun m' => m'.clock.now = t
        ∧ m'.out = s.m.out ++ (.ptp (s.m.cfg 0x1100 0x0A) 0 t :: if s.m.cfgB 0x1100 0x0E then [] else [.ptp (s.m.cfg 0x1100 0x0A) 4 t])))

/-- TIME_STEP after the first tick: an offset above STEP_THRESHOLD_NS starts the drain, which ends at tick n_s + D, and
the step by its negative waits for that end. PPS_IN: a rising edge of a pulse of at least 1 us, 500 ms or more after the
last, is accepted; in FREE or HOLDOVER with the input enabled it gives the offset from the nearest second, and steps module
time where that is above the threshold. PPS_OUT rises at a whole second while it is enabled. -/
def Sys2Proof.Claims.StepsAndPulsesComplete : Prop :=
  ∀ (s : State) (t : Nat), s.m.clock.now ≤ t →
    let lim : Int := s.m.cfg 0x1100 0x16
    (s.m.clock.ticked = true → s.m.clock.drainStep = none → lim < s.m.clock.offset ∨ s.m.clock.offset < -lim →
      Completes (.timeStep t) s [.now, .clock] (fun m' => m'.clock.drainStep = some (-s.m.clock.offset)
        ∧ m'.clock.drainEnd = some (match s.m.clock.drainEnd with
            | some e => e
            | none => s.m.clock.sfc + 1 + s.m.depthAt (s.m.clock.sfc + 1))
        ∧ m'.clock.drainFrom = (if s.m.clock.drainEnd.isSome then s.m.clock.drainFrom else some (s.m.clock.sfc + 1))
        ∧ { m'.clock with drainFrom := none, drainEnd := none, drainStep := none }
            = { s.m.clock with now := t, drainFrom := none, drainEnd := none, drainStep := none }))
    ∧ (∀ ns, 1000 ≤ ns → (∀ e, s.m.clock.ppsEdge = some e → e + 500000000 ≤ t) →
        let f := t % 1000000000
        let off : Int := if f < 500000000 then (f : Int) else (f : Int) - 1000000000
        (s.m.cfg 0x1100 0x14 ≠ 1 ∨ s.m.clock.timeState < 3 → Completes (.ppsIn t ns) s [.now, .clock] (fun m' =>
          m'.clock = { s.m.clock with now := t, ppsEdge := some t }))
        ∧ (s.m.cfg 0x1100 0x14 = 1 → 3 ≤ s.m.clock.timeState → -lim ≤ off → off ≤ lim →
          Completes (.ppsIn t ns) s [.now, .clock] (fun m' => m'.clock = { s.m.clock with now := t, ppsEdge := some t, offset := off }))
        ∧ (s.m.cfg 0x1100 0x14 = 1 → 3 ≤ s.m.clock.timeState → off < -lim ∨ lim < off →
          Completes (.ppsIn t ns) s [.now, .clock, .clients, .events] (fun m' =>
            m'.clock.now = ((t : Int) - off).toNat ∧ m'.clock.ppsEdge = some t
              ∧ Logged s.m m' m'.clock.now 0x0001 3 (unsgn 64 (-off)))))
    ∧ (s.m.cfgB 0x1100 0x13 = true → t % 1000000000 = 0 → Completes (.ppsOutPulse t) s [.now, .power] (fun m' =>
        m'.clock.now = t ∧ m'.power = { s.m.power with ppsOut := some t }))

/-- The rows of module time: changes of state, steps and pulses. -/
def Obligations.TimeRowsComplete : Prop := Claims.TimeStateRowsComplete ∧ Claims.StepsAndPulsesComplete

/-! ## Power, start and reset (19, 17, 15) -/

/-- The rails: P54V in its range with standby present for 100 ms starts main conversion, with PWRGD, the bank's charger and
a start of cause POWER_ON due; standby in its range makes CAP_LIMIT read 950; its loss leaves a powered module running and
is logged; a release of RST_L shows on the pin. -/
def Sys2Proof.Claims.RailRowsComplete : Prop :=
  ∀ (s : State) (t mv : Nat), s.m.clock.now ≤ t →
    (s.m.power.mainOn = false → 48000 ≤ mv → mv ≤ 60000 → (∃ x, s.m.power.sbSince = some x ∧ x + 100000000 ≤ t) →
      Completes (.mainPowerRise t mv) s [.now, .power, .holdup, .boot] (fun m' => m'.clock.now = t
        ∧ m'.power = { s.m.power with p54 := mv, mainOn := true, pwrgd := true, tripped := false
                                      fault := s.m.power.fault && !s.m.power.tripped }
        ∧ m'.holdup = { s.m.holdup with charging := !s.m.holdup.stopped }
        ∧ m'.boot = { s.m.boot with nextCause := some 0 }))
    ∧ (s.m.power.sbSince = none → 3135 ≤ mv → mv ≤ 3465 → Completes (.standbyRise t mv) s [.now, .power] (fun m' =>
        m'.clock.now = t ∧ m'.power = { s.m.power with sb := mv, sbSince := some t, capLimit := 950 }))
    ∧ (s.m.power.sbSince ≠ none → s.m.power.mainOn = true → Completes (.standbyLost t) s [.now, .power, .clients, .events] (fun m' =>
        m'.clock.now = t ∧ m'.power = { s.m.power with sb := 0, sbSince := none } ∧ Logged s.m m' t 0x0011 6 0))
    ∧ (s.m.power.sbSince ≠ none → s.m.power.mainOn = false → Completes (.standbyLost t) s [.now, .power] (fun m' =>
        m'.clock.now = t ∧ m'.power = { s.m.power with sb := 0, sbSince := none }))
    ∧ ∀ ns us, Completes (.rstL t false ns us) s [.now, .power] (fun m' =>
        m'.clock.now = t ∧ m'.power = { s.m.power with rstL := true })

/-- Losing power under a running module, by POWER_FAIL_INDICATION, a low RST_L of at least 10 us or THERMAL_TRIP at
110 °C: PWRGD falls and PFAIL_L is asserted, the committed journal records that are not torn go to the flush area with the
time of the loss, and everything volatile is gone. A pin reset leaves a start of cause PIN due; a thermal trip keeps main
conversion off, logs the sensor and asserts the fault output. -/
def Sys2Proof.Claims.PowerFailFlushes : Prop :=
  ∀ (s : State) (t us : Nat) (torn : List Nat), s.m.clock.now ≤ t → s.m.running = true →
    let flushed := fun (m' : Module) (torn : List Nat) => Stopped s.m m' ∧ m'.clock.now = t
      ∧ m'.cistern.flushArea = s.m.cistern.journal.filter (fun r => r.commit && !torn.contains r.order)
      ∧ m'.cistern.flushed = true ∧ m'.cistern.lossNs = t ∧ m'.cistern.lossSfc = s.m.clock.sfc ∧ m'.cistern.flushUs = us
      ∧ m'.holdup.flushes = s.m.holdup.flushes + 1 ∧ m'.power.pwrgd = false ∧ m'.power.pfail = true
      ∧ m'.out = s.m.out ∧ m'.fresh = s.m.fresh
    (∃ s', exec (.powerFailIndication t us torn) s = .next s' ∧ s'.pending = s.pending ∧ flushed s'.m torn ∧ LogsSurvive s.m s'.m
      ∧ s'.m.power.mainOn = false ∧ s'.m.boot.nextCause = none)
    ∧ (∀ ns, 10000 ≤ ns →
        ∃ s', exec (.rstL t true ns us) s = .next s' ∧ s'.pending = s.pending ∧ flushed s'.m [] ∧ LogsSurvive s.m s'.m
          ∧ s'.m.power.rstL = false ∧ s'.m.power.mainOn = true ∧ s'.m.boot.nextCause = some 1)
    ∧ ∀ (temps : List Int) (i : Nat) (x : Int), temps.length = 20 → i < 16 → temps[i]? = some x → 1100 ≤ x →
        (∀ j y, j < i → temps[j]? = some y → y < 1100) →
        ∃ s', exec (.thermalTrip t temps us) s = .next s' ∧ s'.pending = s.pending ∧ flushed s'.m []
          ∧ Logged s.m s'.m t 0x0011 4 (put (unsgn 16 x) 16 16 + put i 8 0)
          ∧ s'.m.power.mainOn = false ∧ s'.m.power.tripped = true ∧ s'.m.power.fault = true ∧ s'.m.boot.nextCause = none

/-- The power rows: the rails as they rise and fall, and the loss of power under a running module. -/
def Obligations.PowerRowsComplete : Prop := Claims.RailRowsComplete ∧ Claims.PowerFailFlushes


/-- START: the start that is due, with main conversion on and RST_L high, runs phases 0 and 1 from what survives. Where a
slot verifies it ends in RESTORE with its cause, one more boot, the persisted settings in force (or the defaults where no
whole record stands), PWRGD high, PFAIL_L released and the cause logged; where none does the module stays in BOOT with the
fault output asserted. -/
def Obligations.StartRestoresTheModule : Prop :=
  ∀ (s : State) (t mv c : Nat) (torn : List Nat) (rimOk : Bool), s.m.power.mainOn = true → s.m.power.rstL = true →
    s.m.boot.nextCause = some c →
    ∃ s', exec (.start t mv torn rimOk) s = .next s' ∧ s'.pending = s.pending ∧ s'.m.out = s.m.out ∧ s'.m.fresh = s.m.fresh
      ∧ s'.m.boot.nextCause = none ∧ s'.m.boot.cause = c ∧ s'.m.boot.bootCount = (s.m.boot.bootCount + 1) % 2 ^ 64
      ∧ s'.m.power.pwrgd = true ∧ s'.m.power.pfail = false ∧ s'.m.schedule = [] ∧ s'.m.search = {} ∧ s'.m.tiles = []
      ∧ s'.m.ports.sessions = [] ∧ s'.m.lots.active = none ∧ s'.m.clock.ticked = false
      ∧ (s.m.selectSlot.2.2 = none → s'.m.boot.startState = 0 ∧ s'.m.power.fault = true)
      ∧ (s.m.selectSlot.2.2 ≠ none → s'.m.boot.startState = 1 ∧ s'.m.boot.persistStatus = s.m.od.record
          ∧ s'.m.od.persist = (if s.m.od.record = 0 then s.m.od.persist else [])
          ∧ s'.m.od.cfg = (if s.m.od.record = 0 then s.m.od.persist else [])
          ∧ s'.m.clock.period = (match mGet s'.m.od.persist (odKey 0x1100 0x01 0) with
              | some v => leNat v
              | none => 250000)
          ∧ s'.m.clock.depth = (match mGet s'.m.od.persist (odKey 0x1100 0x02 0) with
              | some v => leNat v
              | none => 3)
          ∧ s'.m.power.cap = (match mGet s'.m.od.persist (odKey 0x7000 0x01 0) with
              | some v => leNat v
              | none => 950))

/-- Resets of a running module without a power failure: WATCHDOG (cause 3), a failed CODE_CHECK and UNSPARABLE (cause 5)
flush the committed journal, lose what is volatile and leave the start of their cause due; UNSPARABLE and CODE_CHECK log
the fault first. A code that has its digest D_2 only has the corrected errors of its SRAM counted. -/
def Obligations.FaultResetsComplete : Prop :=
  ∀ (s : State) (t us : Nat), s.m.clock.now ≤ t → s.m.running = true →
    let reset := fun (m' : Module) (cause : Nat) => Stopped s.m m' ∧ m'.clock.now = t ∧ m'.boot.nextCause = some cause
      ∧ m'.cistern.flushArea = s.m.cistern.journal.filter (fun r => r.commit) ∧ m'.cistern.flushed = true
      ∧ m'.power.pwrgd = s.m.power.pwrgd ∧ m'.out = s.m.out ∧ m'.fresh = s.m.fresh
    (∃ s', exec (.watchdog t us) s = .next s' ∧ s'.pending = s.pending ∧ reset s'.m 3 ∧ LogsSurvive s.m s'.m)
    ∧ (∀ (digest : Bytes) (corrected : Nat),
        (digest ≠ s.m.boot.comps.getD 1 [] → ∃ s', exec (.codeCheck t digest corrected us) s = .next s' ∧ s'.pending = s.pending
          ∧ reset s'.m 5 ∧ Logged s.m s'.m t 0x000F 11 3)
        ∧ (digest = s.m.boot.comps.getD 1 [] → Completes (.codeCheck t digest corrected us) s [.now, .cnt] (fun m' => m'.clock.now = t
          ∧ m'.ctr 0x6000 0x14 = (s.m.ctr 0x6000 0x14 + corrected) % 2 ^ 64)))
    ∧ ∀ cause, cause < 2 ^ 64 → cause ≠ 1 ∨ s.m.health.faultDue = true →
        ∃ s', exec (.unsparable t cause us) s = .next s' ∧ s'.pending = s.pending ∧ reset s'.m 5
          ∧ Logged s.m s'.m t 0x000F 11 cause

/-- The resets that a host writes: the reply goes first. RESET 1 and FACTORY_RESET drain an operating module, which ends
its frames at tick n_s + D before the orderly stop; RESET 2 resets at once, with the flush. -/
def Obligations.ResetWritesComplete : Prop :=
  ∀ (s : State) (t us : Nat) (r : VReq) (c : Client) (rest : List VReq) (o : Obj) (v : Bytes), Served s.m t r c rest →
    Writes (s.m.executing t rest) r c o v → r.target = 0 →
    let ack := replyBytes r 0 s.m.clock.sfc 0 (toLe 8 t)
    let drains := fun (cause erase : Nat) (m' : Module) => Answered s.m m' t r rest c ack ∧ m'.clock.drainReset = some cause
      ∧ m'.clock.factory = erase ∧ m'.clock.drainEnd = some (match s.m.clock.drainEnd with
          | some e => e
          | none => s.m.clock.sfc + 1 + s.m.depthAt (s.m.clock.sfc + 1))
    let stops := fun (cause : Nat) (s' : State) => s'.pending = s.pending ∧ s'.m.boot.nextCause = some cause
      ∧ s'.m.boot.startState = 0 ∧ s'.m.cistern.savedTime = some t ∧ s'.m.schedule = [] ∧ s'.m.ports = {} ∧ s'.m.cistern.journal = []
      ∧ s'.m.boot.ownerKey = s.m.boot.ownerKey
    let cause := if (s.m.slotIn 3).isSome then 4 else 2
    (r.writes 0x5100 0x05 = true → v = [1] → s.m.clock.ticked = true →
      Completes (.orderlyReset t) s [.now, .queue, .clients, .cnt, .inject, .out, .clock] (drains cause 0))
    ∧ (r.writes 0x5100 0x05 = true → v = [1] → s.m.clock.ticked = false →
        ∃ s', exec (.orderlyReset t) s = .next s' ∧ stops cause s' ∧ s'.m.lots.library = s.m.lots.library
          ∧ s'.m.od.persist = s.m.od.persist)
    ∧ (r.writes 0x5100 0x08 = true → s.m.clock.ticked = true →
        Completes (.factoryReset t) s [.now, .queue, .clients, .cnt, .inject, .out, .clock] (drains 2 (leNat v)))
    ∧ (r.writes 0x5100 0x08 = true → s.m.clock.ticked = false →
        ∃ s', exec (.factoryReset t) s = .next s' ∧ stops 2 s'
          ∧ s'.m.od.persist = (if (leNat v).testBit 0 then [] else s.m.od.persist)
          ∧ s'.m.lots.library = (if (leNat v).testBit 1 then [] else s.m.lots.library)
          ∧ ((leNat v).testBit 2 = true → s'.m.cistern.nand = []))
    ∧ (r.writes 0x5100 0x05 = true → v = [2] → ∃ s', exec (.immediateReset t us) s = .next s' ∧ s'.pending = s.pending
        ∧ Stopped s.m s'.m ∧ s'.m.boot.nextCause = some 1 ∧ s'.m.cistern.lossNs = t
        ∧ s'.m.cistern.flushArea = s.m.cistern.journal.filter (fun r => r.commit)
        ∧ (s.m.health.armed = false → s'.m.out = s.m.out ++ [.datagram r.port r.addr r.udp ack]))

/-- The clock step under power and heat: an emergency of THERMAL, POWER or UNDERVOLTAGE, where its condition holds, is taken
at the first tick whose change-list close has not passed, at least as slow as its rule says and as any step standing, is
counted and logged, and cancels a pending return; a CAP_LIMIT below the caps in force takes its own step the same way; and
STEP_RESTORE, when no cause has held for RESTORE_HOLD_S, schedules the return with the lead of R42 and logs its frame. -/
def Obligations.EmergencyStepsComplete : Prop :=
  ∀ (s : State) (t mv watts : Nat), s.m.clock.now ≤ t →
    let m := s.m.at t
    let cap := min s.m.power.cap s.m.power.capLimit
    let quiet := s.m.power.emergency = 0 ∨ s.m.power.therm = true ∨ (10 * watts ≤ 9 * cap ∧ 48000 ≤ mv)
    let read := { s.m.power with p54 := mv, watts := watts, amps := if mv = 0 then 0 else watts * 1000000 / mv, peak := max s.m.power.peak watts
                                 calmSince := if quiet then s.m.power.calmSince else some t
                                 hold := if quiet then s.m.power.hold else s.m.cfg 0x7000 0x06 }
    let down := fun (cause least : Nat) (m' : Module) => ∃ step, least ≤ step ∧ s.m.power.emergency ≤ step
      ∧ (s.m.schedule = [] → step = max least s.m.power.emergency)
      ∧ { kind := 1, key := emergencyKey, value := toLe 1 step, target := m.clock.firstFrame, seq := s.m.nextSeq } ∈ m'.schedule
      ∧ (∀ a ∈ m'.schedule, ¬ (a.kind = 1 ∧ a.key = emergencyKey ∧ a.value = [0]) ∨ a.seq = s.m.nextSeq)
      ∧ m'.power = { read with cause := cause, restoreDue := false, hold := s.m.cfg 0x7000 0x06
                               calmSince := if s.m.power.therm then none else some t }
      ∧ m'.ctr 0x7000 0x0D = (s.m.ctr 0x7000 0x0D + 1) % 2 ^ 64 ∧ Logged s.m m' t 0x0011 1 (put cause 8 8 + put step 8 0)
    let parts := [Part.now, .power, .schedule, .nextSeq, .cnt, .clients, .events]
    (s.m.power.therm = true → Completes (.emergencyStep t 0 mv watts) s parts (down 1 (min 3 (s.m.clock.step + 1))))
    ∧ (105 * cap < 100 * watts → Completes (.emergencyStep t 1 mv watts) s parts (down 2 (min 3 (capStep cap + 1))))
    ∧ (42000 ≤ mv → mv < 47000 → Completes (.emergencyStep t 2 mv watts) s parts (down 3 3))
    ∧ (s.m.power.capLimit < min s.m.power.cap s.m.power.limit → s.m.limitPending = false →
        Completes (.emergencyStep t 3 mv watts) s parts (fun m' =>
          m'.schedule = insertAction { kind := 1, key := capLimitKey, value := toLe 2 s.m.power.capLimit, target := m.clock.firstFrame, seq := s.m.nextSeq }
            s.m.schedule
          ∧ m'.power = { read with cause := 4 } ∧ m'.ctr 0x7000 0x0D = (s.m.ctr 0x7000 0x0D + 1) % 2 ^ 64
          ∧ Logged s.m m' t 0x0011 1 (put 4 8 8 + put (capStep cap) 8 0)))
    ∧ (s.m.power.emergency ≠ 0 → s.m.power.therm = false → s.m.power.restoreDue = false → m.leadFrame < 2 ^ 64 →
        (∃ x, s.m.power.calmSince = some x ∧ x + s.m.power.hold * 1000000000 ≤ t) →
        Completes (.stepRestore t) s [.now, .power, .schedule, .nextSeq, .clients, .events] (fun m' =>
          m'.schedule = insertAction { kind := 1, key := emergencyKey, value := [0], target := m.leadFrame, seq := s.m.nextSeq } s.m.schedule
          ∧ m'.power = { s.m.power with restoreDue := true } ∧ Logged s.m m' t 0x0011 2 m.leadFrame))

/-- The thermal alert: a tile die at 100 °C or more, an inlet above 50 °C or a package of the hot poll asserts THERM_L, once,
counts and logs it with the first sensor that asks for it; it is released, and the hold span begins, when every die is below
95 °C, the inlet at 48 °C or less and no package hot. Between the two nothing but the readings changes. Sensor 19 keeps
the bank controller's reading. -/
def Obligations.ThermalAlertHasHysteresis : Prop :=
  ∀ (s : State) (t : Nat) (temps : List Int) (i : Instr), s.m.clock.now ≤ t → temps.length = 20 →
    i ∈ [Instr.thermalAlert t temps, .thermalAlertEnd t temps] →
    let hot := (∃ k x, k < 16 ∧ temps[k]? = some x ∧ 1000 ≤ x) ∨ (∃ x, temps[16]? = some x ∧ 500 < x) ∨ s.m.mem.hotPackages ≠ []
    let cool := (∀ k x, k < 16 → temps[k]? = some x → x < 950) ∧ (∀ x, temps[16]? = some x → x ≤ 480) ∧ s.m.mem.hotPackages = []
    let read := { s.m.power with temps := temps.set 19 s.m.holdup.temp }
    (hot → s.m.power.therm = false → Completes i s [.now, .power, .cnt, .clients, .events] (fun m' =>
      m'.clock.now = t ∧ m'.power = { read with therm := true } ∧ m'.ctr 0x7000 0x0E = (s.m.ctr 0x7000 0x0E + 1) % 2 ^ 64
        ∧ ∃ data, Logged s.m m' t 0x0011 3 data))
    ∧ (cool → s.m.power.therm = true → Completes i s [.now, .power] (fun m' =>
        m'.clock.now = t ∧ m'.power = { read with therm := false, calmSince := some t, hold := s.m.cfg 0x7000 0x06 }))
    ∧ (hot ∧ s.m.power.therm = true ∨ (¬ hot ∧ (s.m.power.therm = false ∨ ¬ cool)) → Completes i s [.now, .power] (fun m' =>
        m'.clock.now = t ∧ m'.power = read))

/-- The SMBus reads answer while standby is present, and change nothing but module time and what the module has sent:
STATUS, INPUT_POWER, HOTTEST, CAP_LIMIT and KEY_RESULT. -/
def Sys2Proof.Claims.SmbusReadsAnswer : Prop :=
  ∀ (s : State) (t : Nat), s.m.clock.now ≤ t → s.m.power.sbSince ≠ none →
    let answers := fun (i : Instr) (bs : Bytes) => Completes i s [.now, .out] (fun m' => m'.clock.now = t ∧ m'.out = s.m.out ++ [.smbus bs])
    answers (.status t) (toLe 2 (put (b2n s.m.power.pwrgd) 1 0 + put (b2n (!s.m.boot.ownerKey.isEmpty)) 1 1 + put (b2n s.m.power.fault) 1 2
      + put (b2n s.m.power.therm) 1 3 + put s.m.healthState 4 4 + put s.m.boot.startState 8 8))
    ∧ answers (.inputPower t) (toLe 2 s.m.power.watts)
    ∧ (∀ x, x ∈ s.m.power.temps.take 16 → (∀ y ∈ s.m.power.temps.take 16, y ≤ x) → answers (.hottest t) (toLe 2 (unsgn 16 x)))
    ∧ answers (.capLimit t none) (toLe 2 s.m.power.capLimit)
    ∧ answers (.keyResult t) (toLe 1 s.m.power.keyResult)

/-- CAP_LIMIT written on the SMBus: any other value than 500, 650, 800 and 950 is answered NAK; the value in force changes
nothing; before firmware runs a new value stands at once; below the caps in force it takes the emergency step of cause 4,
and otherwise its step is scheduled with the lead of R42. A change replaces a step still pending and is logged. -/
def Sys2Proof.Claims.CapLimitWritesComplete : Prop :=
  ∀ (s : State) (t v : Nat), s.m.clock.now ≤ t → s.m.power.sbSince ≠ none →
    let m := s.m.at t
    let old := s.m.schedule.filter (fun a => !(a.kind == 1 && a.key == capLimitKey))
    (¬ (v = 500 ∨ v = 650 ∨ v = 800 ∨ v = 950) → Completes (.capLimit t (some v)) s [.now, .out] (fun m' => m'.out = s.m.out ++ [.smbus []]))
    ∧ ((v = 500 ∨ v = 650 ∨ v = 800 ∨ v = 950) →
        (v = s.m.power.capLimit → Completes (.capLimit t (some v)) s [.now] (fun m' => m'.clock.now = t))
        ∧ (v ≠ s.m.power.capLimit → s.m.running = false →
            Completes (.capLimit t (some v)) s [.now, .power, .schedule, .clients, .events] (fun m' =>
              m'.power = { s.m.power with capLimit := v, limit := v } ∧ m'.schedule = old ∧ Logged s.m m' t 0x0011 5 v))
        ∧ (v ≠ s.m.power.capLimit → s.m.running = true → min s.m.power.cap s.m.power.limit ≤ v →
            Completes (.capLimit t (some v)) s [.now, .power, .schedule, .nextSeq, .clients, .events] (fun m' =>
              m'.power = { s.m.power with capLimit := v } ∧ Logged s.m m' t 0x0011 5 v
                ∧ m'.schedule = insertAction { kind := 1, key := capLimitKey, value := toLe 2 v, seq := s.m.nextSeq
                                               target := ({ m with schedule := old } : Module).leadFrame } old))
        ∧ (v ≠ s.m.power.capLimit → s.m.running = true → v < min s.m.power.cap s.m.power.limit →
            Completes (.capLimit t (some v)) s [.now, .power, .schedule, .nextSeq, .clients, .events, .cnt] (fun m' =>
              m'.power = { s.m.power with capLimit := v, cause := 4 }
                ∧ m'.schedule = insertAction { kind := 1, key := capLimitKey, value := toLe 2 v, target := m.clock.firstFrame, seq := s.m.nextSeq } old
                ∧ m'.ctr 0x7000 0x0D = (s.m.ctr 0x7000 0x0D + 1) % 2 ^ 64)))

/-- The SMBus: its reads answer, and a write of CAP_LIMIT takes its effect. -/
def Obligations.SmbusRowsComplete : Prop := Claims.SmbusReadsAnswer ∧ Claims.CapLimitWritesComplete


/-- The owner key by SMBus: chunks collect by index; a commit of a module with an owner is refused with KEY_RESULT 2, of an
incomplete key with 4, before the supervisor runs with 5, with another key ID with 3, and otherwise installs the key and
ends every unlock; OWNER_CLEAR removes the key while RECOVERY_L is low. Each commit and clear discards the chunks. -/
def Obligations.SmbusKeyRowsComplete : Prop :=
  ∀ (s : State) (t : Nat) (b : Bytes), s.m.clock.now ≤ t → s.m.power.sbSince ≠ none →
    let done := fun (n : Nat) (m' : Module) => m'.power = { s.m.power with keyResult := n, chunks := [] } ∧ m'.boot = s.m.boot
    let owned := fun (key : Bytes) (n : Nat) (m' : Module) => m'.power = { s.m.power with keyResult := n, chunks := [] }
      ∧ m'.boot = { s.m.boot with ownerKey := key } ∧ (∀ c ∈ m'.vilur.clients, c.unlockEnd = none)
      ∧ Logged s.m m' t 0x000D 2 (if key = [] then 0 else leNat (keyId key) % 2 ^ 64)
    let key := (s.m.power.chunks.map (·.2)).flatten
    let none' := s.m.boot.ownerKey = []
    (b.length = 17 → leAt b 0 1 ≤ 121 → Completes (.ownerKeyChunk t b) s [.now, .power] (fun m' =>
      m'.power = { s.m.power with chunks := mPut s.m.power.chunks (leAt b 0 1) (b.drop 1) }))
    ∧ ((Instr.ownerKeyCommit t b).wellFormed = true → b.length = 8 →
        (¬ none' → Completes (.ownerKeyCommit t b) s [.now, .power] (done 2))
        ∧ (none' → s.m.power.chunks.length ≠ 122 → Completes (.ownerKeyCommit t b) s [.now, .power] (done 4))
        ∧ (none' → s.m.power.chunks.length = 122 → s.m.boot.startState = 0 → Completes (.ownerKeyCommit t b) s [.now, .power] (done 5))
        ∧ (none' → s.m.power.chunks.length = 122 → 1 ≤ s.m.boot.startState →
            (keyId key ≠ b → Completes (.ownerKeyCommit t b) s [.now, .power] (done 3))
            ∧ (keyId key = b → Completes (.ownerKeyCommit t b) s [.now, .power, .boot, .clients, .events] (owned key 1))))
    ∧ (s.m.power.recoveryL = true → Completes (.smbusOwnerClear t 0xC5) s [.now, .power] (done 7))
    ∧ (s.m.power.recoveryL = false → s.m.boot.startState = 0 → Completes (.smbusOwnerClear t 0xC5) s [.now, .power] (done 5))
    ∧ (s.m.power.recoveryL = false → 1 ≤ s.m.boot.startState → none' → Completes (.smbusOwnerClear t 0xC5) s [.now, .power] (done 6))
    ∧ (s.m.power.recoveryL = false → 1 ≤ s.m.boot.startState → ¬ none' →
        Completes (.smbusOwnerClear t 0xC5) s [.now, .power, .boot, .clients, .events] (owned [] 6))

/-! ## Security (17) -/

/-- The ownership, attestation and debug writes: OWNER_KEY_REPLACE and OWNER_CLEAR (1) of a module with an owner key change
it, end every unlock and log the new key's ID; without an owner key they are refused with 67; ATTEST_REQUEST leaves a
report over the given nonce, signed by the identity key (log 7), with the client that asked; DEBUG_ENABLE sets the debug
state, and that debugging has been enabled stays known. -/
def Obligations.SecurityWritesComplete : Prop :=
  ∀ (s : State) (t : Nat) (r : VReq) (c : Client) (rest : List VReq) (o : Obj) (v : Bytes), Served s.m t r c rest →
    Writes (s.m.executing t rest) r c o v → r.target = 0 →
    let ack := replyBytes r 0 s.m.clock.sfc 0 (toLe 8 t)
    let owned := fun (key : Bytes) (m' : Module) => m'.boot = { s.m.boot with ownerKey := key } ∧ (∀ x ∈ m'.vilur.clients, x.unlockEnd = none)
      ∧ Logged s.m m' t 0x000D 2 (if key = [] then 0 else leNat (keyId key) % 2 ^ 64) ∧ ∃ c', Answered s.m m' t r rest c' ack
    let reply := [Part.now, .queue, .clients, .cnt, .inject, .out]
    (r.writes 0x5000 0x04 = true → s.m.boot.ownerKey ≠ [] →
      Completes (.ownerKeyReplace t) s (.boot :: .events :: reply) (owned v))
    ∧ (r.writes 0x5000 0x05 = true → s.m.boot.ownerKey ≠ [] → v = [1] →
        Completes (.ownerClear t) s (.boot :: .events :: reply) (owned []))
    ∧ (r.writes 0x5000 0x05 = true → s.m.boot.ownerKey ≠ [] → v ≠ [1] →
        Completes (.ownerClear t) s reply (fun m' => Answered s.m m' t r rest c ack ∧ Quiet s.m m' r))
    ∧ (s.m.boot.ownerKey = [] → ∀ i : Instr, (r.writes 0x5000 0x04 = true ∧ i = .ownerKeyReplace t) ∨ (r.writes 0x5000 0x05 = true ∧ i = .ownerClear t) →
        Completes i s reply (fun m' => Answered s.m m' t r rest c (replyBytes r 67 0 0 [])))
    ∧ (r.writes 0x5000 0x08 = true → Completes (.attestRequest t) s reply (fun m' =>
        let body := (s.m.executing t rest).attestBody v
        Quiet s.m m' r ∧ Answered s.m m' t r rest
          { c with attest := body ++ (List.range 3309).map (Config.dikSignByte body (ascii "FN2-ATTEST")) } ack))
    ∧ (r.writes 0x5000 0x10 = true → Completes (.debugEnable t) s (.boot :: reply) (fun m' =>
        m'.boot = { s.m.boot with debug := v == [1], debugged := s.m.boot.debugged || v == [1] }
          ∧ Quiet s.m m' r ∧ Answered s.m m' t r rest c ack))

/-- Firmware update: FW_UPDATE reads the image from the Store area and applies the checks of R489 and R490; the first that
fails refuses it (a rollback with 65, any other with 64 and its number), and an image that passes empties the slot not
booted from and begins its write. FW_UPDATE_DONE makes the slot PENDING with that image where it reads back, and fails the
update otherwise. FW_COMMIT of 1 raises MIN_SVN to the running image's SVN, which revokes the slots below it, and is refused
while an image is pending. -/
def Obligations.FirmwareRowsComplete : Prop :=
  (∀ (s : State) (t : Nat) (r : VReq) (c : Client) (rest : List VReq) (o : Obj) (v : Bytes), Served s.m t r c rest →
    Writes (s.m.executing t rest) r c o v → r.target = 0 →
    let reply := [Part.now, .queue, .clients, .cnt, .inject, .out]
    (r.writes 0x5000 0x0C = true → allZero (sub v 16 16) = true → leAt v 0 8 + leAt v 8 8 ≤ s.m.cfg 0x4300 0x03 →
      s.m.boot.updateState ≠ 1 → s.m.boot.updateState ≠ 2 → s.m.cistern.badIn (leAt v 0 8) (leAt v 8 8) = none →
      let b := s.m.cistern.read (leAt v 0 8) (leAt v 8 8)
      Completes (.fwUpdate t) s (.boot :: reply) (fun m' =>
        (s.m.imageCheck b = 0 → Answered s.m m' t r rest c (replyBytes r 0 0 0 (toLe 8 t))
          ∧ m'.boot = { s.m.boot with updateState := 2, updateImage := b, slots := s.m.boot.slots.set (1 - s.m.boot.booted) {} })
        ∧ (s.m.imageCheck b = 5 → Answered s.m m' t r rest c (replyBytes r 65 0 0 []) ∧ m'.boot = s.m.boot)
        ∧ ∀ n, n ≠ 0 → n ≠ 5 → s.m.imageCheck b = n → Answered s.m m' t r rest c (replyBytes r 64 0 n []) ∧ m'.boot = s.m.boot))
    ∧ (r.writes 0x5000 0x0E = true → s.m.slotIn 3 = none → v = [1] →
        Completes (.fwCommit t) s (.boot :: reply) (fun m' =>
          let svn := max s.m.boot.minSvn s.m.boot.svn
          m'.boot.minSvn = svn ∧ Answered s.m m' t r rest c (replyBytes r 0 s.m.clock.sfc 0 (toLe 8 t)) ∧ Quiet s.m m' r
            ∧ ∀ (i : Nat) (x : Slot), s.m.boot.slots[i]? = some x →
                m'.boot.slots[i]? = some (if x.state ≠ 0 ∧ fwSvn x.image < svn then { x with state := 5 } else x)))
    ∧ (r.writes 0x5000 0x0E = true → s.m.slotIn 3 ≠ none →
        Completes (.fwCommit t) s reply (fun m' => Answered s.m m' t r rest c (replyBytes r 66 0 0 []))))
  ∧ ∀ (s : State) (t : Nat), s.m.clock.now ≤ t → s.m.boot.updateState = 2 →
      Completes (.fwUpdateDone t true) s [.now, .boot] (fun m' => m'.clock.now = t
        ∧ m'.boot = { s.m.boot with updateState := 3, updateImage := []
                                    slots := s.m.boot.slots.set (1 - s.m.boot.booted) { image := s.m.boot.updateImage, state := 3 } })
      ∧ Completes (.fwUpdateDone t false) s [.now, .boot] (fun m' => m'.clock.now = t
        ∧ m'.boot = { s.m.boot with updateState := 4, updateImage := [] })

/-! ## Health, events and injection (18, 12) -/

/-- CUTOVER_REQUEST with a frame that has the lead of R42 schedules the cut-over of a healthy tile to the spare of R506 and
marks the tile; a tile already quarantined or about to move is refused with 82, and one without a spare with 81.
CLEAR_FAILED of 1 clears the marks for the next start. EVENT_QUERY leaves the records from the SEQ asked for, in order, with
the client. -/
def Sys2Proof.Claims.HealthWritesComplete : Prop :=
  ∀ (s : State) (t : Nat) (r : VReq) (c : Client) (rest : List VReq) (o : Obj) (v : Bytes), Served s.m t r c rest →
    Writes (s.m.executing t rest) r c o v → r.target = 0 →
    let m := s.m.executing t rest
    let reply := [Part.now, .queue, .clients, .cnt, .inject, .out]
    let tile := fld (leNat v) 8 0
    let n := if fld (leNat v) 127 64 = 0 then m.leadFrame else fld (leNat v) 127 64
    (r.writes 0x6000 0x06 = true → m.leadOk n (m.depthAt n) = true →
      (s.m.cutPending 0 tile = false → (s.m.tileHealth tile).state ≠ 1 → s.m.hostFull = false → ∀ x, s.m.chooseSpare tile = some x →
        Completes (.cutoverRequest t) s (.schedule :: .nextSeq :: .health :: reply) (fun m' =>
          m'.schedule = insertAction { kind := 4, arg := s.m.cutEpoch 0 n, part := partOf 0 tile x, target := n, host := true, seq := s.m.nextSeq }
            s.m.schedule
          ∧ m'.tileHealth tile = { s.m.tileHealth tile with state := 2 } ∧ (∀ k, k ≠ tile → m'.tileHealth k = s.m.tileHealth k)
          ∧ Quiet s.m m' r ∧ Answered s.m m' t r rest c (replyBytes r 0 n 0 (toLe 8 t))))
      ∧ (s.m.cutPending 0 tile = true ∨ (s.m.tileHealth tile).state = 1 →
          Completes (.cutoverRequest t) s reply (fun m' => Answered s.m m' t r rest c (replyBytes r 82 0 0 [])))
      ∧ (s.m.cutPending 0 tile = false → (s.m.tileHealth tile).state ≠ 1 → s.m.chooseSpare tile = none →
          Completes (.cutoverRequest t) s reply (fun m' => Answered s.m m' t r rest c (replyBytes r 81 0 0 []))))
    ∧ (r.writes 0x6000 0x11 = true → v = [1] → Completes (.clearFailed t) s (.health :: reply) (fun m' =>
        m'.health = { s.m.health with clearFailed := true } ∧ Quiet s.m m' r
          ∧ Answered s.m m' t r rest c (replyBytes r 0 0 0 (toLe 8 t))))
    ∧ (r.writes 0x6000 0x16 = true → Completes (.eventQuery t) s reply (fun m' =>
        let found := (mGetD s.m.health.events (fld (leNat v) 15 0) []).filter
          (fun e => decide ((e.seq + 2 ^ 32 - fld (leNat v) 63 32) % 2 ^ 32 < 2 ^ 31))
        Quiet s.m m' r ∧ Answered s.m m' t r rest { c with events := (found.take (fld (leNat v) 31 16)).flatMap EventRec.bytes }
          (replyBytes r 0 s.m.clock.sfc 0 (toLe 8 t))))

/-- INJECT_ARM and INJECTOR_WRITE are at-tick writes: each becomes a KIND 0 action of the first open frame or the one named.
INJECT_LIMIT, the limit's frames after the arming tick, disarms every injector and logs it; what an injector holds stays. -/
def Sys2Proof.Claims.InjectionRowsComplete : Prop :=
  (∀ (s : State) (t : Nat) (r : VReq) (c : Client) (rest : List VReq) (o : Obj) (v : Bytes) (i : Instr), Served s.m t r c rest →
    Writes (s.m.executing t rest) r c o v →
    (i = .injectArm t ∧ r.writes 0x6100 0x04 = true) ∨ (i = .injectorWrite t ∧ (r.writes 0x6100 0x02 = true ∨ r.writes 0x6100 0x03 = true)) →
    let f := (s.m.executing t rest).clock.firstFrame
    (∀ n, n = (if r.target = 0 then f else r.target) → f ≤ n → s.m.hostFull = false →
      Completes i s [.now, .queue, .clients, .cnt, .inject, .out, .persist, .schedule, .nextSeq] (fun m' =>
        m'.schedule = insertAction { kind := 0, key := odKey o.index o.sub 0, value := o.stored v, target := n, host := true, seq := s.m.nextSeq }
          s.m.schedule
        ∧ Quiet s.m m' r ∧ Answered s.m m' t r rest c (replyBytes r 0 n 0 (toLe 8 t))))
    ∧ (r.target ≠ 0 → r.target < f → Completes i s [.now, .queue, .clients, .cnt, .inject, .out] (fun m' =>
        Answered s.m m' t r rest c (replyBytes r 10 f 0 []))))
  ∧ ∀ s : State, s.m.health.armed = true → s.m.health.armSfc + s.m.cfg 0x6100 0x05 ≤ s.m.clock.sfc →
      Completes .injectLimit s [.inject, .health, .clients, .events] (fun m' =>
        m'.health.armed = false ∧ m'.health.armSfc = 0 ∧ Logged s.m m' s.m.clock.now 0x0010 2 0
          ∧ (∀ p ∈ m'.ports.inject, p.2.live = false)
          ∧ m'.ports.inject.map (fun p => (p.1, p.2.gen, p.2.count, p.2.held)) = s.m.ports.inject.map (fun p => (p.1, p.2.gen, p.2.count, p.2.held)))

/-- The writes of the health and injection objects, and the limit that disarms. -/
def Obligations.HealthAndInjectionWritesComplete : Prop := Claims.HealthWritesComplete ∧ Claims.InjectionRowsComplete


/-- HANG_LIMIT fails a tile that is not already quarantined: it is quarantined from the frame in force, the failure is
logged with trigger 2, its planned cut-overs leave the schedule, and a forced cut-over to the spare of R506 is placed at the
first tick whose change-list close has not passed, or the reset of R510 is due where no spare is left. HEALTH_WINDOW restarts
the counts of corrected errors at each multiple of 86,400 s of module time. -/
def Obligations.HealthTriggersComplete : Prop :=
  ∀ (s : State) (t : Nat), s.m.clock.now ≤ t →
    (∀ tile : Fin 512, (s.m.tileHealth tile.val).state ≠ 1 →
      let m0 := s.m.unplace (fun a => a.kind == 4 && partKind a.part == 0 && partNum a.part == tile.val)
      (∃ s', exec (.hangLimit t tile) s = .next s' ∧ s'.pending = s.pending ∧ s'.m.clock.now = t ∧ (s'.m.tileHealth tile.val).state = 1
        ∧ (s'.m.tileHealth tile.val).detected = s.m.clock.sfc
        ∧ (m0.chooseSpare tile.val = none → s'.m.health.faultDue = true)
        ∧ ∀ x, m0.chooseSpare tile.val = some x → ∃ a ∈ s'.m.schedule, a.kind = 4 ∧ a.target = (s.m.at t).clock.firstFrame
            ∧ a.part = partOf 0 tile.val x)
      ∧ (s.m.streams.sets = [] → m0.scheduleFull = false →
        Completes (.hangLimit t tile) s [.now, .schedule, .nextSeq, .health, .events, .clients] (fun m' =>
          (∀ k, k ≠ tile.val → m'.tileHealth k = s.m.tileHealth k) ∧ Logged s.m m' t 0x000F 9 (put 2 4 12 + put tile.val 9 0)
            ∧ (m0.chooseSpare tile.val = none → m'.schedule = m0.schedule)
            ∧ ∀ x, m0.chooseSpare tile.val = some x → m'.health.faultDue = s.m.health.faultDue
                ∧ ∃ epoch, m'.schedule = insertAction { kind := 4, arg := epoch, part := partOf 0 tile.val x, seq := s.m.nextSeq
                                                        target := (s.m.at t).clock.firstFrame } m0.schedule)))
    ∧ (t / 86400000000000 ≠ s.m.health.window → Completes (.healthWindow t) s [.now, .health, .mem] (fun m' => m'.clock.now = t
        ∧ m'.health = { s.m.health with window := t / 86400000000000 }
        ∧ m'.mem = { s.m.mem with pageErrors := [], rowErrors := [] }))
    ∧ (t / 86400000000000 = s.m.health.window → Completes (.healthWindow t) s [.now] (fun m' => m'.clock.now = t))

/-! ## Memory (12) -/

/-- MEMORY_ERROR at an address of its source's memory: the error is recorded with the burst's or unit's address and counted
under its source and class. A corrected or link-corrected error changes no data: below the limit of its page or row it only
adds to that part's count, and to its tile's. A transient error changes nothing more. -/
def Obligations.CorrectedErrorsOnlyCount : Prop :=
  ∀ (s : State) (t addr syndrome : Nat) (source cls : Fin 4), s.m.clock.now ≤ t → s.m.errorAddrOk source.val addr = true → cls.val ≠ 2 →
    let a := if source.val = 0 ∨ source.val = 3 then addr / 64 * 64 else addr / 32 * 32
    let o := a - 0x040000000000
    let tile := o / 0x800000 % 512
    let row := tile * 2 ^ 15 + o % 0x800000 / 256
    let counted := fun m' : Module => m'.clock.now = t ∧ m'.mem.lastError = s.m.errorRecord source.val cls.val a syndrome
      ∧ ∀ k, mGetD m'.od.cnt k 0 = (match errorCounter source.val cls.val with
          | some c => if k = odKey 0x4000 c 0 then (mGetD s.m.od.cnt k 0 + 1) % 2 ^ 64 else mGetD s.m.od.cnt k 0
          | none => mGetD s.m.od.cnt k 0)
    let run := Instr.memoryError t source cls addr syndrome
    (cls.val ≠ 0 ∨ source.val = 3 → Completes run s [.now, .cnt, .mem] (fun m' => counted m'
      ∧ m'.mem = { s.m.mem with lastError := m'.mem.lastError }))
    ∧ (cls.val = 0 → source.val = 0 → mGetD s.m.mem.pageErrors (pageOf a) 0 + 1 < s.m.cfg 0x6000 0x0D →
        Completes run s [.now, .cnt, .mem] (fun m' => counted m'
          ∧ m'.mem = { s.m.mem with lastError := m'.mem.lastError, pageErrors := mAdd s.m.mem.pageErrors (pageOf a) 1 }))
    ∧ (cls.val = 0 → source.val = 1 → mGetD s.m.mem.rowErrors row 0 + 1 < s.m.cfg 0x6000 0x0C →
        Completes run s [.now, .cnt, .mem, .health] (fun m' => counted m'
          ∧ m'.mem = { s.m.mem with lastError := m'.mem.lastError, rowErrors := mAdd s.m.mem.rowErrors row 1 }
          ∧ m'.tileHealth tile = { s.m.tileHealth tile with corrected := satAdd 32 (s.m.tileHealth tile).corrected 1 }
          ∧ ∀ k, k ≠ tile → m'.tileHealth k = s.m.tileHealth k))
    ∧ (cls.val = 0 → source.val = 2 → Completes run s [.now, .cnt, .mem, .health] (fun m' => counted m'
        ∧ m'.mem = { s.m.mem with lastError := m'.mem.lastError }
        ∧ m'.tileHealth tile = { s.m.tileHealth tile with corrected := satAdd 32 (s.m.tileHealth tile).corrected 1 }
        ∧ ∀ k, k ≠ tile → m'.tileHealth k = s.m.tileHealth k))

/-- An uncorrectable error of LPDDR5X is logged with its address and poisons its burst, once, unless the burst belongs to a
Lot's copy, which its repair restores; the bytes of LPDDR5X stay as they were, and the page's retirement is planned at
F + D + 2 where a spare page is left. -/
def Obligations.UncorrectableErrorsPoison : Prop :=
  ∀ (s : State) (t addr syndrome : Nat), s.m.clock.now ≤ t → s.m.errorAddrOk 0 addr = true →
    let a := addr / 64 * 64
    (∀ b ∈ s.m.lotBases, ¬ (b.2 ≤ a ∧ a < b.2 + b.1.space)) →
    Completes (.memoryError t 0 2 addr syndrome) s [.now, .cnt, .lpddr, .mem, .clients, .events, .schedule, .nextSeq, .health] (fun m' =>
      m'.mem.lpddr = s.m.mem.lpddr ∧ m'.mem.lotPoison = s.m.mem.lotPoison
        ∧ (∀ k, k ∈ m'.mem.poison ↔ k = a / 64 ∨ k ∈ s.m.mem.poison)
        ∧ m'.ctr 0x4000 0x0A = (s.m.ctr 0x4000 0x0A + 1) % 2 ^ 64 ∧ m'.mem.lastError = s.m.errorRecord 0 2 a syndrome
        ∧ (a < 2 ^ 64 → Logged s.m m' t 0x0008 1 a)
        ∧ (s.m.cutPending 3 (pageOf a) = true → m'.schedule = s.m.schedule)
        ∧ (s.m.cutPending 3 (pageOf a) = false → s.m.scheduleFull = false → mGetD s.m.mem.sparePages (pageOf a % 32) 0 < s.m.packagePages →
            ∃ x ∈ m'.schedule, x.kind = 4 ∧ x.part = partOf 3 (pageOf a) 0
              ∧ x.target = (s.m.at t).clock.firstFrame + s.m.clock.depth + 2))

/-- The other memory rows: a patrol scrub reads a burst and writes it back as it was; a refresh poll keeps the package's
multiplier and whether it is hot; initialisation leaves every byte of LPDDR5X zero and nothing poisoned, and ends phase 1
of a start; the user region and the slice reserve take a value that cuts no reservation, and refuse another with 8. -/
def Obligations.MemoryRowsComplete : Prop :=
  (∀ (s : State) (t addr : Nat), s.m.clock.now ≤ t →
    Completes (.patrolScrub t addr) s [.now] (fun m' => m'.clock.now = t)
    ∧ (∀ (pkg : Fin 32) (mult : Nat) (hot : Bool), Completes (.refreshPoll t pkg mult hot) s [.now, .mem, .power, .cnt, .clients, .events]
        (fun m' => mGetD m'.mem.refresh pkg.val 4 = mult % 256
          ∧ (∀ k, k ≠ pkg.val → mGetD m'.mem.refresh k 4 = mGetD s.m.mem.refresh k 4)
          ∧ ∀ k, k ∈ m'.mem.hotPackages ↔ (k = pkg.val ∧ hot = true) ∨ (k ≠ pkg.val ∧ k ∈ s.m.mem.hotPackages)))
    ∧ (s.m.mem.ready = false → Completes (.lpddrInitDone t) s [.now, .lpddr, .mem, .boot] (fun m' => m'.clock.now = t
        ∧ m'.mem = { s.m.mem with ready := true, lpddr := [], poison := [] } ∧ (∀ x, memRead m'.mem.lpddr x = 0)
        ∧ m'.boot = { s.m.boot with startState := if s.m.boot.startState = 1 then 2 else s.m.boot.startState }))
    ∧ (s.m.mem.ready = true → Completes (.lpddrInitDone t) s [.now] (fun m' => m'.clock.now = t)))
  ∧ ∀ (s : State) (t : Nat) (r : VReq) (c : Client) (rest : List VReq) (o : Obj) (v : Bytes), Served s.m t r c rest →
      Writes (s.m.executing t rest) r c o v → r.target = 0 →
      let reply := [Part.now, .queue, .clients, .cnt, .inject, .out]
      let stands := fun m' : Module => m'.od.cfg = mPut s.m.od.cfg (odKey o.index o.sub 0) (o.stored v)
        ∧ Quiet s.m m' r ∧ Answered s.m m' t r rest c (replyBytes r 0 s.m.clock.sfc 0 (toLe 8 t))
      (r.writes 0x4000 0x03 = true →
        (s.m.regionFits (leNat v) = true → Completes (.userRegionBytes t) s (.cfg :: .persist :: .book :: reply) (fun m' =>
          stands m' ∧ m'.vilur.bookDirty = true))
        ∧ (s.m.regionFits (leNat v) = false → Completes (.userRegionBytes t) s reply (fun m' =>
          Answered s.m m' t r rest c (replyBytes r 8 0 0 []))))
      ∧ (r.writes 0x2000 0x12 = true →
        (s.m.reserveFits (leNat v) = true → Completes (.sliceReserveBytes t) s (.cfg :: .persist :: reply) stands)
        ∧ (s.m.reserveFits (leNat v) = false → Completes (.sliceReserveBytes t) s reply (fun m' =>
          Answered s.m m' t r rest c (replyBytes r 8 0 0 []))))

/-! ## The Store and the hold-up bank (15) -/

/-- The Store's rows, for a command that meets an empty range-lock table: a read whose blocks can all be read starts, writes
its data to the host and can complete with status 0; a write starts and fetches its data; fetched data enters the write
cache, a plain write can then complete, and a Force write with journal room is committed there first; the completion is
posted and the entry leaves the table; a drain programs the oldest write to NAND, whole, takes it and its record out of the
cache and the journal, and makes the area READ_ONLY when it leaves no spare block. Commands that break Table 15-1, leave the Store area or meet a full table are answered with 1, 2
and 4; a message that is no command is discarded. -/
def Sys2Proof.Claims.StoreRowsComplete : Prop :=
  (∀ (s : State) (t k : Nat) (x : Session) (arr : Nat) (b : Bytes) (rest : List (Nat × Bytes)) (bad : List Nat) (i : Instr), s.m.clock.now ≤ t →
    mGet s.m.ports.sessions k = some x → x.typ = 2 → x.state = 2 → x.unparsed = (arr, b) :: rest → s.m.health.armed = false →
    (i = .storeWrite t k ∧ b.length = 64 ∧ scOp b = 0x21 ∨ i = .storeRead t k bad ∧ ¬ (b.length = 64 ∧ scOp b = 0x21)) →
    let parts := [Part.now, .sessions, .cistern, .cnt, .inject, .out]
    let x' := { x with unparsed := rest }
    let cmd : StoreCmd := { id := s.m.cistern.nextCmd, session := k, cmd := b, inTable := true, started := true, unit := s.m.atomicUnit }
    let off := scOff b
    let found := s.m.cistern.fails off (scLen b) bad
    let mine := s.m.cistern.cmds.filter (fun c => c.bulk.isNone && !c.dead && c.session == k)
    let answered := fun (st : Nat) => Completes i s parts (fun m' => m'.cistern = s.m.cistern
      ∧ Out.completion k (scSlot b) ((x.resultAddr + scSlot b * x.slotBytes) % 2 ^ 64)
          (storeCompletion b s.m.clock.sfc st s.m.atomicUnit false false) ∈ m'.out)
    (b.length ≠ 64 ∨ x.slots ≤ scSlot b → Completes i s [.now, .sessions, .cnt, .events, .clients] (fun m' =>
      mGet m'.ports.sessions k = some x' ∧ m'.ctr 0x4300 0x13 = (s.m.ctr 0x4300 0x13 + 1) % 2 ^ 64))
    ∧ (b.length = 64 → scSlot b < x.slots →
        (4096 ≤ mine.length → answered 4)
        ∧ (mine.length < 4096 → scOk b = false → answered 1)
        ∧ (mine.length < 4096 → scOk b = true → s.m.cfg 0x4300 0x03 < off + scLen b → answered 2)
        ∧ (scOk b = true → off + scLen b ≤ s.m.cfg 0x4300 0x03 → s.m.cistern.cmds = [] → x.txQueued ≤ s.m.cfg 0x4100 0x17 →
            (scOp b = 0x20 → found.badIn off (scLen b) = none → Completes i s parts (fun m' =>
              m'.cistern = { found with cmds := [{ cmd with ready := some 0 }], nextCmd := s.m.cistern.nextCmd + 1 }
                ∧ m'.out = s.m.out ++ [.rdmaWrite k (scHost b) (scRkey b) (s.m.cistern.read off (scLen b))]))
            ∧ (scOp b = 0x21 → s.m.cistern.readOnly = false → (scAtomic b = true → scLen b ≤ s.m.atomicUnit) →
                s.m.cistern.dirty + scLen b ≤ writeCacheSpace → Completes i s parts (fun m' =>
                  m'.cistern = { s.m.cistern with cmds := [{ cmd with fetching := true }], nextCmd := s.m.cistern.nextCmd + 1 }
                    ∧ m'.out = s.m.out ++ [.rdmaRead k (scHost b) (scRkey b) (scLen b)])))))
  ∧ (∀ (s : State) (t : Nat) (c : StoreCmd), s.m.clock.now ≤ t → s.m.cistern.cmds = [c] → c.dead = false → c.bulk = none →
      (∀ data : Bytes, c.fetching = true → c.started = true → c.inTable = true → c.ready = none → c.fetched = false → data.length = scLen c.cmd →
        let blocks := ((blocksOf (scOff c.cmd) (scLen c.cmd)).zip (chunks 4096 data)).map (fun p => ({ order := c.id, block := p.1, data := p.2 } : CacheBlock))
        (scForce c.cmd = false → Completes (.storeDataFetched t c.id data) s [.now, .cistern] (fun m' => m'.cistern = { s.m.cistern with
          cache := s.m.cistern.cache ++ blocks
          cmds := [{ c with fetched := true, fetching := false, ready := some 0, durable := false, journaled := false, waitJournal := false, direct := false }] }))
        ∧ (scForce c.cmd = true → ¬ (scAtomic c.cmd = true ∧ c.unit = 16384) → s.m.cistern.journalRoom (scLen c.cmd) = true →
            (∀ y ∈ s.m.cistern.cache, y.order ≠ c.id) → Completes (.storeDataFetched t c.id data) s [.now, .cistern, .cnt] (fun m' =>
              m'.cistern.cache = s.m.cistern.cache ++ blocks
                ∧ m'.cistern.journal = s.m.cistern.journal ++ [{ order := c.id, offset := scOff c.cmd, data := blocks.flatMap (·.data), commit := true }]
                ∧ m'.cistern.cmds.map (fun y => (y.id, y.ready, y.durable, y.journaled)) = [(c.id, some 0, true, true)])))
      ∧ (∀ st x, c.ready = some st → mGet s.m.ports.sessions c.session = some x → x.state = 2 → s.m.health.armed = false →
          Completes (.rangeLockRelease t c.id) s [.now, .sessions, .cistern, .cnt, .inject, .out] (fun m' =>
            m'.cistern = { s.m.cistern with cmds := [] }
              ∧ ∃ d j, m'.out = s.m.out ++ [.completion c.session (scSlot c.cmd) ((x.resultAddr + scSlot c.cmd * x.slotBytes) % 2 ^ 64)
                  (storeCompletion c.cmd s.m.clock.sfc st c.unit d j)] ∧ (c.writes = true → d = c.durable ∧ j = c.journaled))))
  ∧ (∀ (s : State) (t permille : Nat) (y : CacheBlock) (rest : List CacheBlock), s.m.clock.now ≤ t → s.m.cistern.cmds = [] → s.m.cistern.cache = y :: rest →
      Completes (.writeCacheDrain t permille) s [.now, .nand, .cistern, .events, .clients] (fun m' =>
        let whole := (y :: rest).filter (fun z => z.order == y.order)
        m'.cistern.nand = whole.foldl (fun n z => memWriteN n (z.block * 4096) z.data) s.m.cistern.nand
          ∧ m'.cistern.cache = (y :: rest).filter (fun z => z.order != y.order)
          ∧ m'.cistern.journal = s.m.cistern.journal.filter (fun z => z.order != y.order)
          ∧ m'.cistern.permille = min s.m.cistern.permille permille
          ∧ (m'.cistern.readOnly = true ↔ s.m.cistern.readOnly = true ∨ min s.m.cistern.permille permille = 0)
          ∧ (s.m.cistern.readOnly = false → min s.m.cistern.permille permille = 0 → Logged s.m m' t 0x000B 2 0)))
  ∧ ∀ (s : State) (t : Nat) (r : VReq) (c : Client) (rest : List VReq) (o : Obj) (v : Bytes), Served s.m t r c rest →
      Writes (s.m.executing t rest) r c o v → r.target = 0 → r.writes 0x4300 0x03 = true →
      cisternSystem + leNat v + s.m.libraryUsed ≤ cisternUser →
      (s.m.storeOpen = true → Completes (.storeAreaBytes t) s [.now, .queue, .clients, .cnt, .inject, .out] (fun m' =>
        Answered s.m m' t r rest c (replyBytes r 49 0 0 [])))
      ∧ (s.m.storeOpen = false → Completes (.storeAreaBytes t) s [.now, .queue, .clients, .cnt, .inject, .out, .cfg, .persist, .nand, .cistern] (fun m' =>
          m'.od.cfg = mPut s.m.od.cfg (odKey o.index o.sub 0) (o.stored v) ∧ (∀ a, leNat v ≤ a → memRead m'.cistern.nand a = 0)
            ∧ (∀ a, a < leNat v → memRead m'.cistern.nand a = memRead s.m.cistern.nand a)
            ∧ Answered s.m m' t r rest c (replyBytes r 0 s.m.clock.sfc 0 (toLe 8 t))))

/-- The hold-up bank: a measurement sets the energy, the journal limit and HOLDUP_STATE by the formulas of R436 and R442,
and logs a change of state; at the target for the first time, at each TEST_INTERVAL_S and at TEST_NOW a test falls due; it
may run while the state is FULL with the charger at its target; its result replaces the capacitances of the cells in
service, C = 0.1 / dV, and is counted; the bank's temperature sets the cell target, HOT above 55 °C and the charger's stop
above 70 °C. -/
def Sys2Proof.Claims.HoldupRowsComplete : Prop :=
  (∀ (s : State) (t : Nat), s.m.clock.now ≤ t →
    let gate := fun h : Holdup => { h with testing := h.due && h.state == 2 && h.atTarget && !h.charging && !h.stopped }
    (∀ (mv : Nat) (cells : List Nat), cells.length = 13 → s.m.cistern.cmds = [] →
      let e := bankEnergy (bankCap s.m.holdup.caps s.m.holdup.map) mv (tempFactor s.m.holdup.temp)
      let st := holdupState (journalLimit e)
      Completes (.journalLimitUpdate t mv cells) s [.now, .holdup, .cistern, .events, .clients] (fun m' =>
        m'.cistern = { s.m.cistern with limit := journalLimit e }
          ∧ m'.holdup = gate { s.m.holdup with voltage := mv, volts := cells, energy := e.floor.toNat, state := st }
          ∧ (st = s.m.holdup.state → m'.health.events = s.m.health.events)
          ∧ (st ≠ s.m.holdup.state → Logged s.m m' t 0x000C 1 st)))
    ∧ (s.m.holdup.stopped = false → Completes (.bankAtTarget t) s [.now, .holdup] (fun m' =>
        m'.holdup = gate { s.m.holdup with charging := false, atTarget := true, due := s.m.holdup.due || !s.m.holdup.atTarget }))
    ∧ (s.m.holdup.atTarget = true → s.m.holdup.lastTestAt + s.m.cfg 0x4400 0x0D * 1000000000 ≤ t →
        Completes (.testInterval t) s [.now, .holdup] (fun m' => m'.holdup = gate { s.m.holdup with due := true }))
    ∧ (∀ temp : Int, Completes (.bankTemperatureChange t temp) s [.now, .holdup, .power] (fun m' =>
        m'.holdup.temp = temp ∧ (m'.holdup.hot = true ↔ 550 < temp) ∧ (m'.holdup.stopped = true ↔ 700 < temp)
          ∧ (700 < temp → m'.holdup.charging = false) ∧ m'.power = { s.m.power with temps := s.m.power.temps.set 19 temp }
          ∧ m'.holdup.target = s.m.holdup.inService * (if temp ≤ 550 then 2500 else 2300)))
    ∧ (∀ (before after : List Nat) (esr : Nat), (Instr.capacitanceTest t before after esr).wellFormed = true → s.m.holdup.testing = true →
        Completes (.capacitanceTest t before after esr) s [.now, .holdup, .events, .clients, .schedule, .nextSeq, .health, .fresh] (fun m' =>
          m'.holdup.due = false ∧ m'.holdup.testing = false ∧ m'.holdup.lastTestAt = t ∧ m'.holdup.testsRun = s.m.holdup.testsRun + 1
            ∧ m'.holdup.map = s.m.holdup.map
            ∧ (∀ k, k < 13 → s.m.holdup.map.getD k 1 = 0 → after.getD k 0 < before.getD k 0 →
                m'.holdup.caps.getD k 0 = 100000 / (before.getD k 0 - after.getD k 0))
            ∧ ∀ k, k < 13 → s.m.holdup.map.getD k 1 ≠ 0 → m'.holdup.caps.getD k 0 = s.m.holdup.caps.getD k 0)))
  ∧ ∀ (s : State) (t : Nat) (r : VReq) (c : Client) (rest : List VReq) (o : Obj) (v : Bytes), Served s.m t r c rest →
      Writes (s.m.executing t rest) r c o v → r.target = 0 → r.writes 0x4400 0x0E = true →
      Completes (.testNow t) s [.now, .queue, .clients, .cnt, .inject, .out, .holdup] (fun m' => m'.holdup.due = true
        ∧ Quiet s.m m' r ∧ Answered s.m m' t r rest c (replyBytes r 0 s.m.clock.sfc 0 (toLe 8 t)))

/-- The Store's rows and the hold-up bank's. -/
def Obligations.StoreAndHoldupRowsComplete : Prop := Claims.StoreRowsComplete ∧ Claims.HoldupRowsComplete

/-! ## Frame shape, power cap and Lots (02, 19, 06) -/

/-- TICK_PERIOD_WRITE (TICK_PERIOD_NS and PIPELINE_DEPTH), PROFILE_WRITE and POWER_CAP_WRITE of a stand-alone module at a
frame that keeps the lead of R42: each places its action in the schedule under the next SEQ, makes its value durable and is
acknowledged with the frame; nearer than the lead it is refused FRAME_TOO_NEAR, with the earliest frame. A member of a
cascade refuses a frame-shape write with MASTER_OWNED, and a cap above CAP_LIMIT is refused with 96. -/
def Obligations.FrameShapeWritesComplete : Prop :=
  ∀ (s : State) (t : Nat) (r : VReq) (c : Client) (rest : List VReq) (o : Obj) (v : Bytes), Served s.m t r c rest →
    Writes (s.m.executing t rest) r c o v → r.target ≠ 0 →
    let m := s.m.executing t rest
    let reply := [Part.now, .queue, .clients, .cnt, .inject, .out]
    let n := r.target
    let placed := fun (kind : Nat) (m' : Module) =>
      m'.schedule = insertAction { kind := kind, key := odKey o.index o.sub 0, value := v, target := n, host := true, seq := s.m.nextSeq }
        s.m.schedule
      ∧ m'.nextSeq = (s.m.nextSeq + 1) % 2 ^ 32 ∧ mGet m'.od.persist (odKey o.index o.sub 0) = some v
      ∧ Quiet s.m m' r ∧ Answered s.m m' t r rest c (replyBytes r 0 n 0 (toLe 8 t))
    let parts := Part.schedule :: .nextSeq :: .persist :: reply
    let near := fun (i : Instr) (d : Nat) => s.m.clock.ticked = true → n < m.clock.firstFrame + (max s.m.clock.depth d + 2) →
      Completes i s reply (fun m' => ∃ first, Answered s.m m' t r rest c (replyBytes r 11 first 0 []))
    let master := fun i : Instr => s.m.inCascadeConfig = true → s.m.device ≠ 0 →
      Completes i s reply (fun m' => Answered s.m m' t r rest c (replyBytes r 13 0 0 []))
    (r.writes 0x1100 0x01 = true →
      (m.leadOk n (m.depthAt n) = true → (s.m.inCascadeConfig = false → s.m.hostFull = false → Completes (.tickPeriodWrite t) s parts (placed 2))
        ∧ master (.tickPeriodWrite t))
      ∧ near (.tickPeriodWrite t) (m.depthAt n))
    ∧ (r.writes 0x1100 0x02 = true →
      (m.leadOk n (leNat v) = true → (s.m.inCascadeConfig = false → s.m.hostFull = false → Completes (.tickPeriodWrite t) s parts (placed 2))
        ∧ master (.tickPeriodWrite t))
      ∧ near (.tickPeriodWrite t) (leNat v))
    ∧ (r.writes 0x1100 0x05 = true →
      (m.leadOk n (profileDepth (leNat v) (m.depthAt n)) = true →
        (s.m.inCascadeConfig = false → s.m.hostFull = false → Completes (.profileWrite t) s parts (placed 3)) ∧ master (.profileWrite t))
      ∧ near (.profileWrite t) (profileDepth (leNat v) (m.depthAt n)))
    ∧ (r.writes 0x7000 0x01 = true →
      (m.leadOk n (m.depthAt n) = true →
        (s.m.hostFull = false → leNat v ≤ s.m.power.capLimit → Completes (.powerCapWrite t) s parts (placed 1))
        ∧ (s.m.power.capLimit < leNat v → Completes (.powerCapWrite t) s reply (fun m' =>
            Answered s.m m' t r rest c (replyBytes r 96 0 0 []))))
      ∧ near (.powerCapWrite t) (m.depthAt n))

/-- The Lot writes of a sparable module: LOT_LOAD begins a load, or is refused with the first reason of R168; LOT_UNSTAGE
frees the staged Lot unless its switch is pending; LOT_ROLLBACK stages the retained PREVIOUS_LOT without a load;
HOLD_PREVIOUS 0 frees what no query holds; LOT_SWITCH of a stand-alone module places its KIND 5 action for a staged Lot, or
for none at 0. -/
def Obligations.LotWritesComplete : Prop :=
  ∀ (s : State) (t : Nat) (r : VReq) (c : Client) (rest : List VReq) (o : Obj) (v : Bytes), Served s.m t r c rest →
    Writes (s.m.executing t rest) r c o v → r.target = 0 → s.m.health.unsparable = false →
    let m := s.m.executing t rest
    let reply := [Part.now, .queue, .clients, .cnt, .inject, .out]
    let ack := fun n : Nat => replyBytes r 0 n 0 (toLe 8 t)
    let refuses := fun (i : Instr) (st : Nat) => Completes i s reply (fun m' => Answered s.m m' t r rest c (replyBytes r st 0 0 []))
    let free := s.m.lots.loadState ≠ 1
    (r.writes 0x2000 0x40 = true → ∀ n, n = leNat v →
      (mGet s.m.lots.library n = none → refuses (.lotLoad t) 33)
      ∧ ∀ x, mGet s.m.lots.library n = some x →
        (s.m.lots.staged ≠ none → refuses (.lotLoad t) 34)
        ∧ (s.m.lots.staged = none → ¬ free → refuses (.lotLoad t) 35)
        ∧ (s.m.lots.staged = none → free → (∃ l, s.m.lots.active = some l ∧ l.number = n) → refuses (.lotLoad t) 36)
        ∧ (s.m.lots.staged = none → free → (∀ l, s.m.lots.active = some l → l.number ≠ n) →
            (s.m.managedFree < imgLoadBytes x.bytes → refuses (.lotLoad t) 32)
            ∧ (imgLoadBytes x.bytes ≤ s.m.managedFree → s.m.weirTaken = false → Completes (.lotLoad t) s (.lots :: reply) (fun m' =>
                m'.lots = { s.m.lots with loadFor := 0, loadState := 1, loading := n, loadProgress := 0 }
                  ∧ Quiet s.m m' r ∧ Answered s.m m' t r rest c (ack 0)))))
    ∧ (r.writes 0x2000 0x43 = true →
      (s.m.lots.staged = none → refuses (.lotUnstage t) 39)
      ∧ ∀ l, s.m.lots.staged = some l →
        ((∃ a ∈ s.m.schedule, a.kind = 5 ∧ a.arg = l.number) → refuses (.lotUnstage t) 37)
        ∧ ((∀ a ∈ s.m.schedule, ¬ (a.kind = 5 ∧ a.arg = l.number)) → Completes (.lotUnstage t) s (.lots :: .boot :: reply) (fun m' =>
            m'.lots.staged = none ∧ m'.lots.loadState = 0 ∧ m'.lots.active = s.m.lots.active
              ∧ m'.lots.retained = (if s.m.lotBound l.number then s.m.lots.retained ++ [l] else s.m.lots.retained)
              ∧ m'.boot = { s.m.boot with startupSwitch := false } ∧ Quiet s.m m' r ∧ Answered s.m m' t r rest c (ack s.m.clock.sfc))))
    ∧ (r.writes 0x2000 0x48 = true → ∀ l, s.m.retainedLot s.m.lots.previous = some l → l.number = s.m.lots.previous →
        s.m.lots.staged = none → free → (∀ a, s.m.lots.active = some a → a.number ≠ s.m.lots.previous) → s.m.weirTaken = false →
        Completes (.lotRollback t) s (.lots :: reply) (fun m' => m'.lots.staged = some l ∧ m'.lots.loadState = 2
          ∧ m'.lots.active = s.m.lots.active ∧ m'.lots.retained = s.m.lots.retained.filter (fun x => x.number != l.number)
          ∧ Quiet s.m m' r ∧ Answered s.m m' t r rest c (ack s.m.clock.sfc)))
    ∧ (r.writes 0x2000 0x47 = true → v = [0] → o.index = 0x2000 → o.sub = 0x47 →
        Completes (.holdPreviousClear t) s (.lots :: .cfg :: .persist :: reply) (fun m' =>
          m'.lots.retained = s.m.lots.retained.filter (fun l => s.m.lotBound l.number) ∧ m'.lots.held = 0
            ∧ Quiet s.m m' r ∧ Answered s.m m' t r rest c (ack s.m.clock.sfc)))
    ∧ (r.writes 0x2000 0x44 = true → s.m.inCascadeConfig = false → leAt v 4 4 = 0 → ∀ members n,
        n = (if leAt v 8 8 = 0 then m.leadFrame else leAt v 8 8) → m.leadOk n (m.depthAt n) = true →
        (s.m.switchPending = true → refuses (.lotSwitch t members) 37)
        ∧ (s.m.switchPending = false → leAt v 0 4 ≠ 0 → (∀ l, s.m.lots.staged = some l → l.number ≠ leAt v 0 4) → s.m.mates = [] →
            refuses (.lotSwitch t members) 39)
        ∧ (s.m.switchPending = false → leAt v 0 4 = 0 ∨ (∃ l, s.m.lots.staged = some l ∧ l.number = leAt v 0 4) → s.m.hostFull = false →
            Completes (.lotSwitch t members) s (.schedule :: .nextSeq :: reply) (fun m' =>
              m'.schedule = insertAction { kind := 5, arg := leAt v 0 4, target := n, host := true, seq := s.m.nextSeq } s.m.schedule
                ∧ Quiet s.m m' r ∧ Answered s.m m' t r rest c (ack n))))

/-- The library's writes: LOT_IMPORT with an argument in range, no import running, room and a writable library begins an
Lot, holds its library bytes and places its KIND 0 action; BUILD_CANCEL of a running build notes its tick. Each is refused
otherwise with the status of its rule. -/
def Obligations.LibraryWritesComplete : Prop :=
  ∀ (s : State) (t : Nat) (r : VReq) (c : Client) (rest : List VReq) (o : Obj) (v : Bytes), Served s.m t r c rest →
    Writes (s.m.executing t rest) r c o v → s.m.health.unsparable = false →
    let m := s.m.executing t rest
    let reply := [Part.now, .queue, .clients, .cnt, .inject, .out]
    let ack := fun n : Nat => replyBytes r 0 n 0 (toLe 8 t)
    let refuses := fun (i : Instr) (st : Nat) => Completes i s reply (fun m' => Answered s.m m' t r rest c (replyBytes r st 0 0 []))
    (r.writes 0x2000 0x49 = true → r.target = 0 →
      (s.m.importArgOk v = false → refuses (.lotImport t) 42)
      ∧ (s.m.importArgOk v = true → s.m.lots.importState = 1 → refuses (.lotImport t) 50)
      ∧ (s.m.importArgOk v = true → s.m.lots.importState ≠ 1 → 64 ≤ s.m.lots.library.length → refuses (.lotImport t) 51)
      ∧ (s.m.importArgOk v = true → s.m.lots.importState ≠ 1 → s.m.lots.library.length < 64 →
          (s.m.libraryFree < leAt v 16 8 ∨ s.m.cistern.readOnly = true → refuses (.lotImport t) 32)
          ∧ (leAt v 16 8 ≤ s.m.libraryFree → s.m.cistern.readOnly = false →
              Completes (.lotImport t) s (.lots :: .sessions :: reply) (fun m' =>
                m'.lots = { s.m.lots with importState := 1, importError := 0, importArg := v }
                  ∧ (s.m.health.armed = false → Out.rdmaRead (leAt v 0 4) (leAt v 8 8) (leAt v 4 4) (leAt v 16 8) ∈ m'.out
                      ∧ Out.datagram r.port r.addr r.udp (ack 0) ∈ m'.out)))))
    ∧ (r.writes 0x2000 0x4C = true → r.target = 0 →
      (mHas s.m.lots.library (leNat v) = false → refuses (.lotDelete t) 33)
      ∧ (mHas s.m.lots.library (leNat v) = true → s.m.lotInUse (leNat v) = true → refuses (.lotDelete t) 38)
      ∧ (mHas s.m.lots.library (leNat v) = true → s.m.lotInUse (leNat v) = false → Completes (.lotDelete t) s (.library :: reply) (fun m' =>
          mGet m'.lots.library (leNat v) = none ∧ (∀ k, k ≠ leNat v → mGet m'.lots.library k = mGet s.m.lots.library k)
            ∧ Quiet s.m m' r ∧ Answered s.m m' t r rest c (ack s.m.clock.sfc))))
    ∧ (r.writes 0x2200 0x01 = true → v ≠ [] → leAt v 0 4 ≠ 0 → ∀ n, n = (if r.target = 0 then m.leadFrame else r.target) →
        m.leadOk n (m.depthAt n) = true →
        (s.m.lots.buildState = 1 → refuses (.buildStart t) 40)
        ∧ (s.m.lots.buildState ≠ 1 → mHas s.m.lots.library (bdLot (leNat v)) = true → refuses (.buildStart t) 41)
        ∧ (s.m.lots.buildState ≠ 1 → mHas s.m.lots.library (bdLot (leNat v)) = false → s.m.buildDescOk (leNat v) = false → refuses (.buildStart t) 42)
        ∧ (s.m.lots.buildState ≠ 1 → mHas s.m.lots.library (bdLot (leNat v)) = false → s.m.buildDescOk (leNat v) = true →
            s.m.buildNeeds (leNat v) ≤ s.m.libraryFree → s.m.cistern.readOnly = false → s.m.lots.library.length < 64 → s.m.hostFull = false →
            Completes (.buildStart t) s (.lots :: .schedule :: .nextSeq :: reply) (fun m' =>
              m'.schedule = insertAction { kind := 0, key := odKey o.index o.sub 0, value := v, target := n, host := true, seq := s.m.nextSeq } s.m.schedule
                ∧ m'.lots = { s.m.lots with buildState := 1, buildError := 0, buildPhase := 0, buildItems := 0, buildStart := n, buildCancel := none
                                            buildDesc := v, buildWords := [], buildMemory := s.m.cfg 0x2200 0x08, buildHold := s.m.buildNeeds (leNat v) }
                ∧ Quiet s.m m' r ∧ Answered s.m m' t r rest c (ack n))))
    ∧ (r.writes 0x2200 0x02 = true → s.m.hostFull = false → ∀ n, n = (if r.target = 0 then m.clock.firstFrame else r.target) →
        m.clock.firstFrame ≤ n → Completes (.buildCancel t) s (.lots :: .schedule :: .nextSeq :: reply) (fun m' =>
          m'.schedule = insertAction { kind := 0, key := odKey o.index o.sub 0, value := v, target := n, host := true, seq := s.m.nextSeq } s.m.schedule
            ∧ m'.lots = { s.m.lots with buildCancel := if s.m.lots.buildState = 1 then some n else s.m.lots.buildCancel }
            ∧ Quiet s.m m' r ∧ Answered s.m m' t r rest c (ack n)))

/-- The ends of what the library and the builder have begun: a load that read its bytes is verified, and stages its Lot with
the words its log replays, or fails and is logged; an import puts a whole image in the library, or fails with the error of
R166; a repair takes the oldest poisoned burst of a loaded Lot off the list and counts it; a build that has begun ends with an
image in the library, or fails. Frames and Lots in use are not touched. -/
def Obligations.LotEndsComplete : Prop :=
  ∀ (s : State) (t : Nat), s.m.clock.now ≤ t →
    (s.m.lots.loadState = 1 → s.m.lots.loadFor = 0 → 
      Completes (.loadDone t false) s [.now, .lots, .boot, .events, .clients] (fun m' => m'.lots = { s.m.lots with loadState := 3, loading := 0 }
        ∧ (s.m.lots.loading < 2 ^ 32 → Logged s.m m' t 0x0003 2 (put s.m.lots.loading 32 32 + 3)))
      ∧ ∀ x, mGet s.m.lots.library s.m.lots.loading = some x →
          let p := placeImage x.bytes s.m.lotCaps
          let code := imgVerify x.bytes s.m.boot.ownerKey (s.m.cfgB 0x2000 0x10) (s.m.cfgB 0x2000 0x11) p
          Completes (.loadDone t true) s [.now, .lots, .boot, .events, .clients, .cnt, .lpddr] (fun m' =>
            m'.lots.loading = 0 ∧ m'.lots.verifyLast = code ∧ m'.lots.active = s.m.lots.active ∧ m'.mem.lpddr = s.m.mem.lpddr
              ∧ (code = 0 → m'.lots.loadState = 2 ∧ m'.lots.staged = some (s.m.lotData x p))
              ∧ (code ≠ 0 → m'.lots.loadState = 3 ∧ m'.lots.staged = s.m.lots.staged
                  ∧ m'.ctr 0x2000 0x19 = (s.m.ctr 0x2000 0x19 + 1) % 2 ^ 64)))
    ∧ (s.m.lots.importState = 1 → ∀ data : Bytes,
        (s.m.importResult data = 0 → Completes (.importDone t data) s [.now, .lots, .library] (fun m' =>
          m'.lots = { s.m.lots with importState := 2, importError := 0, importArg := []
                                    library := mPut s.m.lots.library (imgLot data) { bytes := data } }))
        ∧ (s.m.importResult data ≠ 0 → Completes (.importDone t data) s [.now, .lots, .events, .clients] (fun m' =>
            m'.lots = { s.m.lots with importState := 3, importError := s.m.importResult data, importArg := [] })))
    ∧ (∀ (p : Nat × Nat) (b : LotData × Nat) (rest : List (Nat × Nat)), s.m.mem.lotPoison = p :: rest → b ∈ s.m.lotBases → b.1.number = p.1 →
        Completes (.lotRepaired t) s [.now, .lpddr, .cnt, .events, .clients] (fun m' => m'.mem.lotPoison = rest ∧ m'.mem.lpddr = s.m.mem.lpddr
          ∧ m'.mem.poison = s.m.mem.poison ∧ m'.ctr 0x4000 0x15 = (s.m.ctr 0x4000 0x15 + 1) % 2 ^ 64))
    ∧ (s.m.lots.buildState = 1 → s.m.lots.buildPhase ≠ 0 → s.m.cfgB 0x2200 0x0D = false → ∀ input deletes,
        let x := (s.m.at t).buildOutcome input deletes
        let n := bdLot (leNat s.m.lots.buildDesc)
        Completes (.buildEnded t input deletes) s [.now, .lots, .library, .events, .clients, .fresh] (fun m' =>
          m'.lots.buildPhase = 0 ∧ m'.lots.buildHold = 0 ∧ m'.lots.buildMemory = 0 ∧ m'.lots.buildEnd = some s.m.clock.sfc
            ∧ m'.lots.active = s.m.lots.active ∧ m'.lots.staged = s.m.lots.staged ∧ m'.lots.retained = s.m.lots.retained
            ∧ (x.error ≠ 0 → m'.lots.buildState = 3 ∧ m'.lots.buildError = x.error ∧ m'.lots.library = s.m.lots.library)
            ∧ (m'.lots.buildState = 2 → ∃ image, m'.lots.library = mPut s.m.lots.library n { bytes := image, builtHere := true })))

/-! ## Starting with Lots and tables (17), stream sets (08), tables (10) and jobs (11) -/

/-- Phase 4 of a start: the committed Lot begins to load, or, where it cannot, no start-up Lot is staged and the event says
so; a stand-alone module switches to its staged start-up Lot itself, at the earliest frame permitted; the master switches a
module that has its committed Lot staged and no active Lot; and TABLE_RESTORE tries every restore record once: it stages
the version of a valid one and places its switch, and counts the others as not restored. -/
def Obligations.StartUpRowsComplete : Prop :=
  ∀ (s : State) (t : Nat), s.m.clock.now ≤ t →
    (2 ≤ s.m.boot.startState → s.m.boot.startupTried = false → s.m.cfgB 0x5100 0x06 = true → s.m.health.unsparable = false →
      (s.m.lots.committed = 0 → Completes (.startupLotLoad t) s [.now, .boot] (fun m' => m'.boot = { s.m.boot with startupTried := true }))
      ∧ (s.m.lots.committed ≠ 0 → s.m.loadCheck s.m.lots.committed = 0 → s.m.weirTaken = false →
          Completes (.startupLotLoad t) s [.now, .boot, .lots] (fun m' => m'.boot.startupTried = true
            ∧ m'.lots = { s.m.lots with loadFor := 2, loadState := 1, loading := s.m.lots.committed, loadProgress := 0 }))
      ∧ (s.m.lots.committed ≠ 0 → s.m.loadCheck s.m.lots.committed ≠ 0 → s.m.lots.previous = 0 →
          Completes (.startupLotLoad t) s [.now, .boot, .events, .clients] (fun m' => m'.boot.startupTried = true
            ∧ m'.boot.startupLot = 0 ∧ m'.boot.startupResult = 3
            ∧ (s.m.lots.committed < 2 ^ 32 → Logged s.m m' t 0x0003 6 (put s.m.lots.committed 32 32 + 3)))))
    ∧ (s.m.inCascadeConfig = false → ∀ l, s.m.lots.staged = some l → s.m.boot.startupSwitch = true → l.number = s.m.boot.startupLot →
        s.m.health.unsparable = false → s.m.switchPending = false → s.m.hostFull = false →
        Completes (.startupLotSwitch t) s [.now, .boot, .schedule, .nextSeq] (fun m' => m'.boot = { s.m.boot with startupSwitch := false }
          ∧ m'.schedule = insertAction { kind := 5, arg := l.number, target := (s.m.at t).leadFrame, host := true, seq := s.m.nextSeq } s.m.schedule))
    ∧ (s.m.isMaster = true → s.m.cascade.state = 2 → ∀ l, s.m.lots.staged = some l → l.number = s.m.lots.committed → l.number ≠ 0 →
        s.m.lots.active = none → s.m.health.unsparable = false → s.m.switchPending = false → s.m.hostFull = false →
        Completes (.masterStartupCheck t []) s [.now, .schedule, .nextSeq] (fun m' =>
          m'.schedule = insertAction { kind := 5, arg := l.number, target := (s.m.at t).leadFrame, host := true, seq := s.m.nextSeq } s.m.schedule))
    ∧ (2 ≤ s.m.boot.startState → s.m.boot.tablesTried = false →
        (s.m.cfgB 0x5100 0x07 = false → Completes (.tableRestore t) s [.now, .boot] (fun m' => m'.boot = { s.m.boot with
          tablesTried := true, notRestored := s.m.boot.notRestored + (s.m.tables.tables.filter (fun p => p.2.restore.isSome)).length }))
        ∧ (∀ (p : Nat × Table) (d : Nat), s.m.cfgB 0x5100 0x07 = true → s.m.tables.tables.filter (fun p => p.2.restore.isSome) = [p] →
            p.2.restore = some d → p.2.restoreOk = true → p.2.restoreLoads = [] → tabModules d = 1 → tabNumber d = p.1 →
            (s.m.stageTable d).isSome = true →
            Completes (.tableRestore t) s [.now, .boot, .tables, .mem, .tiles, .schedule, .nextSeq] (fun m' =>
              m'.boot = { s.m.boot with tablesTried := true, restored := s.m.boot.restored + 1 } ∧ (m'.table p.1).staged = some d
                ∧ m'.schedule = insertAction
                  { kind := 6, arg := p.1 * 2 ^ 32 + tabVersion d, target := (s.m.at t).leadFrame, seq := s.m.nextSeq } s.m.schedule)))

/-- STREAM_ARM, STREAM_DISARM and STREAM_REARM at a frame that is still open: an arm that no reason of Table 08-13 refuses
lists its set as arm pending from that frame and reserves, on each of its tiles, the region and the context; a refused arm
is counted and answered ARM_REFUSED with its reason; a disarm marks its set from its tick and the lower of two such ticks
governs; a re-arm of a set that is no TOWER set waits for its frame with its base registers. -/
def Obligations.StreamSetWritesComplete : Prop :=
  ∀ (s : State) (t : Nat) (r : VReq) (c : Client) (rest : List VReq) (o : Obj) (v : Bytes), Served s.m t r c rest →
    Writes (s.m.executing t rest) r c o v →
    let m := s.m.executing t rest
    let reply := [Part.now, .queue, .clients, .cnt, .inject, .out]
    let placed := fun (n : Nat) (m' : Module) =>
      m'.schedule = insertAction { kind := 0, key := odKey o.index o.sub 0, value := v, target := n, host := true, seq := s.m.nextSeq } s.m.schedule
        ∧ Answered s.m m' t r rest c (replyBytes r 0 n 0 (toLe 8 t))
    ∀ n, m.clock.firstFrame ≤ n →
      ((n = if r.target = 0 then m.clock.firstFrame else r.target) →
        (r.writes 0x3100 0x01 = true → s.m.health.unsparable = false →
          (m.armReason v n ≠ 0 → Completes (.streamArm t) s (.streams :: reply) (fun m' =>
            m'.streams = { s.m.streams with armRefusal := m.armReason v n } ∧ m'.ctr 0x3100 0x0D = (s.m.ctr 0x3100 0x0D + 1) % 2 ^ 64
              ∧ Answered s.m m' t r rest c (replyBytes r 43 0 (m.armReason v n) [])))
          ∧ (m.armReason v n = 0 → s.m.hostFull = false → Completes (.streamArm t) s (.schedule :: .nextSeq :: .streams :: .tiles :: reply) (fun m' =>
              let h := leAt v 0 64
              m'.streams.sets = mPut s.m.streams.sets (armId h) (newSet v n s.m.nextSeq)
                ∧ (∀ u ∈ armTileList h, ∃ a, m.armRegion h u = some a
                    ∧ mGet (m'.tile u).ctxs (armCtx h) = some { setId := armId h, region := a, bytes := armSlice h })
                ∧ (∀ u, u ∉ armTileList h → m'.tile u = s.m.tile u) ∧ placed n m')))
        ∧ (r.writes 0x3100 0x02 = true → s.m.hostFull = false → Completes (.streamDisarm t) s (.schedule :: .nextSeq :: .streams :: reply) (fun m' =>
            (∀ x, mGet s.m.streams.sets (leNat v) = some x → mGet m'.streams.sets (leNat v) = some { x with
                state := if x.state = 2 then 5 else x.state
                disarm := some (match x.disarm with
                  | some d => min d n
                  | none => n) })
              ∧ (∀ k, k ≠ leNat v → mGet m'.streams.sets k = mGet s.m.streams.sets k) ∧ placed n m')))
      ∧ (r.target = 0 → r.writes 0x3100 0x03 = true → leAt v 4 4 = 0 → (n = if leAt v 8 8 = 0 then m.clock.firstFrame else leAt v 8 8) →
          ∀ x, mGet s.m.streams.sets (leAt v 0 4) = some x →
            (armTower x.header = true → Completes (.streamRearm t) s reply (fun m' => Answered s.m m' t r rest c (replyBytes r 13 0 0 [])))
            ∧ (armTower x.header = false → s.m.hostFull = false →
                Completes (.streamRearm t) s (.schedule :: .nextSeq :: .streams :: reply) (fun m' =>
                  let bases := 0 :: (List.range 15).map (fun i => leAt v (16 + 8 * i) 8)
                  mGet m'.streams.sets (leAt v 0 4) = some { x with rearms := insertBy (fun a b => decide (a.1 < b.1)) (n, bases) x.rearms }
                    ∧ (∀ k, k ≠ leAt v 0 4 → mGet m'.streams.sets k = mGet s.m.streams.sets k) ∧ placed n m')))

/-- The table writes: TABLE_STAGE reserves the regions of a good descriptor and makes it the staged version, and refuses a
bad one, a second staged version and regions that do not fit; TABLE_UNSTAGE frees the staged version unless its switch is
scheduled; TABLE_SWITCH of a stand-alone module places the KIND 6 action of a version that is staged, or of none; TABLE_LOAD
copies bytes of the Store area into the staged version's region. -/
def Obligations.TableWritesComplete : Prop :=
  ∀ (s : State) (t : Nat) (r : VReq) (c : Client) (rest : List VReq) (o : Obj) (v : Bytes), Served s.m t r c rest →
    Writes (s.m.executing t rest) r c o v → r.target = 0 →
    let m := s.m.executing t rest
    let reply := [Part.now, .queue, .clients, .cnt, .inject, .out]
    let ack := fun n : Nat => replyBytes r 0 n 0 (toLe 8 t)
    let refuses := fun (i : Instr) (st : Nat) => Completes i s reply (fun m' => Answered s.m m' t r rest c (replyBytes r st 0 0 []))
    (r.writes 0x3200 0x02 = true → s.m.health.unsparable = false →
      let d := leNat v
      let k := tabNumber d
      (tabOk d = false → refuses (.tableStage t) 42)
      ∧ (tabOk d = true → (s.m.table k).staged ≠ none → refuses (.tableStage t) 48)
      ∧ (tabOk d = true → (s.m.table k).staged = none → s.m.canReserve (tabBase d) (tabRegionBytes d) = false → refuses (.tableStage t) 32)
      ∧ (tabOk d = true → (s.m.table k).staged = none → s.m.canReserve (tabBase d) (tabRegionBytes d) = true →
          (tabRemBytes d ≠ 0 → (s.m.reserve (tabBase d) (tabRegionBytes d) (k * 2)).canReserve (tabRemBase d) (tabRemBytes d) = true) →
          Completes (.tableStage t) s (.tables :: .mem :: .tiles :: reply) (fun m' =>
            m'.table k = { s.m.table k with staged := some d, loads := [], touched := false }
              ∧ m'.mem.reserved = s.m.mem.reserved ++ (if tabRegionBytes d = 0 then [] else [(tabBase d, tabRegionBytes d, k * 2)])
                  ++ (if tabRemBytes d = 0 then [] else [(tabRemBase d, tabRemBytes d, k * 2)])
              ∧ ((s.m.table k).active = none → m'.tiles = s.m.tiles) ∧ Answered s.m m' t r rest c (ack s.m.clock.sfc))))
    ∧ (r.writes 0x3200 0x03 = true → s.m.cistern.cmds = [] → ∀ k, k = leNat v →
        ((s.m.table k).staged = none → refuses (.tableUnstage t) 39)
        ∧ ∀ d, (s.m.table k).staged = some d →
          (s.m.stagedSwitching k d = true → refuses (.tableUnstage t) 37)
          ∧ (s.m.stagedSwitching k d = false → Completes (.tableUnstage t) s (.tables :: .mem :: reply) (fun m' =>
              m'.table k = { s.m.table k with staged := none, loads := [], touched := false }
                ∧ (∀ x ∈ m'.mem.reserved, x ∈ s.m.mem.reserved)
                ∧ (∀ x ∈ tabRegions d, (x.1, x.2, k * 2) ∉ m'.mem.reserved)
                ∧ (∀ x ∈ s.m.mem.reserved, x.2.2 ≠ k * 2 → x ∈ m'.mem.reserved) ∧ Answered s.m m' t r rest c (ack s.m.clock.sfc))))
    ∧ (r.writes 0x3200 0x04 = true → s.m.inCascadeConfig = false → fld (leNat v) 63 38 = 0 → ∀ members k version n, k = fld (leNat v) 37 32 →
        version = fld (leNat v) 31 0 → n = (if fld (leNat v) 127 64 = 0 then m.leadFrame else fld (leNat v) 127 64) → m.leadOk n (m.depthAt n) = true →
        (s.m.tableSwitching k = true → refuses (.tableSwitch t members) 37)
        ∧ (s.m.tableSwitching k = false → version ≠ 0 → (∀ d, (s.m.table k).staged = some d → tabVersion d ≠ version) →
            refuses (.tableSwitch t members) 39)
        ∧ (s.m.tableSwitching k = false → version = 0 ∨ (∃ d, (s.m.table k).staged = some d ∧ tabVersion d = version) → s.m.hostFull = false →
            Completes (.tableSwitch t members) s (.schedule :: .nextSeq :: reply) (fun m' =>
              m'.schedule = insertAction { kind := 6, arg := k * 2 ^ 32 + version, target := n, host := true, seq := s.m.nextSeq } s.m.schedule
                ∧ Answered s.m m' t r rest c (ack n))))
    ∧ (r.writes 0x3200 0x0E = true → ∀ off dest n, off = leAt v 0 8 → dest = leAt v 8 8 → n = leAt v 16 8 →
        (leAt v 24 8 ≠ 0 ∨ s.m.cfg 0x4300 0x03 < off + n → refuses (.tableLoad t) 8)
        ∧ (leAt v 24 8 = 0 → off + n ≤ s.m.cfg 0x4300 0x03 →
            (s.m.stagedAt dest n = none → refuses (.tableLoad t) 8)
            ∧ ∀ k, s.m.stagedAt dest n = some k →
              (meetsRange s.m.protectedRanges dest n = true → refuses (.tableLoad t) 37)
              ∧ (meetsRange s.m.protectedRanges dest n = false → s.m.cistern.cmds = [] → n ≤ 16777216 → s.m.cistern.badIn off n = none →
                  Completes (.tableLoad t) s (.tables :: .cistern :: .lpddr :: reply) (fun m' =>
                    m'.lpRead dest n = s.m.cistern.read off n ∧ m'.cistern.cmds = [] ∧ m'.cistern.cache = s.m.cistern.cache
                      ∧ (m'.table k).loads = (s.m.table k).loads ++ [(n, dest, off)] ∧ (m'.table k).active = (s.m.table k).active
                      ∧ Answered s.m m' t r rest c (ack s.m.clock.sfc)))))

/-- The job writes of a stand-alone module: JOB_CONFIG checks the configuration and reserves the job buffer of a job whose
only member is this module; JOB_START gives such a job its first frame, at the lead of R42, where its work fits; JOB_STOP
lets a running job end with its update frame; JOBS_ENABLE and SHARD_MAP schedule their value for their tick; and
DIGEST_CHECK compares the records round the ring. -/
def Obligations.JobWritesComplete : Prop :=
  ∀ (s : State) (t : Nat) (r : VReq) (c : Client) (rest : List VReq) (o : Obj) (v : Bytes), Served s.m t r c rest →
    Writes (s.m.executing t rest) r c o v →
    let m := s.m.executing t rest
    let reply := [Part.now, .queue, .clients, .cnt, .inject, .out]
    let ack := fun n : Nat => replyBytes r 0 n 0 (toLe 8 t)
    let refuses := fun (i : Instr) (st : Nat) => Completes i s reply (fun m' => Answered s.m m' t r rest c (replyBytes r st 0 0 []))
    (r.target = 0 → s.m.inCascadeConfig = false → s.m.health.unsparable = false →
      (r.writes 0x3300 0x03 = true → ∀ members j, j = jobNum v →
        ((s.m.job j).state = 2 → refuses (.jobConfig t members) 44)
        ∧ ((s.m.job j).state ≠ 2 → s.m.jobConfigOk v = false → refuses (.jobConfig t members) 45)
        ∧ ((s.m.job j).state ≠ 2 → s.m.jobConfigOk v = true → jobMembers v = 1 → jobDev v 0 = s.m.device → s.m.present s.m.device = true →
            ((s.m.unreserve (256 + j)).canReserve (jobBase v) (s.m.jobBytes v) = false → refuses (.jobConfig t members) 32)
            ∧ ((s.m.unreserve (256 + j)).canReserve (jobBase v) (s.m.jobBytes v) = true → Completes (.jobConfig t members) s (.jobs :: .mem :: reply) (fun m' =>
                m'.job j = { config := v, state := 1, pending := (s.m.job j).pending }
                  ∧ m'.mem.reserved = (s.m.mem.reserved.filter (fun x => x.2.2 != 256 + j))
                      ++ (if s.m.jobBytes v = 0 then [] else [(jobBase v, s.m.jobBytes v, 256 + j)])
                  ∧ Answered s.m m' t r rest c (ack s.m.clock.sfc)))))
      ∧ (r.writes 0x3300 0x04 = true → ∀ j n, j < 64 → leAt v 0 8 = j → n = (if leAt v 8 8 = 0 then m.leadFrame else leAt v 8 8) →
          m.leadOk n (m.depthAt n) = true →
          ((s.m.job j).config = [] → refuses (.jobStart t) 45)
          ∧ ((s.m.job j).config ≠ [] → (s.m.job j).state = 2 ∨ (s.m.job j).pending ≠ none → refuses (.jobStart t) 44)
          ∧ ((s.m.job j).config ≠ [] → (s.m.job j).state ≠ 2 → (s.m.job j).pending = none →
              (m.jobFits (s.m.job j).config n = false → refuses (.jobStart t) 47)
              ∧ (m.jobFits (s.m.job j).config n = true → (m.onJob j (fun x => { x with pending := some n })).grantsOk n = true →
                  (∀ p, p < jobMembers (s.m.job j).config → jobDev (s.m.job j).config p = s.m.device) →
                  Completes (.jobStart t) s (.jobs :: reply) (fun m' => m'.job j = { s.m.job j with pending := some n }
                    ∧ Answered s.m m' t r rest c (ack n)))))
      ∧ (r.writes 0x3300 0x05 = true → ∀ j, j = leNat v →
          ((s.m.job j).state ≠ 2 → Completes (.jobStop t) s reply (fun m' => Answered s.m m' t r rest c (ack s.m.clock.sfc)))
          ∧ ((s.m.job j).state = 2 → jobPos (s.m.job j).config s.m.device ≠ none → Completes (.jobStop t) s (.jobs :: reply) (fun m' =>
              m'.job j = { s.m.job j with stopping := true } ∧ Answered s.m m' t r rest c (ack ((s.m.job j).deadline + 1)))))
      ∧ (r.writes 0x3300 0x09 = true → ∀ members j, j = leNat v →
          ((s.m.job j).config = [] → refuses (.digestCheck t members) 45)
          ∧ ((s.m.job j).config ≠ [] → Completes (.digestCheck t members) s (.jobs :: reply) (fun m' =>
              m'.jobs = { s.m.jobs with digestResult := s.m.digestCompare j members } ∧ Answered s.m m' t r rest c (ack s.m.clock.sfc)))))
    ∧ ∀ n, (n = if r.target = 0 then m.clock.firstFrame else r.target) → m.clock.firstFrame ≤ n → s.m.hostFull = false →
        ∀ i, (r.writes 0x3300 0x01 = true ∧ i = .jobsEnable t) ∨ (r.writes 0x4200 0x11 = true ∧ i = .shardMap t) →
          Completes i s (.schedule :: .nextSeq :: .persist :: reply) (fun m' =>
            m'.schedule = insertAction { kind := 0, key := odKey o.index o.sub (c.inst o), value := o.stored v, target := n, host := true, seq := s.m.nextSeq }
                s.m.schedule
              ∧ Answered s.m m' t r rest c (ack n))

/-! ## Stream commands (07 to 11) and operands that arrive (07, 08, 09, 11) -/

/-- Each stream command of a tile's highest-priority ready context, found without a fault and within its grant, runs to its
end: the context goes to its next command, the clocks are taken from its grant and a want of grant becomes a debt (R253),
its DONE counter advances by 1, and slices, Vat, runs, LPDDR5X and jobs are as its effect leaves them. Of that effect: a MOVE
copies its bytes; an EPI in FP32 writes its rows; a WINS enters its candidates into the run; a WDRAIN and an ARGMAX write
their records; a POOL writes its bags; a SIGNAL changes its counter; a WAIT for a tick notes the frame and then completes; a
REARM parks its context and a HALT makes it idle. -/
def Obligations.StreamCommandsComplete : Prop :=
  ∀ (s : State) (tile : Fin 512) (waits k w : Nat),
    let m := s.m
    let t := tile.val
    let c := m.ctx t k
    let set := m.streamSet c.setId
    [2, 3, 4, 5, 6, 7].find? (m.ctxReady t) = some k → m.nextCmd t k = some w → set.commonFault w = 0 →
    let ends := fun (i : Instr) (op fault figure : Nat) (gs : List Part) (x : CmdRun) (st : Nat) (P : Module → Prop) =>
      cmdOp w = op → fault = 0 → figure ≤ c.grant → figure ≤ (m.setGrant c.setId set m.clock.sfc).1 → x.fault = 0 → x.m.ctx t k = c →
      x.m.nextCmd t k = some w →
      Completes i s (.tiles :: .streams :: gs) (fun m' =>
        let c' := m'.ctx t k
        c'.pc = c.pc + 1 ∧ c'.state = st ∧ c'.grant = c.grant - x.clocks ∧ c'.debt = c.debt + (x.clocks - c.grant)
          ∧ (∀ u, (m'.tile u).slice = (x.m.tile u).slice ∧ (m'.tile u).vat = (x.m.tile u).vat ∧ (m'.tile u).vstate = (x.m.tile u).vstate
              ∧ (m'.tile u).runs = (x.m.tile u).runs)
          ∧ m'.mem = x.m.mem ∧ m'.jobs = x.m.jobs
          ∧ (cmdDone w = true → m.evtReserved t (cmdDoneEvt w) = true → mGetD (m'.tile t).events (cmdDoneEvt w) 0 =
              (mGetD (x.m.tile t).events (cmdDoneEvt w) 0 + 1) % 2 ^ 32)
          ∧ P m')
    let remote := [Part.cnt, .lpddr, .links, .cascade, .inject, .out, .fresh]
    let n := moveBytes w
    ends (.move tile waits) 0x01 (m.moveCheck set t k w) 0 remote (m.moveRun waits set t k w) 1 (fun m' => ∀ v p,
        m.locateN (c.moveDst w) n = .slice v p →
          (∀ u a, m.locateN (c.moveSrc w) n = .slice u a → m'.sliceRead v p n = m.sliceRead u a n)
          ∧ (∀ a, m.locateN (c.moveSrc w) n = .lpddr a → m'.sliceRead v p n = m.lpRead a n))
      ∧ ends (.gather tile waits) 0x02 (m.gatherCheck set t k w) 0 remote (m.gatherRun waits set t k w) 1 (fun _ => True)
      ∧ ends (.scatterAcc tile waits) 0x03 (m.scatterCheck set t k w) 0 (.jobs :: remote) (m.scatterRun waits set t k w) 1 (fun _ => True)
      ∧ ends (.mma tile) 0x10 (m.mmaCheck set t k w) ((m.mmaFig t k w).getD 0) [.cnt, .fresh] (m.mmaRun set t k w) 1 (fun m' =>
          (m'.tile t).vat = ((m.mmaIn t k w).run (m.mmaDesc t w) (m.tile t)).vat)
      ∧ ends (.epi tile) 0x11 (m.epiCheck set t k w) ((m.epiFig t k w).getD 0) [.cnt] (m.epiRun set t k w) 1 (fun m' =>
          ∀ r, r < slotM (m.epiDesc t w) → epiFmt (epiCtl w) = 0 → 4 * m.epiWidth t w ≤ fld w 189 170 →
            m'.sliceRead t (c.at (fld w 148 128) + r * fld w 189 170) (4 * m.epiWidth t w) = ((m.epiRow t k w r).map (toLe 4)).flatten)
      ∧ ends (.skscan tile) 0x20 (m.skCheck set t k w) (16 + skRecs w) [.cnt] (m.skRun set t k w) 1 (fun _ => True)
      ∧ ends (.wins tile) 0x21 (m.winsCheck set t k w) (8 + ceilDiv (winsCount w) 32 + winsLists w) [.cnt] (m.winsRun set t k w) 1 (fun m' =>
          ∀ r, findRun (m.tile t).runs (winsList w) (winsLists w) = some r → r.wlist = winsList w → r.wcount = winsLists w →
            findRun (m'.tile t).runs (winsList w) (winsLists w) = some (r.insertAll (m.winsCands t k w)))
      ∧ ends (.wdrain tile) 0x22 (m.drainCheck set t k w) (m.drainClocks t w) [] (m.drainRun set t k w) 1 (fun m' =>
          let d := (m.drainOf t w).drain (w.testBit 102)
          m'.sliceRead t (c.at (fld w 84 64)) d.length = d
            ∧ (w.testBit 101 = true → findRun (m'.tile t).runs (drainList w) (drainLists w) = none))
      ∧ ends (.argmax tile waits) 0x23 (m.argCheck set t k w) (argClocks w) remote (m.argRun waits set t k w) 1 (fun m' => argColl w = false →
          ∀ r, r < argRows w →
            (argOp w = 0 → leNat (m'.sliceRead t (c.at (fld w 105 85) + 8 * r) 8) = (m.argRow t k w r).1 % 2 ^ 64)
            ∧ (argOp w ≠ 0 → m'.sliceRead t (c.at (fld w 105 85) + 16 * r) 16 =
                toLe 16 (winRecord (m.argRow t k w r).1 (winValue (argFmt w) (m.argRow t k w r).2))))
      ∧ ends (.reduce tile waits) 0x24 (m.redCheck set t k w) (m.redClocks t w) (.jobs :: remote) (m.redRun waits set t k w) 1 (fun _ => True)
      ∧ ends (.pool tile) 0x25 (m.poolCheck set t k w) (m.poolClocks t k w) [] (m.poolRun set t k w) 1 (fun m' =>
          let out := ((List.range (poolBags w)).map (m.poolBag t k w)).flatten
          m'.sliceRead t (c.at (fld w 148 128)) out.length = out)
      ∧ ends (.signal tile waits) 0x30 (m.signalCheck set t k w) 0 remote (m.signalRun waits set t k w) 1 (fun m' => ∀ u,
          m.locate (c.addr (fld w 127 64)) = .ctl u 0 → m.evtReserved u (fld w 165 160) = true → cmdDone w = false →
            mGetD (m'.tile u).events (fld w 165 160) 0 =
              (if fld w 167 166 = 0 then (mGetD (m.tile u).events (fld w 165 160) 0 + fld w 159 128) % 2 ^ 32 else fld w 159 128))
      ∧ (w.testBit 64 = true → c.waitTick = none → cmdOp w = 0x31 → Completes (.wait tile) s [.tiles, .streams] (fun m' =>
          (m'.ctx t k).waitTick = some s.m.clock.sfc ∧ (m'.ctx t k).pc = c.pc))
      ∧ (w.testBit 64 = false ∨ c.waitTick ≠ none →
          ends (.wait tile) 0x31 0 0 [] { m := m, clocks := if c.waitTick.isSome then 0 else 1 } 1 (fun _ => True))
      ∧ ends (.rearm tile) 0x32 (if armPersistent set.header then 0 else 1) 0 [] { m := m } 2 (fun _ => True)
      ∧ ends (.halt tile) 0x3F 0 0 [] { m := m } 3 (fun _ => True)

/-- A stream fault stops its set and nothing else: the contexts of the set on its tiles are stopped, the set is FAULTED
with the code, the tile and the command, the status record and the counter say so, and the event carries the code, the
tile and the STREAM_ID. A command whose word or operands break a rule faults so with the lowest code that holds, and so does
a context that its marker has held for STALL_LIMIT_FRAMES ticks, with STALLED. -/
def Obligations.StreamFaultsStopTheSet : Prop :=
  ∀ (s : State) (tile : Fin 512) (ctx : Fin 8) (k w : Nat),
    let m := s.m
    let t := tile.val
    let faults := fun (i : Instr) (j code : Nat) =>
      let c := m.ctx t j
      ∀ x, mGet m.streams.sets c.setId = some x →
        Completes i s [.tiles, .streams, .cnt, .events, .clients] (fun m' =>
          mGet m'.streams.sets c.setId = some { x with
              state := if x.state = 5 then 5 else 4, faultSfc := m.clock.sfc, faultCmd := c.pc, faultTile := t, faultCode := code }
            ∧ (∀ id, id ≠ c.setId → mGet m'.streams.sets id = mGet m.streams.sets id)
            ∧ (∀ u ∈ x.tiles, (mGet (m.tile u).ctxs (armCtx x.header)).isSome = true → (m'.ctx u (armCtx x.header)).state = 4)
            ∧ m'.ctr 0x3100 0x0C = (m.ctr 0x3100 0x0C + 1) % 2 ^ 64
            ∧ (code < 256 → c.setId < 2 ^ 32 → Logged m m' m.clock.now 0x0005 1 (put code 8 0 + put t 9 16 + put c.setId 32 32)))
    ([2, 3, 4, 5, 6, 7].find? (m.ctxReady t) = some k → m.nextCmd t k = some w →
      let set := m.streamSet (m.ctx t k).setId
      ∀ f, f ≠ 0 →
        (cmdOp w = 0x01 → f = minFault (set.commonFault w) (m.moveCheck set t k w) → faults (.move tile 0) k f)
        ∧ (cmdOp w = 0x10 → f = minFault (set.commonFault w) (m.mmaCheck set t k w) → faults (.mma tile) k f)
        ∧ (cmdOp w = 0x11 → f = minFault (set.commonFault w) (m.epiCheck set t k w) → faults (.epi tile) k f)
        ∧ (cmdOp w = 0x20 → f = minFault (set.commonFault w) (m.skCheck set t k w) → faults (.skscan tile) k f)
        ∧ (cmdOp w = 0x22 → f = minFault (set.commonFault w) (m.drainCheck set t k w) → faults (.wdrain tile) k f)
        ∧ (cmdOp w = 0x3F → f = set.commonFault w → faults (.halt tile) k f))
    ∧ (let c := m.ctx t ctx.val
       let lim := m.cfg 0x3100 0x09
       lim ≠ 0 → c.state = 1 → c.depMet = false → lim ≤ c.held → faults (.streamStalled tile ctx) ctx.val 13)

/-- What reaches a tile or a job from outside: a SIGNAL adds to or sets a reserved counter, and one that finds its counter
unreserved is counted; a Vat operand adds into the Vat file; a winner write whose header the combine area matches combines
record by record, counts the write in the area and advances its counter, and one that does not match is counted and changes
no area; a GFX64 operand adds modulo 2^64 into its word; a keyed row adds into the area of a running job; and an operand of
a running job for another member joins the combine line of its port, line address and lane, or starts one. -/
def Obligations.OperandRowsComplete : Prop :=
  (∀ (s : State) (tile : Fin 512) (evt : Fin 64) (set : Bool) (v : Nat),
    (s.m.evtReserved tile.val evt.val = true → Completes (.eventCounterChange tile evt set v) s [.tiles] (fun m' =>
      mGetD (m'.tile tile.val).events evt.val 0 =
          (if set then v % 2 ^ 32 else (mGetD (s.m.tile tile.val).events evt.val 0 + v) % 2 ^ 32)
        ∧ ∀ u, u ≠ tile.val → m'.tile u = s.m.tile u))
    ∧ (s.m.evtReserved tile.val evt.val = false → Completes (.eventCounterChange tile evt set v) s [.tiles, .cnt] (fun m' =>
        (m'.tile tile.val).events = (s.m.tile tile.val).events ∧ m'.ctr 0x3100 0x10 = (s.m.ctr 0x3100 0x10 + 1) % 2 ^ 64)))
  ∧ (∀ (s : State) (tile : Fin 512) (o : Nat) (b : Bytes), b.length = 40 → o + 40 ≤ 0x40000 →
      Completes (.vatAccumulateWrite tile o b) s [.tiles] (fun m' => m'.tile tile.val = (s.m.tile tile.val).vatAdd o b
        ∧ ∀ u, u ≠ tile.val → m'.tile u = s.m.tile u))
  ∧ (∀ (s : State) (tile : Fin 512) (o coll rows op fmt evt : Nat) (recs : Bytes),
      (Instr.winnerWrite tile o coll rows op fmt evt recs).wellFormed = true → o + 16 + 16 * rows ≤ sliceBytes →
      let h := leNat (s.m.sliceRead tile.val o 16)
      (areaMatches h coll rows op fmt = false → Completes (.winnerWrite tile o coll rows op fmt evt recs) s [.cnt] (fun m' =>
        m'.ctr 0x3080 0x05 = (s.m.ctr 0x3080 0x05 + 1) % 2 ^ 64))
      ∧ (areaMatches h coll rows op fmt = true → Completes (.winnerWrite tile o coll rows op fmt evt recs) s [.tiles, .cnt] (fun m' =>
          (∀ r, r < rows → m'.sliceRead tile.val (o + 16 + 16 * r) 16 =
              toLe 16 (winCombine op fmt (leNat (s.m.sliceRead tile.val (o + 16 + 16 * r) 16)) (leAt recs (16 * r) 16)))
            ∧ leNat (m'.sliceRead tile.val (o + 4) 4) = (fld h 63 32 + 1) % 2 ^ 32
            ∧ (∀ a, a < o + 4 ∨ o + 8 ≤ a ∧ a < o + 16 ∨ o + 16 + 16 * rows ≤ a →
                memRead (m'.tile tile.val).slice a = memRead (s.m.tile tile.val).slice a)
            ∧ m'.ctr 0x3080 0x06 = (s.m.ctr 0x3080 0x06 + 1) % 2 ^ 64
            ∧ (s.m.evtReserved tile.val evt = true → mGetD (m'.tile tile.val).events evt 0 = (mGetD (s.m.tile tile.val).events evt 0 + 1) % 2 ^ 32))))
  ∧ (∀ (s : State) (job : Fin 64) (a v : Nat), a % 8 = 0 → a + 8 ≤ s.m.lpddrUsable → s.m.poisonIn a 8 = [] →
      Completes (.gfx64Add job a v) s [.lpddr, .cnt] (fun m' => leNat (m'.lpRead a 8) = (leNat (s.m.lpRead a 8) + v) % 2 ^ 64
        ∧ (∀ x, x < a ∨ a + 8 ≤ x → memRead m'.mem.lpddr x = memRead s.m.mem.lpddr x)
        ∧ m'.ctr 0x3300 0x18 = (s.m.ctr 0x3300 0x18 + 1) % 2 ^ 64))
  ∧ (∀ (s : State) (job : Fin 64) (i : Nat) (owner : Bool) (row lane : Nat) (vs : List Nat), (s.m.job job.val).state = 2 →
      i < jobTensors (s.m.job job.val).config → tenKind (jobTensor (s.m.job job.val).config i) = 2 →
      Completes (.keyedAdd job i owner row lane vs) s [.lpddr, .jobs, .cnt] (fun m' =>
        m' = (s.m.sparseAdd job.val i owner (row * 256 + lane) 0 vs).1))
  ∧ (∀ (s : State) (port : Fin 12) (job : Fin 64) (d a lane v : Nat), (s.m.job job.val).state = 2 →
      let l : Line := { port := port, job := job, device := d, addr := a / 256 * 256, lane := lane, values := [(a % 256 / 8, v % 2 ^ 64)] }
      ((∃ x ∈ s.m.jobs.lines, x.sameAs l = true) → Completes (.lsaCombine port job d a lane v) s [.jobs] (fun m' =>
        m'.jobs.lines = s.m.jobs.lines.map (fun x => if x.sameAs l then x.merge l else x)))
      ∧ ((∀ x ∈ s.m.jobs.lines, x.sameAs l = false) → (s.m.jobs.lines.filter (fun x => x.port == port.val)).length < 4096 →
          Completes (.lsaCombine port job d a lane v) s [.jobs] (fun m' => m'.jobs.lines = s.m.jobs.lines ++ [l])))

/-! ## Look-ups (10) and the deadlines of jobs (11) -/

/-- The look-up rows on a tile that is not quarantined: an owner tile pools a route that has arrived whole, row by row and
bag by bag, into the partials of its request, counts its occurrences and forgets the route; a request whose partials have
all arrived completes with STATUS 0, and one that the tick after its frame finds incomplete completes with STATUS 2 and the
number missing; the refresh before tick R places the KIND 7 action of R. On a quarantined tile nothing issues, and where
nothing is due nothing changes. -/
def Obligations.LookupRowsComplete : Prop :=
  ∀ (s : State) (tile : Fin 512),
    let m := s.m
    let t := tile.val
    ((m.tileHealth t).state = 1 → ∀ i, i = .lookupOwnerPool tile ∨ i = .lookupCombine tile → Completes i s [] (fun m' => m' = s.m))
    ∧ (∀ (r : Route) (d : Nat) (l : Lookup), (m.tileHealth t).state ≠ 1 → m.tables.routes = [r] → r.pool = t → r.whole = true →
        (m.table r.table).active = some d → (∀ o ∈ r.occ, m.rowPoison t d o.2.1 = false) → r.device = m.device → r.ownDev = m.device →
        m.tables.lookups = [l] → l.tile = r.tile → l.ctx * 2 ^ 23 + l.addr = r.request → l.frame = m.clock.sfc → l.parts = [] → tabCombine d = true →
        Completes (.lookupOwnerPool tile) s [.tables, .tiles, .cnt] (fun m' => m'.tables.routes = []
          ∧ m'.tables.lookups = [{ l with parts := (dedup (r.occ.map (·.1))).map (fun b =>
              (r.ownDev, r.owner, b, (m.partial_ t d (r.occ.filter (fun o => o.1 == b))).map Acc.pair)) }]
          ∧ m'.ctrI 0x3200 0x07 (r.table * 8 + 1) = (m.ctrI 0x3200 0x07 (r.table * 8 + 1) + r.occ.length) % 2 ^ 64))
    ∧ (∀ l : Lookup,
        let c := m.ctx l.tile l.ctx
        let h := leNat (m.sliceRead l.tile l.addr 64)
        let occ := (m.lkOccs l.tile c h).filter (fun o => tabValid l.desc o.2.1)
        let out := (List.range (lkBags h)).flatMap (fun b => (l.bag (lkMean h) b (occ.filter (fun o => o.1 == b)).length).1.flatMap (toLe 4))
        let missing := (l.want.filter (fun w => !l.arrived.any (fun q => (q.1, q.2.1, q.2.2.1) == w))).length
        let ended := fun (st : Nat) (m' : Module) =>
          let h' := leNat (m'.sliceRead l.tile l.addr 64)
          m'.tables.lookups = m.tables.lookups.erase l ∧ fld h' 287 280 = st ∧ fld h' 383 352 = missing % 2 ^ 32
            ∧ (c.at (lkOut h) + out.length ≤ l.addr ∨ l.addr + 64 ≤ c.at (lkOut h) → m'.sliceRead l.tile (c.at (lkOut h)) out.length = out
                ∧ (m.evtReserved l.tile (lkEvt h) = true →
                    mGetD (m'.tile l.tile).events (lkEvt h) 0 = (mGetD (m.tile l.tile).events (lkEvt h) 0 + 1) % 2 ^ 32))
        ((m.tileHealth t).state ≠ 1 → m.tables.lookups.filter (fun l => l.tile == t && l.full) = [l] →
            Completes (.lookupCombine tile) s [.tables, .tiles, .cnt] (ended 0))
        ∧ (m.tables.lookups.filter (fun l => decide (l.frame < m.clock.sfc)) = [l] →
            Completes .lookupIncomplete s [.tables, .tiles, .cnt] (ended (if missing = 0 then 0 else 2))))
    ∧ (m.tables.lookups.filter (fun l => decide (l.frame < m.clock.sfc)) = [] → Completes .lookupIncomplete s [] (fun m' => m' = s.m))
    ∧ (∀ n, n = m.clock.sfc + 1 →
        (n % max 1 (m.cfg 0x3200 0x0A) ≠ 0 → Completes .hotRowRefresh s [] (fun m' => m' = s.m))
        ∧ (n % max 1 (m.cfg 0x3200 0x0A) = 0 → (∀ a ∈ m.schedule, ¬ (a.kind = 7 ∧ a.target = n)) →
            Completes .hotRowRefresh s [.schedule, .nextSeq, .tiles, .tables, .links, .cascade, .cnt, .inject, .out] (fun m' =>
              m'.schedule = insertAction { kind := 7, target := n, seq := m.nextSeq } m.schedule)))

/-- The end of a step at its deadline D: a member that holds the verdict acts on it, and one that holds none notes the late
step; a late verdict is acted on when it arrives, and counted. To act on APPLIED commits the working buffers and goes to
the next step; to act on FAILED keeps the step, to act on SKIPPED advances it; each writes the step record to STATUS_ADDR,
counts, and advances the notify counter. Away from its deadline the row changes nothing but the schedule. -/
def Obligations.DeadlineRowsComplete : Prop :=
  ∀ (s : State) (job : Fin 64),
    let m := s.m
    let j := job.val
    let x := m.job j
    let b := x.config
    let parts := [Part.schedule, .jobs, .lpddr, .cnt, .tiles, .fresh, .events, .clients, .links, .cascade, .inject, .out]
    let acts := fun (v : Verdict) (m' : Module) =>
      let y := m'.job j
      y.acted = (if x.start = v.start then true else x.acted) ∧ y.state = 2 ∧ y.record = stepRecord j (v.start + jobSpan b) v ∧ y.lateStep = none
        ∧ m'.lpRead (jobStatusAddr b) 32 = stepRecord j (v.start + jobSpan b) v
        ∧ (v.outcome = 0 → y.step = (x.step + 1) % 2 ^ 32 ∧ y.bufCopy = 1 - x.bufCopy ∧ m'.ctr 0x3300 0x0E = (m.ctr 0x3300 0x0E + 1) % 2 ^ 64)
        ∧ (v.outcome = 1 → y.step = x.step ∧ y.bufCopy = x.bufCopy ∧ m'.ctr 0x3300 0x13 = (m.ctr 0x3300 0x13 + 1) % 2 ^ 64)
        ∧ (v.outcome = 2 → y.step = (x.step + 1) % 2 ^ 32 ∧ y.bufCopy = x.bufCopy ∧ m'.ctr 0x3300 0x14 = (m.ctr 0x3300 0x14 + 1) % 2 ^ 64)
        ∧ (m.evtReserved (jobNotifyTile b) (jobNotifyEvt b) = true → mGetD (m'.tile (jobNotifyTile b)).events (jobNotifyEvt b) 0 =
            (mGetD (m.tile (jobNotifyTile b)).events (jobNotifyEvt b) 0 + 1) % 2 ^ 32)
    let gone := m.schedule.filter (fun a => !(a.kind == 8 && a.arg == j && decide (a.target ≤ m.clock.sfc)))
    (x.state ≠ 2 ∨ x.acted = true ∨ m.clock.sfc ≠ x.deadline →
        Completes (.reductionDeadline job) s [.schedule] (fun m' => m'.schedule = gone))
      ∧ (x.state = 2 → x.acted = false → m.clock.sfc = x.deadline →
          (x.verdictNow = none → Completes (.reductionDeadline job) s [.schedule, .jobs] (fun m' => m'.schedule = gone
            ∧ m'.job j = { x with lateStep := some x.step, acted := true }))
          ∧ (∀ v, x.verdictNow = some v → Completes (.reductionDeadline job) s parts (fun m' => m'.schedule = gone ∧ acts v m')))
      ∧ ∀ (t : Nat) (r : Bytes), m.clock.now ≤ t → (Instr.lateVerdict t job r).wellFormed = true →
          (x.state = 2 → x.lateStep = some (verdictOf b r).step → Completes (.lateVerdict t job r) s (.now :: parts) (fun m' =>
            acts (verdictOf b r) m' ∧ m'.ctr 0x3300 0x16 = (m.ctr 0x3300 0x16 + 1) % 2 ^ 64))
          ∧ (x.state ≠ 2 ∨ x.lateStep ≠ some (verdictOf b r).step → Completes (.lateVerdict t job r) s [.now] (fun m' => m'.jobs = s.m.jobs))

/-! ## Cascade links (14, 18 R500) -/

/-- The cells of a link itself: a cell with a bad CRC is dropped and counted against its port and its lane; an IDLE cell
drops from the replay buffer what it acknowledges; a cell of a reserved TYPE is taken in sequence, dropped and counted; a
DELAY request is answered with the times of its receipt and its reply, and a DELAY response of this exchange gives a delay
measurement; a LINK cell brings a link in HELLO to UP, or to MISMATCH, by the CASCADE_ID and device numbers of both ends,
and returns its credits to a link that is UP. -/
def Obligations.LinkCellsComplete : Prop :=
  ∀ (s : State) (port : Fin 12) (t : Nat), s.m.clock.now ≤ t → s.m.health.armed = false →
    let m := s.m
    let p := port.val
    let l := m.linkPort p
    let wire := [Part.now, .links, .cnt, .out]
    let bad := fun (lane : Nat) (m' : Module) => m'.ctrI 0x4200 0x0A (p * 16 + 2) = (m.ctrI 0x4200 0x0A (p * 16 + 2) + 1) % 2 ^ 64
      ∧ mGetD (m'.linkPort p).laneCrc lane 0 = mGetD l.laneCrc lane 0 + 1 ∧ (m'.linkPort p).rxNext = l.rxNext
    (∀ lane : Fin 4, Completes (.cellCrcFail port t lane) s [.now, .links, .cnt] (bad lane.val))
      ∧ (∀ c, c.length = 272 → cellCrcOk c = false →
          (cellTyp c = 0 → Completes (.idle port t c) s [.now, .links, .cnt] (bad l.firstLane))
          ∧ (cellTyp c = 4 → Completes (.stateCell port t c) s [.now, .links, .cnt] (bad l.firstLane)))
      ∧ (∀ c, c.length = 272 → cellCrcOk c = true → cellTyp c = 0 → l.state = 3 → l.waiting = [] → ∀ n,
          (n = (cellAck c + 4096 - (match l.replay with
            | e :: _ => e.1
            | [] => l.txSeq)) % 4096) → n ≤ l.replay.length →
          Completes (.idle port t c) s [.now, .links, .cnt] (fun m' => (m'.linkPort p).replay = l.replay.drop n
            ∧ (m'.linkPort p).rxNext = l.rxNext ∧ m'.ctrI 0x4200 0x0A (p * 16 + 1) = (m.ctrI 0x4200 0x0A (p * 16 + 1) + 1) % 2 ^ 64))
      ∧ (∀ c, 20 < cellTyp c → Arrives m p (cellTyp c) c → Completes (.reservedTypeCell port t c) s wire (fun m' => TookCell m m' p
          ∧ m'.ctrI 0x4200 0x0A (p * 16 + 7) = (m.ctrI 0x4200 0x0A (p * 16 + 7) + 1) % 2 ^ 64))
      ∧ (∀ c, Arrives m p 2 c →
          let pay := cellPay c
          (cellArg c = 0 → CanSend m p 1 → Completes (.delay port t c) s wire (fun m' => TookCell m m' p
            ∧ SentCell m' p 2 1 (pay.take 8 ++ toLe 8 t ++ toLe 8 t ++ sub pay 24 4)))
          ∧ (cellArg c ≠ 0 → leAt pay 24 4 = l.exchange → Completes (.delay port t c) s wire (fun m' => TookCell m m' p
              ∧ (m'.linkPort p).delays.head? = some ((((t : Int) - (leAt pay 0 8 : Nat)) - ((leAt pay 16 8 : Nat) - (leAt pay 8 8 : Nat) : Int)).tdiv 2
                  + sgn 32 (m.cfgI 0x4200 0x0B p)))))
      ∧ (∀ c, c.length = 272 → cellCrcOk c = true → cellTyp c = 1 →
          let h := l.hello (cellPay c)
          (l.state = 2 → Completes (.link port t c) s [.now, .links, .cascade, .cnt, .out, .events, .clients] (fun m' =>
            (m'.linkPort p).state = m.linkVerdict h ∧ (m'.linkPort p).neighDev = h.neighDev ∧ (m'.linkPort p).neighPort = h.neighPort
              ∧ (m'.linkPort p).neighCascade = h.neighCascade))
          ∧ (l.state = 3 → m.linkVerdict h = 3 → l.waiting = [] → leAt (cellPay c) 48 4 = 0 → leAt (cellPay c) 180 4 = 0 →
              Completes (.link port t c) s [.now, .links, .cnt] (fun m' => (m'.linkPort p).state = 3 ∧ ∀ k, k < 4 →
                mGetD (m'.linkPort p).credits k 0 = min 256 (mGetD l.credits k 0 + leAt (cellPay c) (32 + 4 * k) 4))))

/-- What time does to links, lanes and requests: a gap of 500 ns asks for its missing cells; a cell that has waited
REPLAY_TIMEOUT_NS is sent again, and past RETRY_LIMIT the link FAILS; a lane that locks joins its port and brings a training
link to HELLO; a lost lane leaves at once, and the last one fails the link; a DOWN or FAILED link trains again after 1 s; the
second's lane errors start anew; a member that misses eight beacons has lost its match; the module's state is originated
once a second; each UP link starts a delay exchange; an operation past REMOTE_TIMEOUT_US ends, with a stream fault REMOTE
where a user stream issued it; and a placement past 100 us is cancelled. -/
def Obligations.LinkTimersComplete : Prop :=
  ∀ (s : State) (port : Fin 12) (t : Nat), s.m.clock.now ≤ t → s.m.health.armed = false →
    let m := s.m
    let p := port.val
    let l := m.linkPort p
    let wide := [Part.now, .links, .cascade, .cnt, .out, .events, .clients, .jobs]
    (∀ g, l.gapSince = some g →
      let miss := missingSeqs l.rxNext l.window
      (t < g + 500 → Completes (.gapNak port t) s [.now] (fun m' => m'.cascade = m.cascade))
      ∧ (g + 500 ≤ t → miss ≠ [] → Completes (.gapNak port t) s [.now, .links, .cnt, .out] (fun m' =>
          (m'.linkPort p).gapSince = some t ∧ m'.ctrI 0x4200 0x0A (p * 16 + 4) = (m.ctrI 0x4200 0x0A (p * 16 + 4) + miss.length) % 2 ^ 64
            ∧ ∃ c, Out.cell p c ∈ m'.out ∧ cellTyp c = 1 ∧ leAt (cellPay c) 48 4 = miss.length)))
    ∧ (l.state = 3 →
        let due := l.replay.filter (fun e => decide (e.2.2.1 + m.cfg 0x4200 0x15 ≤ t))
        ((∀ e ∈ due, e.2.2.2 < m.cfg 0x4200 0x16) → Completes (.replayTimeout port t) s [.now, .links, .cnt, .out] (fun m' =>
            (m'.linkPort p).state = 3 ∧ (due ≠ [] → m'.ctrI 0x4200 0x0A (p * 16 + 3) = (m.ctrI 0x4200 0x0A (p * 16 + 3) + due.length) % 2 ^ 64)
              ∧ m'.out.length = m.out.length + due.length))
        ∧ ((∃ e ∈ due, m.cfg 0x4200 0x16 ≤ e.2.2.2) → Completes (.replayTimeout port t) s wide (fun m' =>
            (m'.linkPort p).state = 5 ∧ (m'.linkPort p).replay = [] ∧ (m'.linkPort p).since = t)))
    ∧ (∀ lane : Fin 4,
        (l.state ≠ 0 → l.state ≠ 5 → l.failedLanes.testBit lane.val = false → Completes (.laneLock port t lane) s [.now, .links, .cnt, .out, .events, .clients]
          (fun m' => (m'.linkPort p).lanes = setBit l.lanes lane.val true ∧ (m'.linkPort p).state = (if l.state = 1 then 2 else l.state)))
        ∧ (l.lanes.testBit lane.val = true → Completes (.laneLoss port t lane) s (.schedule :: .nextSeq :: .health :: wide) (fun m' =>
            (m'.linkPort p).lanes = setBit l.lanes lane.val false
              ∧ (m'.linkPort p).state = (if setBit l.lanes lane.val false = 0 then 5 else l.state)))
        ∧ (l.lanes.testBit lane.val = false → Completes (.laneLoss port t lane) s [.now] (fun m' => m'.cascade = m.cascade)))
    ∧ (m.cfgI 0x4200 0x08 p ≠ 0 → l.state = 0 ∨ l.state = 5 →
        (l.since + 1000000000 ≤ t → Completes (.linkRetry port t) s [.now, .links, .events, .clients] (fun m' =>
          (m'.linkPort p).state = 1 ∧ (m'.linkPort p).lanes = 0 ∧ (m'.linkPort p).since = t))
        ∧ (t < l.since + 1000000000 → Completes (.linkRetry port t) s [.now] (fun m' => m'.cascade = m.cascade)))
    ∧ Completes (.laneCrcCheck t) s [.now, .links, .schedule, .nextSeq, .health, .cnt, .out] (fun m' => ∀ q, q < 12 → (m'.linkPort q).laneCrc = [])
    ∧ (m.device ≠ 0 → m.inCascadeConfig = true →
        (8 ≤ m.clock.beaconMiss → Completes (.beaconMissing t) s [.now, .clock, .cascade, .cnt, .events, .clients] (fun m' =>
          m'.clock.beaconMiss = 0 ∧ m'.clock.beaconMatch = 0 ∧ m'.cascade = { m.cascade with beaconOk := false }
            ∧ m'.ctr 0x1100 0x1F = (m.ctr 0x1100 0x1F + 1) % 2 ^ 64))
        ∧ (m.clock.beaconMiss < 8 → Completes (.beaconMissing t) s [.now] (fun _ => True)))
    ∧ (m.cascade.stateSent + 1000000000 ≤ t → Completes (.stateOriginate t) s [.now, .links, .cascade, .cnt, .out] (fun m' =>
        m'.cascade.version = (m.cascade.version + 1) % 2 ^ 32 ∧ m'.cascade.stateSent = t
          ∧ mGet m'.cascade.nodes m.device = some { version := (m.cascade.version + 1) % 2 ^ 32, serial := m.boot.serial, inCascade := m.inFrames,
                                                    effect := m.clock.sfc + 2, adj := m.adjacency }))
    ∧ Completes (.delayInterval t) s [.now, .links, .cnt, .out] (fun m' => ∀ q, q < 12 →
        (m'.linkPort q).exchange = (if (m.linkPort q).state = 3 then ((m.linkPort q).exchange + 1) % 2 ^ 32 else (m.linkPort q).exchange))
    ∧ (∀ o, m.cascade.ops = [o] → o.kind ≠ 6 → o.issued + 1000 * m.cfg 0x4200 0x14 ≤ t →
        (o.streamId = 0 → Completes (.remoteTimeout t) s [.now, .cascade] (fun m' => m'.cascade = { m.cascade with ops := [] }))
        ∧ (o.streamId ≠ 0 → ∀ x, mGet m.streams.sets (m.ctx o.tile o.ctx).setId = some x →
            Completes (.remoteTimeout t) s [.now, .cascade, .tiles, .streams, .cnt, .events, .clients] (fun m' => m'.cascade.ops = []
              ∧ ∃ y, mGet m'.streams.sets (m.ctx o.tile o.ctx).setId = some y ∧ y.faultCode = 14 ∧ y.faultTile = o.tile)))
    ∧ (∀ (x : Placement) (r : VReq) (c : Client), m.cascade.placements = [x] → x.reply = some r → m.client r = some c → x.action.kind ≠ 8 →
        x.sent + 100000 ≤ t → Completes (.schedTimeout t) s [.now, .links, .cascade, .schedule, .clients, .cnt, .out] (fun m' =>
          m'.cascade.placements = []
            ∧ m'.schedule = m.schedule.filter (fun a => !(a.seq == x.action.seq && a.kind == x.action.kind && a.target == x.action.target))
            ∧ m'.client r = some { c with kept := keepReply c.kept r.seq (replyBytes r 14 0 0 []) }))

/-! ## Requests, replies and flooded cells of the cascade (14 R395, R396, R402, R414 to R417) -/

/-- The cells of remote memory and of schedules, addressed to this module: SCHED places or cancels an action and is answered
with DONE; READ_REQ within bounds is answered with its bytes, one READ_DATA for each line of 256, and out of bounds with DONE
status 1; READ_DATA stores its line in the slice of the tile that reads; WRITE writes its bytes, and ACC KIND 0 adds its
operand, where the sender may; SIGNAL changes a counter; and DONE ends its operation, or with a status other than 0 faults
the stream that issued it with REMOTE. -/
def Obligations.RemoteMemoryCellsComplete : Prop :=
  ∀ (s : State) (port : Fin 12) (t : Nat) (c : Bytes), s.m.clock.now ≤ t → cellDst c = s.m.device →
    let m := s.m
    let p := port.val
    let src := cellSrc c
    let arg := cellArg c
    let pay := cellPay c
    let a := leAt pay 0 8
    let wire := [Part.now, .links, .cnt, .out]
    let done := fun (st : Nat) (m' : Module) => TookCell m m' p
      ∧ ∀ q, m.cascade.route m.device m.device src = some q → CanSend m q 1 → SentCell m' q 11 arg (toLe 1 st)
    (Arrives m p 5 c → ∀ x, x = schedAction pay → x.kind ≠ 8 →
      (leAt pay 32 1 = 1 → Completes (.sched port t c) s (.schedule :: wire) (fun m' => done 0 m'
        ∧ m'.schedule = m.schedule.filter (fun b =>
            !(b.host && b.kind == x.kind && b.target == x.target && b.key == x.key && b.value == x.value && b.arg == x.arg))))
      ∧ (leAt pay 32 1 ≠ 1 → (m.at t).clock.firstFrame ≤ x.target → m.hostFull = false →
          Completes (.sched port t c) s (.schedule :: .nextSeq :: wire) (fun m' => done 0 m' ∧ m'.schedule = insertAction x m.schedule))
      ∧ (leAt pay 32 1 ≠ 1 → x.target < (m.at t).clock.firstFrame ∨ m.hostFull = true → Completes (.sched port t c) s wire (done 1)))
    ∧ (Arrives m p 6 c → ∀ n, n = leAt pay 8 4 →
        (n < 16 ∨ 4096 < n → Completes (.readReq port t c) s wire (done 1))
        ∧ (16 ≤ n → n ≤ 4096 → leAt pay 12 4 = 0 → ∀ o, m.locateN a n = .lpddr o → m.poisonIn o n = [] →
            Completes (.readReq port t c) s wire (fun m' => TookCell m m' p
              ∧ ∀ q, m.cascade.route m.device m.device src = some q → CanSend m q 16 → ∀ j, 256 * j < n →
                  SentCell m' q 7 ((arg + j) % 2 ^ 48) (sub (m.lpRead o n) (256 * j) 256))))
    ∧ (Arrives m p 7 c → ∀ o, m.opOf src arg = some o → o.kind = 3 → leNat o.cell ≤ 256 →
        Completes (.readData port t c) s (.tiles :: .cascade :: wire) (fun m' => TookCell m m' p
          ∧ m'.sliceRead o.tile o.dest (leNat o.cell) = pay.take (leNat o.cell) ∧ m'.cascade.ops = m.cascade.ops.erase o))
    ∧ (Arrives m p 8 c → ∀ n, n = leAt pay 12 2 → 16 ≤ n → n ≤ 240 → leAt pay 8 4 = 0 →
        (a % 2 ^ 55 < serviceJob ∨ serviceJob + 64 * 8192 ≤ a % 2 ^ 55) →
        (∀ o, m.locateN a n = .lpddr o → Completes (.writeCell port t c) s (.lpddr :: .tables :: wire) (fun m' => done 0 m'
          ∧ m'.lpRead o n = sub pay 16 n ∧ ∀ x, x < o ∨ o + n ≤ x → memRead m'.mem.lpddr x = memRead m.mem.lpddr x))
        ∧ (∀ u o, m.locateN a n = .slice u o → Completes (.writeCell port t c) s (.tiles :: wire) (fun m' => done 0 m'
            ∧ m'.sliceRead u o n = sub pay 16 n ∧ ∀ x, x < o ∨ o + n ≤ x → memRead (m'.tile u).slice x = memRead (m.tile u).slice x))
        ∧ (m.locateN a n = .unmapped → Completes (.writeCell port t c) s wire (done 1)))
    ∧ (Arrives m p 9 c → leAt pay 12 1 = 0 → leAt pay 14 2 = 1 → ∀ u o, m.locateN a 40 = .vat u o →
        (m.remoteMayAcc (leAt pay 8 4) (.vat u o) 40 = false → Completes (.acc port t c) s wire (done 1))
        ∧ (m.remoteMayAcc (leAt pay 8 4) (.vat u o) 40 = true → o + 40 ≤ 0x40000 → Completes (.acc port t c) s (.tiles :: wire) (fun m' => done 0 m'
            ∧ m'.tile u = (m.tile u).vatAdd o (sub pay 16 40) ∧ ∀ v, v ≠ u → m'.tile v = m.tile v)))
    ∧ (Arrives m p 10 c → ∀ u e, m.locate a = .ctl u 0 → e = leAt pay 13 1 % 64 →
        (1 < leAt pay 12 1 → Completes (.remoteSignal port t c) s wire (done 1))
        ∧ (leAt pay 12 1 ≤ 1 → m.evtReserved u e = true → Completes (.remoteSignal port t c) s (.tiles :: wire) (fun m' => done 0 m'
            ∧ mGetD (m'.tile u).events e 0 =
                (if leAt pay 12 1 = 0 then (mGetD (m.tile u).events e 0 + leAt pay 16 4) % 2 ^ 32 else leAt pay 16 4))))
    ∧ (Arrives m p 11 c → leAt pay 1 1 ≠ 1 → (∀ x ∈ m.cascade.placements, x.tag ≠ arg) → ∀ o, m.opOf src arg = some o → o.kind ≠ 3 → o.kind ≠ 6 →
        (leAt pay 0 1 = 0 → Completes (.doneCell port t c) s (.tiles :: .cascade :: wire) (fun m' => TookCell m m' p
          ∧ m'.cascade.ops = m.cascade.ops.erase o))
        ∧ (leAt pay 0 1 ≠ 0 → o.streamId ≠ 0 → ∀ x, mGet m.streams.sets (m.ctx o.tile o.ctx).setId = some x →
            Completes (.doneCell port t c) s (.tiles :: .cascade :: .streams :: .events :: .clients :: wire) (fun m' => TookCell m m' p
              ∧ m'.cascade.ops = m.cascade.ops.filter (fun y => y.streamId != o.streamId)
              ∧ ∃ y, mGet m'.streams.sets (m.ctx o.tile o.ctx).setId = some y ∧ y.faultCode = 14 ∧ y.faultTile = o.tile)))

/-- The cells of look-ups, jobs and the cascade's own state: a LOOKUP cell of occurrences begins its route, one of counts
counts its rows at their tile, and one of a replica holds it for the refresh; a RING cell counts, and a dense line for this
module adds its 32 operands into memory and into the RECEIVED digest; a TOKEN of a phase that has not begun waits, a stale
one changes no job, and one in its last lap gives the verdict; an ABORT, taken once for its origin, job and step, makes the
verdict of the step FAILED for an absent member; a STATE of an unknown device is held, and governs from a tick on; and a
BEACON from the parent in T(0) that agrees with this module counts a match, and one that does not ends the matches and has
the master's frame state adopted. -/
def Obligations.JobAndStateCellsComplete : Prop :=
  ∀ (s : State) (port : Fin 12) (t : Nat) (c : Bytes), s.m.clock.now ≤ t →
    let m := s.m
    let p := port.val
    let src := cellSrc c
    let arg := cellArg c
    let pay := cellPay c
    let j := fld arg 5 0
    let x := m.job j
    let wire := [Part.now, .links, .cnt, .out]
    (Arrives m p 17 c → cellDst c = m.device →
      let n := leAt pay 2 2
      let tile := leAt pay 6 2 % 512
      let owner := leAt pay 12 2 % 512
      (leAt pay 0 1 = 0 →
        (∀ r ∈ m.tables.routes, ¬ (r.device = src ∧ r.tile = tile ∧ r.request = leAt pay 8 4 ∧ r.owner = owner ∧ r.whole = false)) →
        Completes (.lookup port t c) s (.tables :: wire) (fun m' => TookCell m m' p
          ∧ m'.tables = { m.tables with routes := m.tables.routes ++ [{ device := src, tile := tile, request := leAt pay 8 4, ownDev := m.device
                                                                        owner := owner, pool := owner, table := leAt pay 4 1, whole := leAt pay 1 1 != 0
                                                                        occ := (List.range n).map (fun i =>
                                                                          (leAt pay (32 + 16 * i) 4, leAt pay (36 + 16 * i) 8, leAt pay (44 + 16 * i) 4)) }] }))
      ∧ (leAt pay 0 1 = 2 → Completes (.lookup port t c) s (.tiles :: wire) (fun m' => TookCell m m' p
          ∧ m'.tile tile = (List.range n).foldl (fun y i => y.countRow (leAt pay 4 1) (leAt pay (32 + 8 * i) 5) (leAt pay (37 + 8 * i) 3)) (m.tile tile)))
      ∧ (leAt pay 0 1 = 3 → leAt pay 20 4 = 0 → Completes (.lookup port t c) s (.tables :: wire) (fun m' => TookCell m m' p
          ∧ m'.tables = { m.tables with incoming := m.tables.incoming ++ [{ tile := tile, estimate := leAt pay 16 4, device := src, owner := owner, row :=
              { table := leAt pay 4 1, version := leAt pay 8 4, row := leAt pay 24 8, data := (pay.drop 32).take n, replica := true } }] })))
    ∧ (Arrives m p 18 c → cellDst c = m.device →
        (x.state ≠ 2 → Completes (.ring port t c) s wire (fun m' => TookCell m m' p ∧ m'.ctr 0x3300 0x1A = (m.ctr 0x3300 0x1A + 1) % 2 ^ 64))
        ∧ (x.state = 2 → (fld arg 47 6).testBit 41 = false → fld (fld arg 47 6) 40 33 = m.device → ∀ a, a = 256 * fld (fld arg 47 6) 32 0 →
            m.poisonIn a 256 = [] → Completes (.ring port t c) s (.jobs :: .lpddr :: wire) (fun m' => TookCell m m' p
              ∧ m'.job j = x.received pay ∧ m'.ctr 0x3300 0x1A = (m.ctr 0x3300 0x1A + 1) % 2 ^ 64
              ∧ ∀ i, i < 32 → leNat (m'.lpRead (a + 8 * i) 8) = (leNat (m.lpRead (a + 8 * i) 8) + leAt pay (8 * i) 8) % 2 ^ 64)))
    ∧ (Arrives m p 19 c → cellDst c = m.device → ∀ ph lap st k, tokenOf pay = (ph, lap, st, k) →
        (x.state ≠ 2 ∨ st ≠ x.step ∨ leAt pay 112 8 ≠ x.start → Completes (.tokenCell port t c) s wire (TookCell m · p))
        ∧ (x.state = 2 → st = x.step → leAt pay 112 8 = x.start →
            (x.phaseBegun ph m.clock.sfc = false → Completes (.tokenCell port t c) s (.jobs :: wire) (fun m' => TookCell m m' p
              ∧ m'.job j = { x with token := some (ph * 4 + lap, k) }))
            ∧ (x.phaseBegun ph m.clock.sfc = true → lap = 2 → Completes (.tokenCell port t c) s (.jobs :: wire) (fun m' => TookCell m m' p
                ∧ m'.job j = if ph = 1 then { x with phase1 := some k } else x.keepVerdict (formVerdict x.config x.step x.start k)))))
    ∧ (Arrives m p 20 c → ∀ k, k = (src, j, leAt pay 0 4) →
        (k ∈ m.cascade.aborts → Completes (.abort port t c) s wire (TookCell m · p))
        ∧ (k ∉ m.cascade.aborts → x.state = 2 → leAt pay 0 4 = x.step → x.acted = false →
            Completes (.abort port t c) s (.jobs :: .cascade :: wire) (fun m' => TookCell m m' p
              ∧ m'.cascade = { m.cascade with aborts := (k :: m.cascade.aborts).take 256, ports := m'.cascade.ports }
              ∧ (m'.job j).verdictNow = some { step := x.step, start := x.start, outcome := 1, reason := 2, firstMissing := leAt pay 4 2 })))
    ∧ (Arrives m p 4 c → ∀ d n, d = leAt pay 0 1 → n = stateOf (fld arg 31 0) pay →
        (d = m.device → n.serial = m.boot.serial → Completes (.stateCell port t c) s (.cascade :: wire) (fun m' => TookCell m m' p
          ∧ m'.cascade.nodes = m.cascade.nodes ∧ m'.cascade.coming = m.cascade.coming))
        ∧ (d ≠ m.device → mGet m.cascade.nodes d = none → m.clock.ticked = true → Completes (.stateCell port t c) s (.cascade :: wire) (fun m' =>
            TookCell m m' p ∧ mGet m'.cascade.nodes d = some n ∧ m'.cascade.coming = m.cascade.coming ++ [(d, n)]
              ∧ m'.cascade.known = m.cascade.known)))
    ∧ (Arrives m p 3 c → m.inCascadeConfig = true → m.device ≠ 0 → m.cascade.parent 0 m.device = some (m.linkPort p).neighDev →
        m.cfg 0x1100 0x07 ≠ 1 → m.clock.ticked = true → m.clock.adoptNext = false →
        let b := pay.take 64
        let theirs := (leAt b 16 8, leAt b 24 8, leAt b 40 4, leAt b 48 1)
        let same := leAt b 0 8 = m.clock.sfc + 1 ∧ theirs = (m.clock.baseSfc, m.clock.baseNs, m.clock.period, m.clock.depth) ∧ leAt b 32 8 = m.schedDigest
        (∀ y, m.clock.beaconHere = some y → leAt y 0 8 ≠ leAt b 0 8) →
        (same → Completes (.beacon port t c) s (.clock :: .cascade :: wire) (fun m' => TookCell m m' p
          ∧ m'.clock.beaconHere = some b ∧ m'.clock.beaconMiss = 0 ∧ m'.cascade.hops = leAt pay 72 1
          ∧ m'.clock.beaconMatch = min 16 (m.clock.beaconMatch + 1)
          ∧ m'.cascade.beaconOk = (m.cascade.beaconOk || decide (15 ≤ m.clock.beaconMatch))))
        ∧ (¬ same → Completes (.beacon port t c) s (.clock :: .cascade :: .events :: .clients :: wire) (fun m' => TookCell m m' p
            ∧ m'.clock.beaconMatch = 0 ∧ m'.cascade.beaconOk = false ∧ m'.clock.adopt = some theirs
            ∧ m'.ctr 0x1100 0x1F = (m.ctr 0x1100 0x1F + 1) % 2 ^ 64 ∧ Logged m m' t 0x0001 4 (leAt b 0 8))))

/-! ## Multicasts and the cascade merge (05 R156 to R161, 14 R404 to R413) -/

/-- The cells of a batch that is multicast: BATCH_OPEN has its batch held; QUERY, BATCH_END and TOWER_OUT cells join the
batch they belong to; a whole ANSWER is held for the earliest query of its tag that lacks one from its device; a batch that
is whole in a module of cascade frames is accepted at its cut-off and answered with DONE 0, any other is refused, counted
and answered with DONE 1, and gate 1 waits for the last one; a staged query whose tower outputs are late is dropped and
counted; and after the merge cut-off a due query is merged, posted and taken out of flight with its answers. -/
def Obligations.MulticastsComplete : Prop :=
  ∀ (s : State) (t : Nat), s.m.clock.now ≤ t →
    let m := s.m
    let wire := [Part.now, .links, .cnt, .out]
    (∀ (port : Fin 12) (c : Bytes),
      let p := port.val
      let arg := cellArg c
      let pay := cellPay c
      let group := fld arg 47 40
      let tag := fld arg 39 8
      let idx := fld arg 7 0
      let put := fun (b : Batch) (f : Batch → Batch) => m.cascade.batches.map (fun x =>
        if x.entry == b.entry && x.group == b.group && x.sfc == b.sfc then f x else x)
      (Arrives m p 12 c → Completes (.batchOpen port t c) s (.cascade :: wire) (fun m' => TookCell m m' p
          ∧ m'.cascade.batches = m.cascade.batches.filter (fun x => !(x.entry == cellSrc c && x.group == group && x.sfc == leAt pay 0 8))
              ++ [{ entry := cellSrc c, group := group, sfc := leAt pay 0 8, members := leAt pay 8 32 }]))
      ∧ (Arrives m p 13 c → ∀ b, m.batchOfQuery c = some b → Completes (.queryRecord port t c) s (.cascade :: wire) (fun m' => TookCell m m' p
          ∧ m'.cascade.batches = put b (fun x => { x with frags := x.frags ++ [(tag, idx, pay)] })))
      ∧ (Arrives m p 14 c → idx = 0 → ∀ b, (m.batchesOf (cellSrc c) group).find? (fun b => b.sfc == leAt pay 56 8) = some b →
          Completes (.batchEnd port t c) s (.cascade :: wire) (fun m' => TookCell m m' p
            ∧ m'.cascade.batches = put b (fun x => { x with ends := x.ends ++ [(idx, pay)] })))
      ∧ (Arrives m p 15 c → ∀ b, (m.batchesOf (cellSrc c) group).reverse.find? (fun b => decide (b.sfc ≤ m.clock.sfc) && b.tags.contains tag
            && !b.towers.any (fun f => f.1 == tag && f.2.1 == idx)) = some b →
          Completes (.towerOut port t c) s (.cascade :: .search :: wire) (fun m' => TookCell m m' p
            ∧ m'.cascade.batches = put b (fun x => { x with towers := x.towers ++ [(tag, idx, pay)] })))
      ∧ (Arrives m p 16 c → cellDst c = m.device → idx = 0 →
          64 + 24 * leAt pay 10 2 ≤ 256 → ∀ q, m.search.live = [q] → q.role = 1 → q.tag = tag →
          (∀ a ∈ m.search.answers, ¬ (a.entryTag = tag ∧ a.sfc = q.admSfc ∧ a.device = cellSrc c)) →
          Completes (.answer port t c) s (.search :: .cascade :: wire) (fun m' => TookCell m m' p
            ∧ m'.search = { m.search with answers := m.search.answers ++ [{ entryTag := tag, sfc := q.admSfc, device := cellSrc c, shard := leAt pay 9 1
                                                                            header := pay.take 64, recs := sub pay 64 (24 * leAt pay 10 2) }] })))
    ∧ (∀ (entry group : Nat) (b : Batch), m.batchOf entry group m.clock.sfc = some b → m.receives b = true → b.verdict = 0 →
        let ok := b.whole && m.inFrames
        ((m.search.gate1 = true ∨ ∃ x ∈ m.cascade.batches, x.sfc = m.clock.sfc ∧ m.receives x = true ∧ x.verdict = 0 ∧ (x.entry ≠ entry ∨ x.group ≠ group)) →
            Completes (.batchAccept t entry group) s (.cascade :: wire) (fun m' =>
              m'.cascade.batches = m.cascade.batches.map (fun x =>
                  if x.entry == entry && x.group == group && x.sfc == m.clock.sfc then { x with verdict := if ok then 1 else 2 } else x)
                ∧ m'.search = m.search
                ∧ (∀ p, m.cascade.route m.device m.device entry = some p → CanSend m p 1 → m.health.armed = false →
                    SentCell m' p 11 (put group 8 40) (toLe 1 (if ok then 0 else 1) ++ toLe 1 1 ++ zeros 6 ++ toLe 8 m.clock.sfc))
                ∧ (ok = false → m'.ctr 0x4200 0x18 = (m.ctr 0x4200 0x18 + 1) % 2 ^ 64)))
        ∧ (m.search.gate1 = false → (∀ x ∈ m.cascade.batches, x.sfc = m.clock.sfc → m.receives x = true → x.verdict = 0 → x.entry = entry ∧ x.group = group) →
            ∃ s', exec (.batchAccept t entry group) s = .next s' ∧ s'.pending = s.pending ∧ s'.m.search.gate1 = true))
    ∧ (∀ l, l = m.search.live.filter (fun q => q.staged && q.towerOut.isNone && decide (probeFrame q.start q.depth ≤ m.clock.sfc)
          && decide (m.clock.tickTime (probeFrame q.start q.depth) + m.cfg 0x4200 0x13 ≤ t)) →
        Completes (.towerOutLate t) s [.now, .links, .cnt, .search] (fun m' =>
          m'.search = { m.search with live := m.search.live.filter (fun q => !l.any (fun x => x.id == q.id)) }
            ∧ (l ≠ [] → m'.ctr 0x4200 0x19 = (m.ctr 0x4200 0x19 + l.length) % 2 ^ 64)))
    ∧ (∀ l, l = m.search.live.filter (fun q => q.role == 1 && (decide (q.mergeSfc < m.clock.sfc)
          || (q.mergeSfc == m.clock.sfc && decide (m.clock.tickTime m.clock.sfc + m.cfg 0x4200 0x13 ≤ t)))) →
        (l = [] → Completes (.cascadeMerge t) s [.now, .links, .cnt] (fun m' => m'.search = m.search))
        ∧ ∀ q lot, l = [q] → m.lotOf q.lot = some lot →
          let ok := (m.cascade.own.filter (fun o => o.group == q.group && o.sfc == q.admSfc)).flatMap (·.accepted)
          let mine := fun (a : Answer) => a.entryTag == q.tag && a.sfc == q.admSfc
          let r := q.merged (imgMetric lot.bytes) (imgShards lot.bytes) (m.search.answers.filter (fun a => mine a && (a.device == m.device || ok.contains a.device)))
          Completes (.cascadeMerge t) s [.now, .links, .cnt, .search, .sessions, .inject, .out] (fun m' =>
            m'.search = { m.search with live := m.search.live.filter (fun x => x.id != q.id), answers := m.search.answers.filter (fun a => !mine a) }
              ∧ m'.ctr 0x30F0 0x0B = (m.ctr 0x30F0 0x0B + r.2) % 2 ^ 64 ∧ Posted m m' q.session q.slot r.1))

/-! ## Host ports (13) -/

/-- Packets and retries of a session in service whose port has no injectors armed: a SEND in sequence joins the messages
that wait, a WRITE in sequence puts its bytes where a window admits them, a READ in sequence is answered with the bytes, one
packet for each 4,096 of them, and the expected PSN moves past each; a packet past a gap is answered with one NAK; an ACK
releases what it covers; with no packet for ACK_DELAY_NS an ACK goes; and the module's own unacknowledged operations are
sent again, until RETRY_COUNT, or the host's RNR count, puts the session in ERROR. -/
def Obligations.RocePacketsComplete : Prop :=
  ∀ (s : State) (t k : Nat) (x : Session), s.m.clock.now ≤ t → s.m.health.armed = false → s.m.session k = some x → x.state = 2 →
    let m := s.m
    let rx := [Part.now, .hosts, .sessions, .cnt, .out]
    let failed := fun (m' : Module) => m'.session k = some { x with state := 3, txQueued := 0, txList := [], partMsg := [], writeAt := none }
    (x.closing = false → x.rxPsn < 2 ^ 24 →
      (∀ pkt : RocePacket, pkt.port.val = x.port → pkt.ce = false → pkt.payload.length ≤ 4096 →
        (pkt.psn.toNat = x.rxPsn → pkt.op = .send true true → x.unparsed.length < m.cfg 0x4100 0x19 → x.partMsg = [] →
            Completes (.rocePacket t k pkt) s rx (fun m' =>
              (∃ y, m'.session k = some y ∧ y.state = 2 ∧ y.rxPsn = (x.rxPsn + 1) % 2 ^ 24 ∧ y.unparsed = x.unparsed ++ [(t, pkt.payload)])
                ∧ m'.ctrI 0x4100 0x20 (x.port * 16 + 1) = (m.ctrI 0x4100 0x20 (x.port * 16 + 1) + 1) % 2 ^ 64
                ∧ (15 ≤ x.unacked → Out.ack k x.rxPsn ∈ m'.out)))
        ∧ (pkt.psn.toNat = x.rxPsn → pkt.op = .send true true → m.cfg 0x4100 0x19 ≤ x.unparsed.length → Completes (.rocePacket t k pkt) s rx (fun m' =>
            m'.session k = some x ∧ Out.rnrNak k x.rxPsn (m.cfg 0x4100 0x1A) ∈ m'.out))
        ∧ (pkt.psn.toNat = x.rxPsn → pkt.op = .write true true → x.writeAt = none → pkt.len = pkt.payload.length → pkt.payload ≠ [] →
            (∀ o, m.hostAccess k x.port pkt.addr pkt.len pkt.rkey true = some o →
              Completes (.rocePacket t k pkt) s (.lpddr :: .tables :: rx) (fun m' =>
                (∃ y, m'.session k = some y ∧ y.state = 2 ∧ y.rxPsn = (x.rxPsn + 1) % 2 ^ 24 ∧ y.writeAt = none)
                  ∧ m'.lpRead o pkt.len = pkt.payload ∧ ∀ a, a < o ∨ o + pkt.len ≤ a → memRead m'.mem.lpddr a = memRead m.mem.lpddr a))
            ∧ (m.hostAccess k x.port pkt.addr pkt.len pkt.rkey true = none → Completes (.rocePacket t k pkt) s rx (fun m' => failed m'
                ∧ Out.nak k x.rxPsn 2 ∈ m'.out ∧ m'.ctr 0x4100 0x21 = (m.ctr 0x4100 0x21 + 1) % 2 ^ 64)))
        ∧ (pkt.op ≠ .ack → pkt.op ≠ .rnr → (∀ code, pkt.op ≠ .nak code) → 
            0 < (pkt.psn.toNat + 2 ^ 24 - x.rxPsn) % 2 ^ 24 → (pkt.psn.toNat + 2 ^ 24 - x.rxPsn) % 2 ^ 24 < 2 ^ 23 →
            (x.nakSent = false → Completes (.rocePacket t k pkt) s rx (fun m' => m'.session k = some { x with nakSent := true }
              ∧ Out.nak k x.rxPsn 0 ∈ m'.out))
            ∧ (x.nakSent = true → Completes (.rocePacket t k pkt) s rx (fun m' => m'.session k = some x ∧ ∀ c, Out.nak k x.rxPsn c ∈ m'.out → Out.nak k x.rxPsn c ∈ m.out)))
        ∧ (pkt.op = .ack → Completes (.rocePacket t k pkt) s rx (fun m' => ∃ y, m'.session k = some y ∧ y.state = 2
            ∧ y.txList = x.txList.drop (x.txList.takeWhile (fun e => decide ((pkt.psn.toNat + 2 ^ 24 - e.1) % 2 ^ 24 < 2 ^ 23))).length)))
      ∧ (∀ (addr rkey : Nat) (data : Bytes) (o : Nat), x.port < 4 → data ≠ [] → x.writeAt = none →
          m.hostAccess k x.port addr data.length rkey true = some o →
          Completes (.hostRdmaWrite t k addr rkey data) s (.lpddr :: .tables :: rx) (fun m' => m'.lpRead o data.length = data
            ∧ ∃ y, m'.session k = some y ∧ y.state = 2 ∧ y.rxPsn = (x.rxPsn + packetsOf data.length) % 2 ^ 24))
      ∧ (∀ (addr rkey len o : Nat), x.port < 4 → m.hostAccess k x.port addr len rkey false = some o → o < m.lpddrUsable → o + len ≤ m.lpddrUsable → m.poisonIn o len = [] →
          Completes (.hostRdmaRead t k addr rkey len x.rxPsn) s rx (fun m' =>
            (∃ y, m'.session k = some y ∧ y.state = 2 ∧ y.rxPsn = (x.rxPsn + packetsOf len) % 2 ^ 24)
              ∧ ∀ i, i < packetsOf len → Out.readData k ((x.rxPsn + i) % 2 ^ 24) (m.lpRead (o + 4096 * i) (min 4096 (len - 4096 * i))) ∈ m'.out)))
    ∧ (0 < x.unacked → Completes (.ackDelayExpiry t k) s [.now, .sessions, .cnt, .out] (fun m' =>
        m'.session k = some { x with unacked := 0, ackReq := false } ∧ Out.ack k (psnBefore x.rxPsn) ∈ m'.out))
    ∧ (x.unacked = 0 → Completes (.ackDelayExpiry t k) s [.now] (fun m' => m'.ports = m.ports))
    ∧ (x.txList ≠ [] →
        (x.retries < m.cfg 0x4100 0x16 → Completes (.localAckTimeout t k) s [.now, .sessions, .cnt, .out] (fun m' =>
          m'.session k = some { x with retries := x.retries + 1 } ∧ ∀ e ∈ x.txList, e.2.2 ∈ m'.out))
        ∧ (m.cfg 0x4100 0x16 ≤ x.retries → Completes (.localAckTimeout t k) s [.now, .sessions] failed)
        ∧ (x.rnrTries ≠ 0 → x.rnrCount = 7 ∨ x.rnrTries ≤ x.rnrCount → Completes (.rnrRetry t k) s [.now, .cnt, .out] (fun m' =>
            m'.session k = some x ∧ ∀ e ∈ x.txList, e.2.2 ∈ m'.out))
        ∧ (x.rnrTries ≠ 0 → x.rnrCount ≠ 7 → x.rnrCount < x.rnrTries → Completes (.rnrRetry t k) s [.now, .sessions] failed))

/-- Sessions as they come, change their rate and go: REQ sets up the lowest free session or is rejected with its code; RTU
puts a connecting session in service; a CNP takes a quarter of the rate, down to its floor, and RATE_RECOVER_US without one
gives 6,250 Mb/s back; DREQ, and a write of SESSION_RESET, close a session whose Store commands are done; and a write of
WINDOW sets up a window of the user region with a fresh R_KEY, whose low bits are free (log 2), removes one, or is refused. -/
def Sys2Proof.Claims.SessionRowsComplete : Prop :=
  (∀ (s : State) (t : Nat), s.m.clock.now ≤ t →
    let m := s.m
    (∀ (port : Fin 4) (ip qpn rnr : Nat) (b : Bytes),
      let e := m.reqCode port.val ip b
      let w := leNat b
      (e ≠ 0 → Completes (.req t port ip qpn rnr b) s [.now, .out] (fun m' => m'.out = m.out ++ [.cm port.val 1 0 (toLe 4 e)]))
      ∧ (e = 0 → Completes (.req t port ip qpn rnr b) s [.now, .sessions, .out] (fun m' => ∃ n x, m.session n = none ∧ m'.session n = some x
          ∧ (∀ k, k ≠ n → m'.session k = m.session k)
          ∧ x = { typ := fld w 7 0, port := port.val, state := 1, v6 := ip / 2 ^ 32 != 0xFFFF, remoteQpn := qpn, resultAddr := fld w 319 256
                  rkey := fld w 255 224, slots := fld w 223 192, slotBytes := fld w 191 160, rnrCount := rnr }
          ∧ m'.out = m.out ++ [.cm port.val 0 n (toLe 4 n ++ toLe 2 (if x.typ = 1 then x.kMax else 0) ++ zeros 26)])))
    ∧ ∀ (k : Nat) (x : Session), m.session k = some x →
        (x.state = 1 → Completes (.rtu t k) s [.now, .sessions] (fun m' => m'.session k = some { x with state := 2 }))
        ∧ (m.cfgB 0x4100 0x10 = true → Completes (.cnp t k) s [.now, .sessions, .cnt] (fun m' =>
            m'.session k = some { x with rate := max (m.cfg 0x4100 0x12) (x.rate * 3 / 4), cnpSeen := t }
              ∧ m'.ctrI 0x4100 0x20 (x.port * 16 + 9) = (m.ctrI 0x4100 0x20 (x.port * 16 + 9) + 1) % 2 ^ 64))
        ∧ (x.cnpSeen + m.cfg 0x4100 0x13 * 1000 ≤ t → Completes (.rateRecover t k) s [.now, .sessions] (fun m' =>
            m'.session k = some { x with rate := min 200000 (x.rate + 6250), cnpSeen := t }))
        ∧ ((∀ c ∈ m.cistern.cmds, c.bulk = none → c.session ≠ k) → x.typ ≠ 2 ∨ m.cistern.cmds = [] → Completes (.dreq t k) s [.now, .sessions, .search, .cistern, .out] (fun m' =>
            m'.session k = none ∧ (∀ j, j ≠ k → m'.session j = m.session j) ∧ m'.out = m.out ++ [.cm x.port 2 k []]
              ∧ m'.search = { m.search with arrivals := m.search.arrivals.filter (fun a => a.session != k)
                                            batch := m.search.batch.filter (fun a => a.session != k)
                                            defaultsDue := m.search.defaultsDue.filter (fun d => d.1 != k) })))
  ∧ ∀ (s : State) (t : Nat) (r : VReq) (c : Client) (rest : List VReq) (o : Obj) (v : Bytes), Served s.m t r c rest →
      Writes (s.m.executing t rest) r c o v → r.target = 0 →
      let reply := [Part.now, .queue, .clients, .cnt, .inject, .out]
      let ack := replyBytes r 0 s.m.clock.sfc 0 (toLe 8 t)
      let i := c.inst o
      let refused := fun st => Completes (.window t) s reply (fun m' => Answered s.m m' t r rest c (replyBytes r st 0 0 []))
      (r.writes 0x4100 0x1E = true → s.m.cistern.cmds = [] → Completes (.sessionReset t) s (.sessions :: .search :: .cistern :: reply) (fun m' =>
        m'.session (leNat v) = none ∧ (∀ j, j ≠ leNat v → m'.session j = s.m.session j) ∧ Answered s.m m' t r rest c ack))
      ∧ (r.writes 0x4100 0x1C = true →
          (i = 0 → refused 5)
          ∧ (i ≠ 0 → recordWindow v = none → Completes (.window t) s (.windows :: .persist :: reply) (fun m' =>
              mGet m'.ports.windows i = none ∧ (∀ j, j ≠ i → mGet m'.ports.windows j = mGet s.m.ports.windows j) ∧ Answered s.m m' t r rest c ack))
          ∧ (i ≠ 0 → ∀ w, recordWindow v = some w →
              (w.len % 4096 ≠ 0 ∨ w.base % 4096 ≠ 0 ∨ s.m.userRegion < w.base + w.len → refused 8)
              ∧ (w.len % 4096 = 0 → w.base % 4096 = 0 → w.base + w.len ≤ s.m.userRegion →
                  Completes (.window t) s (.windows :: .persist :: .fresh :: reply) (fun m' =>
                    mGet m'.ports.windows i = some { w with rkey := i * 2 ^ 24 + Config.freeValue s.m.fresh % 2 ^ 24 } ∧ m'.fresh = s.m.fresh + 1
                      ∧ (∀ j, j ≠ i → mGet m'.ports.windows j = mGet s.m.ports.windows j) ∧ Answered s.m m' t r rest c ack))))

/-- The host ports as Ethernet links: a dropped frame is counted, and the bytes of its priority turn XOFF on above 3 MiB and
off below 2 MiB where PFC is enabled; a PFC frame pauses the enabled priorities for its quanta; a link that changes is noted,
counted and, for H0 to H3, logged; one that has been down for LINK_DOWN_HOLD_MS puts its sessions in ERROR; ARP, neighbour
solicitation and echo to an own address are answered; and an injector lets go of what it holds. -/
def Sys2Proof.Claims.HostLinkRowsComplete : Prop :=
  ∀ (s : State) (t : Nat), s.m.clock.now ≤ t →
    let m := s.m
    (∀ (port : Fin 4) (bytes prio : Nat) (full : Bool) (corrected bad : Nat),
      let p := port.val
      let h := m.hostPort p
      let on := (m.cfgI 0x4100 0x0F p).testBit prio
      let k := p * 16 + (if full then 5 else 3)
      Completes (.fcsError t port bytes prio full corrected bad) s [.now, .hosts, .cnt, .out] (fun m' =>
        m'.ctrI 0x4100 0x20 k = (m.ctrI 0x4100 0x20 k + 1) % 2 ^ 64
          ∧ mGetD (m'.hostPort p).prioBytes prio 0 = bytes
          ∧ (m'.hostPort p).fecOk = (h.fecOk + corrected) % 2 ^ 64 ∧ (m'.hostPort p).fecBad = (h.fecBad + bad) % 2 ^ 64
          ∧ (on = true → 3145728 < bytes → prio ∉ h.xoff → m'.out = m.out ++ [.pfc p prio true] ∧ prio ∈ (m'.hostPort p).xoff)
          ∧ (on = true → bytes < 2097152 → prio ∈ h.xoff → m'.out = m.out ++ [.pfc p prio false] ∧ prio ∉ (m'.hostPort p).xoff)
          ∧ (on = false ∨ 2097152 ≤ bytes ∧ bytes ≤ 3145728 → m'.out = m.out ∧ (m'.hostPort p).xoff = h.xoff)))
    ∧ (∀ (port : Fin 4) (prio quanta : Nat),
        let p := port.val
        Completes (.pfcFrame t port [(prio, quanta)]) s [.now, .hosts, .cnt] (fun m' =>
          m'.ctrI 0x4100 0x20 (p * 16 + 7) = (m.ctrI 0x4100 0x20 (p * 16 + 7) + 1) % 2 ^ 64
            ∧ ∃ h, m'.hostPort p = { m.hostPort p with paused := h } ∧ h = (if (m.cfgI 0x4100 0x0F p).testBit prio = false then (m.hostPort p).paused
                else if quanta = 0 then mDel (m.hostPort p).paused prio else mPut (m.hostPort p).paused prio (t + ceilDiv (256 * quanta) 100))))
    ∧ (∀ (port : Fin 5) (up : Bool),
        let p := port.val
        let h := m.hostPort p
        Completes (.hostLinkChange t port up) s [.now, .hosts, .events, .clients] (fun m' =>
          let h' := m'.hostPort p
          h'.linkUp = up ∧ (up = true → h'.downSince = none) ∧ (up = false → h'.paused = [])
            ∧ (h.linkUp = true → up = false → h'.downSince = some t)
            ∧ h'.changes = (if h.linkUp = up then h.changes else (h.changes + 1) % 2 ^ 32)
            ∧ (h.linkUp ≠ up → p < 4 → Logged m m' t 0x0009 1 (put (b2n up) 1 8 + put p 2 0))
            ∧ (∀ q, q ≠ p → m'.hostPort q = m.hostPort q)))
    ∧ (∀ (port : Fin 4),
        let h := m.hostPort port.val
        let due := h.linkUp = false ∧ ∃ a, h.downSince = some a ∧ a + m.cfg 0x4100 0x18 * 1000000 ≤ t
        (due → Completes (.linkDownHold t port) s [.now, .sessions] (fun m' =>
          (∀ k x, m.session k = some x → x.port = port.val →
            m'.session k = some { x with state := 3, txQueued := 0, txList := [], partMsg := [], writeAt := none })
          ∧ ∀ k, (∀ e ∈ m.ports.sessions, e.1 = k → e.2.port ≠ port.val) → m'.session k = m.session k))
        ∧ (¬ due → Completes (.linkDownHold t port) s [.now] (fun m' => m'.ports = m.ports)))
    ∧ (∀ (port : Fin 5) (target peer mac : Nat) (data : Bytes),
        let p := port.val
        let own := m.ownAddress p target
        Completes (.neighbourResolution t port 0 target peer mac data) s [.now, .out] (fun m' =>
          m'.out = m.out ++ (if own then [Out.neighbour p 0 peer (toBe 6 (m.boot.macs.getD p 0))] else []))
        ∧ Completes (.neighbourResolution t port 1 target peer mac data) s [.now, .hosts] (fun m' =>
            m'.hostPort p = { m.hostPort p with neigh := mPut (m.hostPort p).neigh peer mac })
        ∧ Completes (.neighbourResolution t port 2 target peer mac data) s [.now, .out] (fun m' =>
            m'.out = m.out ++ (if own then [Out.neighbour p 2 peer data] else [])))
    ∧ ∀ k,
        let x := mGetD m.ports.inject k {}
        let free := fun (m' : Module) => let y := mGetD m'.ports.inject k {}; y.held = none ∧ y.heldRx = none ∧ y.heldTx = none
        x.heldRx = none →
          (x.held = none → Completes (.reorderHoldExpiry t k) s [.now, .inject, .out] (fun m' => free m'
            ∧ m'.out = m.out ++ (match x.heldTx with
              | some h => [h.1]
              | none => [])))
          ∧ (∀ h, x.held = some h → x.heldTx = none →
              let p := (k - 64) / 4
              ((m.injRecord true p (k % 4)).testBit 7 = true → Completes (.reorderHoldExpiry t k) s [.now, .inject, .out] (fun m' => free m'
                ∧ m'.out = m.out ++ [.cell p h.1]))
              ∧ ((m.injRecord true p (k % 4)).testBit 7 = false → cellCrcOk h.1 = false →
                  Completes (.reorderHoldExpiry t k) s [.now, .inject, .cnt, .links] (fun m' => free m'
                    ∧ m'.ctrI 0x4200 0x0A (p * 16 + 2) = (m.ctrI 0x4200 0x0A (p * 16 + 2) + 1) % 2 ^ 64)))

/-- The host ports: their sessions, and their links. -/
def Obligations.HostPortRowsComplete : Prop := Claims.SessionRowsComplete ∧ Claims.HostLinkRowsComplete

/-! ## Queries (04, 05) and attribute writes (06) -/

/-- The oldest message of a session in service. A QUERY joins the batch that gathers, with the overrides of its session, and
counts as outstanding; where its port serves a group and its batch is open in cascade frames it is forwarded under the next
tags. A SET_DEFAULTS takes effect at once where its fields are valid, and its completion waits for its arrival tick. An
ATTR_WRITE is logged, and its words wait for the first frame that is still open; a bad one changes nothing; its reply is
posted either way. A message without room for its header or its slot is discarded, counted and logged. -/
def Obligations.SessionMessagesComplete : Prop :=
  ∀ (s : State) (t k : Nat) (x : Session) (a : Nat) (b : Bytes) (r : List (Nat × Bytes)), s.m.clock.now ≤ t → s.m.session k = some x → x.state = 2 →
    x.unparsed = (a, b) :: r →
    let m := s.m
    let discards := fun (i : Instr) => Completes i s [.now, .sessions, .cnt, .events, .clients] (fun m' => m'.session k = some { x with unparsed := r }
      ∧ m'.ctr 0x1200 0x12 = (m.ctr 0x1200 0x12 + 1) % 2 ^ 64 ∧ Logged m m' t 0x0002 2 (k % 2 ^ 64))
    let defaults := decide (64 ≤ b.length) && msgOp b == 2
    (x.typ = 1 → defaults = false →
      (msgDiscarded b x.slots = true → discards (.query t k))
      ∧ (msgDiscarded b x.slots = false →
          let n := if 1 ≤ msgCount b ∧ msgCount b ≤ 64 then msgCount b else 1
          let g := m.portGroup x.port
          let arrival : Arrival := { time := a, port := x.port, session := k, order := (m.search.arrivals.filter (fun y => y.session == k)).length
                                     msg := b, overrides := x.overrides, filter := x.filter, fits := min n (m.cfg 0x1200 0x02 - x.outstanding), group := g }
          let open_ := g ≠ none ∧ m.inFrames = true ∧ msgMalformed b false = false ∧ ∃ o ∈ m.cascade.own, some o.group = g ∧ o.sfc = m.clock.sfc + 1
          (¬ open_ → Completes (.query t k) s [.now, .sessions, .search] (fun m' => m'.session k = some { x with unparsed := r, outstanding := x.outstanding + n }
            ∧ m'.search = { m.search with arrivals := m.search.arrivals ++ [arrival] }))
          ∧ (open_ → Completes (.query t k) s [.now, .sessions, .search, .cascade, .links, .cnt, .out] (fun m' =>
              m'.session k = some { x with unparsed := r, outstanding := x.outstanding + n }
                ∧ m'.search = { m.search with arrivals := m.search.arrivals ++ [{ arrival with tag := some m.search.batchTag }]
                                              batchTag := m.search.batchTag + msgCount b }))))
    ∧ (x.typ = 1 → defaults = true →
        (msgDiscarded b x.slots = true → discards (.setDefaults t k))
        ∧ (msgDiscarded b x.slots = false → Completes (.setDefaults t k) s [.now, .sessions, .search] (fun m' =>
            let bad := defaultsInvalid b x.kMax
            m'.search = { m.search with defaultsDue := m.search.defaultsDue ++ [(k, msgSlot b, if bad then 5 else 0, (m.at t).clock.next)] }
              ∧ (bad = true → m'.session k = some { x with unparsed := r })
              ∧ (bad = false → ∃ f, m'.session k = some { x with unparsed := r, overrides := newOverrides b x.overrides, filter := f }
                  ∧ (msgFilterSel b = 0 → f = x.filter) ∧ (msgFilterSel b = 1 → f = some []) ∧ (msgFilterSel b = 2 → f = some (msgFilter b))))))
    ∧ (x.typ = 3 →
        (b.length < 64 ∨ x.slots ≤ attrSlot b → discards (.attrWrite t k))
        ∧ (64 ≤ b.length → attrSlot b < x.slots →
            (∀ st bad, m.attrStatus b = (st, bad) → st ≠ 0 → Completes (.attrWrite t k) s [.now, .sessions, .cnt, .inject, .out] (fun m' =>
              Posted m m' k (attrSlot b) (attrReply st 0 bad (attrLot b) 0)))
            ∧ (m.attrStatus b = (0, 0) → Completes (.attrWrite t k) s [.now, .sessions, .library, .lots, .cnt, .inject, .out] (fun m' =>
                m'.lots.words = m.lots.words ++ (attrEntries b).map (fun e =>
                    { lot := attrLot b, ordinal := e.1, word := e.2, target := (m.at t).clock.firstFrame })
                  ∧ m'.lots.active = m.lots.active ∧ m'.lots.staged = m.lots.staged
                  ∧ (∀ y, mGet m.lots.library (attrLot b) = some y → mGet m'.lots.library (attrLot b) = some { y with log := y.log ++ attrEntries b })
                  ∧ Posted m m' k (attrSlot b) (attrReply 0 (attrEntries b).length 0 (attrLot b) ((m.at t).attrEffect (attrLot b)))))))

/-- The rows of the query pipeline between two ticks: 4 us before the tick the list of changes closes, so that a write that
is acknowledged from then on governs the frame after the next; gate 2 admits a prepared query whose charges fit, with its
owner tiles due, and refuses it BUSY where they do not; a tile's contribution merges its local sets, and the last one ends
the scan; the re-rank gives a completion, or the answer of a shard, and FAULT where it meets poisoned data; an affected
query past DEFER_LIMIT_FRAMES completes FAULT; and a closed cost interval folds the measurements of the active Lot in. -/
def Obligations.PipelineRowsComplete : Prop :=
  ∀ s : State,
    let m := s.m
    let sfc := m.clock.sfc
    let posts := [Part.search, .sessions, .cnt, .inject, .out]
    let gone := fun (q : Query) => m.search.live.filter (fun x => x.id != q.id)
    (Completes .changeListClose s [.now, .clock, .links, .cnt, .out] (fun m' => m'.clock.closed = true
        ∧ m'.clock.now = max m.clock.now (m.clock.tickTime m.clock.next - 4000) ∧ (m.clock.ticked = true → m'.clock.firstFrame = sfc + 2)))
    ∧ (∀ q l, m.search.gate1 = true → m.search.gate2 = false → m.search.live = [q] → q.stage = 0 → q.depth ≤ 3 → q.start = sfc → q.q ≠ [] →
        m.lotOf q.lot = some l → q.deferred = false → q.role = 2 ∨ m.busyBefore q = false →
        let f := scanFrame q.start q.depth
        let y := m.openLedger f
        let cs := y.scanCharge l q.visit q.attrFrame f :: rerankCharges l q.params q.home q.start q.depth q.role q.port q.share
        ((y.tryCharge cs).isSome = true → Completes .gate2 s [.search, .lots, .cnt] (fun m' => m'.search.gate2 = true
            ∧ m'.search.live = [{ q with stage := if q.visit.isEmpty then 2 else 1, due := ownersOf l q.visit }]
            ∧ m'.ctr 0x1200 0x08 = (m.ctr 0x1200 0x08 + 1) % 2 ^ 64))
        ∧ (y.tryCharge cs = none → q.role ≠ 2 → Completes .gate2 s posts (fun m' => m'.search.gate2 = true ∧ m'.search.live = []
            ∧ (q.session, q.id) ∈ m'.search.busy ∧ Posted m m' q.session q.slot (bareCompletion 4 q.lot q.admSfc)
            ∧ m'.ctr 0x1200 0x09 = (m.ctr 0x1200 0x09 + 1) % 2 ^ 64)))
    ∧ (m.search.gate1 = false ∨ m.search.gate2 = true → (∀ q ∈ m.search.live, q.stage ≠ 0 ∨ q.q ≠ []) → Completes .gate2 s [] (fun m' => m' = m))
    ∧ (∀ (id : Nat) (tile : Fin 512) (q : Query) (l : LotData), m.query id = some q → m.lotOf q.lot = some l →
        let t := tile.val
        let due := q.stage = 1 ∧ scanFrame q.start q.depth = sfc ∧ t ∈ q.due ∧ (m.tileHealth t).state ≠ 1
        (¬ due → ∀ ms, Completes (.contribution id tile ms) s [] (fun m' => m' = m))
        ∧ (due → m.stagedPoison l q t = true → ∀ ms, Completes (.contribution id tile ms) s [.search, .cnt] (fun m' => m'.query id = some { q with stage := 4 }
            ∧ m'.ctr 0x4000 0x14 = (m.ctr 0x4000 0x14 + 1) % 2 ^ 64))
        ∧ (due → m.stagedPoison l q t = false → Completes (.contribution id tile []) s [.search, .cnt, .fresh] (fun m' =>
            let r := localSets m.lots.history l q t
            let rest := q.due.filter (fun u => u != t)
            m'.query id = some { q with base := mergeKeys q.params.c q.base r.1, wide := mergeKeys q.params.c q.wide r.2.1, due := rest
                                        stage := if rest.isEmpty then 2 else 1 }
              ∧ m'.fresh = m.fresh + 1 ∧ m'.ctr 0x30F0 0x06 = (m.ctr 0x30F0 0x06 + r.2.2) % 2 ^ 64)))
    ∧ (∀ (id : Nat) (q : Query) (l : LotData), m.query id = some q → m.lotOf q.lot = some l →
        let due := q.stage = 2 ∧ rerankFrame q.start q.depth = sfc
        let bad := ∃ x ∈ q.rerankSet.1, ∃ y ∈ rerankReads l.bytes (x % 2 ^ 35), m.lotPoisoned q.lot y.1 y.2 = true
        (¬ due → Completes (.rerank id) s [] (fun m' => m' = m))
        ∧ (due → q.role = 0 →
            (¬ bad → Completes (.rerank id) s posts (fun m' => m'.search = { m.search with live := gone q }
              ∧ Posted m m' q.session q.slot (q.result l.bytes m.device)))
            ∧ (bad → Completes (.rerank id) s posts (fun m' => m'.search = { m.search with live := gone q }
                ∧ Posted m m' q.session q.slot (bareCompletion 7 q.lot q.admSfc))))
        ∧ (due → q.role = 1 → ¬ bad → Completes (.rerank id) s [.search, .cnt] (fun m' => m'.query id = some { q with stage := 3 }
            ∧ ∃ a : Answer, m'.search.answers = m.search.answers ++ [a] ∧ a.entryTag = q.tag ∧ a.sfc = q.admSfc ∧ a.device = m.device
                ∧ a.header ++ a.recs = q.answer l.bytes m.device (answerStatus q (min q.params.k q.rerankSet.1.length))))
        ∧ (due → q.role = 2 → Completes (.rerank id) s [.search, .links, .cnt, .out] (fun m' => m'.search = { m.search with live := gone q })))
    ∧ (∀ l, l = m.search.live.filter (fun q => (q.stage == 4 || q.deferred) && decide (q.admSfc + m.cfg 0x1100 0x17 ≤ sfc)) →
        (l = [] → Completes .deferLimitExpiry s [] (fun m' => m' = m))
        ∧ ∀ q, l = [q] → q.role ≠ 2 → Completes .deferLimitExpiry s posts (fun m' => m'.search = { m.search with live := gone q }
            ∧ Posted m m' q.session q.slot (bareCompletion 7 q.lot q.admSfc) ∧ m'.ctr 0x30F0 0x05 = (m.ctr 0x30F0 0x05 + 1) % 2 ^ 64))
    ∧ (m.lots.active = none → Completes .costIntervalClose s [] (fun m' => m' = m))
    ∧ ∀ l, m.lots.active = some l →
        (sfc < l.interval + m.cfg 0x1200 0x05 → Completes .costIntervalClose s [] (fun m' => m' = m))
        ∧ (l.interval + m.cfg 0x1200 0x05 ≤ sfc → Completes .costIntervalClose s [.lots] (fun m' =>
            m'.lots.active = some { l.foldFigures with interval := l.interval + (sfc - l.interval) / m.cfg 0x1200 0x05 * m.cfg 0x1200 0x05 } ∧ m'.lots.words = m.lots.words))

/-! ## The tick (02), and rules of the whole machine -/

/-- TICK. A module that does not serve time is unchanged. Otherwise, where the module adopts no other grid at this tick and
no drain ends, the SFC moves to the next frame of the grid, module time to the instant of that tick, and the change list is
open again; the host's requests, the remote windows and what stands in NAND stay. Of the actions of KIND 0 whose tick has
come, the last acknowledged of an object governs it: its value is in force, whatever else the tick applies. Commands have a
row of their own in the schedule, and the injector objects apply in their own way: this clause is of the others. -/
def Obligations.TickCompletes : Prop :=
  ∀ (tests : List SelfTest) (s : State),
    let m := s.m
    let n := m.clock.next
    (m.mayTick = false → Completes (.tick tests) s [] (fun m' => m' = m))
    ∧ (m.mayTick = true → m.clock.adopt = none → m.clock.drainEnd = none → ∃ t, exec (.tick tests) s = .next t ∧ t.pending = s.pending
        ∧ t.m.clock.sfc = n ∧ t.m.clock.ticked = true ∧ t.m.clock.closed = false ∧ t.m.clock.now = max m.clock.now (m.clock.tickTime n)
        ∧ t.m.vilur.queue = m.vilur.queue ∧ t.m.ports.windows = m.ports.windows ∧ t.m.cistern.nand = m.cistern.nand
        ∧ ∀ (a : Action) (o : Obj), a ∈ m.schedule → a.kind = 0 → a.target = n → findObj (a.key / 2 ^ 24) (a.key / 2 ^ 16 % 256) = some o →
            o.access ≠ 3 → a.key / 2 ^ 24 ≠ 0x6100 →
            (∀ b ∈ m.schedule, b.kind = 0 → b.key = a.key → b.target ≤ n → b ≠ a → b.target < n ∨ b.seq < a.seq) →
            mGet t.m.od.cfg a.key = some a.value)

/-- R240. A counter has reached a target when their difference modulo 2^32 is below 2^31. A command is not issued while its
marker is unsatisfied: a row of the stream commands changes nothing on a tile none of whose running contexts has one that is
satisfied. A marker is satisfied when its counter has reached its count (or when there is no marker), by a change of the
counter and when the command before it completes; and a marker once satisfied stays so, whatever is set in the counter. -/
def Obligations.MarkersHoldCommands : Prop :=
  (∀ c target : Nat, evtReached c target = true ↔ ((c : Int) - target) % 2 ^ 32 < 2 ^ 31)
  ∧ (∀ (s : State) (tile : Fin 512) (n : Nat), (∀ k, (s.m.ctx tile.val k).state = 1 → (s.m.ctx tile.val k).depMet = false) →
      ∀ i ∈ [Instr.move tile n, .gather tile n, .scatterAcc tile n, .mma tile, .epi tile, .skscan tile, .wins tile, .wdrain tile,
        .argmax tile n, .reduce tile n, .pool tile, .signal tile n, .wait tile, .rearm tile, .halt tile],
        Completes i s [] (fun m' => m' = s.m))
  ∧ (∀ (s : State) (tile : Fin 512) (evt : Fin 64) (set : Bool) (v k w : Nat), 2 ≤ k → k ≤ 7 → (s.m.ctx tile.val k).state = 1 →
      s.m.nextCmd tile.val k = some w →
      Completes (.eventCounterChange tile evt set v) s [.tiles, .cnt] (fun m' =>
        (m'.ctx tile.val k).pc = (s.m.ctx tile.val k).pc ∧ (m'.ctx tile.val k).state = 1
          ∧ ((m'.ctx tile.val k).depMet = true ↔ (s.m.ctx tile.val k).depMet = true ∨ cmdDep w = false
              ∨ evtReached (mGetD (m'.tile tile.val).events (cmdDepEvt w) 0) (cmdDepCount w) = true)))
  ∧ (∀ (s : State) (tile : Fin 512) (k w v : Nat), [2, 3, 4, 5, 6, 7].find? (s.m.ctxReady tile.val) = some k →
      s.m.nextCmd tile.val k = some w → cmdOp w = 0x31 → w.testBit 64 = false → (s.m.streamSet (s.m.ctx tile.val k).setId).commonFault w = 0 →
      (s.m.ctx tile.val k).waitTick = none →
      Completes (.wait tile) s [.tiles, .streams] (fun m' => (m'.ctx tile.val k).pc = (s.m.ctx tile.val k).pc + 1
        ∧ (m'.nextCmd tile.val k = some v → ((m'.ctx tile.val k).depMet = true ↔ cmdDep v = false
            ∨ evtReached (mGetD (m'.tile tile.val).events (cmdDepEvt v) 0) (cmdDepCount v) = true))))

/-- R144, the running sets. A contribution that a query's home tile merges leaves in each tier the C smallest distinct keys
of what stood there and of what the tile found, and two tiles contribute in either order to the same end. -/
def Obligations.ContributionsCommute : Prop :=
  (∀ (c : Nat) (a b : List Nat), let g := mergeKeys c a b
    g.Pairwise (fun x y => x < y) ∧ g.length ≤ c
      ∧ ∀ x, x ∈ g ↔ (x ∈ a ∨ x ∈ b) ∧ ∀ l : List Nat, l.Nodup → (∀ y ∈ l, (y ∈ a ∨ y ∈ b) ∧ y < x) → l.length < c)
  ∧ ∀ (s : State) (id : Nat) (t u : Fin 512) (q : Query) (l : LotData), s.m.query id = some q → s.m.lotOf q.lot = some l → t ≠ u →
      q.stage = 1 → scanFrame q.start q.depth = s.m.clock.sfc →
      (∀ x ∈ [t.val, u.val], x ∈ q.due ∧ (s.m.tileHealth x).state ≠ 1 ∧ s.m.stagedPoison l q x = false) →
      ∃ a b c d, exec (.contribution id t []) s = .next a ∧ exec (.contribution id u []) a = .next b
        ∧ exec (.contribution id u []) s = .next c ∧ exec (.contribution id t []) c = .next d ∧ b.m.query id = d.m.query id
        ∧ ∃ q', b.m.query id = some q' ∧ q'.due = q.due.filter (fun x => x != t.val && x != u.val)
            ∧ q'.base = mergeKeys q.params.c q.base ((localSets s.m.lots.history l q t.val).1 ++ (localSets s.m.lots.history l q u.val).1)
            ∧ q'.wide = mergeKeys q.params.c q.wide ((localSets s.m.lots.history l q t.val).2.1 ++ (localSets s.m.lots.history l q u.val).2.1)

/-- R145. The re-rank set of a query, whose running sets are what merges leave: the base tier where widening is off or it
has k entries, and otherwise, widened, the C smallest distinct keys of both tiers; it has at most C entries, no key
twice, and no item twice, as the two records of a spilled item give one key. -/
def Obligations.RerankSetWidens : Prop :=
  ∀ (q : Query) (x y u v : List Nat), q.base = mergeKeys q.params.c x y → q.wide = mergeKeys q.params.c u v →
    let r := q.rerankSet
    (q.params.pw = 0 ∨ q.params.k ≤ q.base.length → r = (q.base, false))
    ∧ (q.params.pw ≠ 0 → q.base.length < q.params.k → r.2 = true
        ∧ (∀ k, k ∈ r.1 ↔ (k ∈ q.base ∨ k ∈ q.wide) ∧ ∀ l : List Nat, l.Nodup → (∀ j ∈ l, (j ∈ q.base ∨ j ∈ q.wide) ∧ j < k) → l.length < q.params.c))
    ∧ r.1.length ≤ q.params.c ∧ r.1.Nodup
    ∧ ((∀ j ∈ q.base ++ q.wide, ∀ k ∈ q.base ++ q.wide, j % 2 ^ 35 = k % 2 ^ 35 → j = k) → (r.1.map (fun k => k % 2 ^ 35)).Nodup)

/-- The addressed memories keep their one canonical form (addresses rise, no byte of 0 is listed) over every step of every
command: LPDDR5X, the Cistern's NAND, and the slice and the Vat file of each tile. -/
def Obligations.MemoryStaysCanonical : Prop :=
  ∀ s t : State, s.m.memoryCanonical = true → step s = .next t → t.m.memoryCanonical = true

/-- After reset the queue is empty and every memory has its canonical form. -/
def Obligations.ResetMemoryIsCanonical : Prop := State.reset.pending = [] ∧ State.reset.m.memoryCanonical = true
end

