-- ==== Sys2Proof/Laws/Cells.lean ====
section
/-! SUPPORT. Lengths and values of byte strings, and the CRC of a cell: mkCell writes a CRC that holds. -/

namespace Sys2Proof.Laws

open Sys2Proof.Machine

@[simp] theorem toLe_length (n v : Nat) : (toLe n v).length = n := by
  induction n generalizing v with
  | zero => rfl
  | succ n ih => simp [toLe, ih]

@[simp] theorem leNat_toLe (n v : Nat) : leNat (toLe n v) = v % 256 ^ n := by
  induction n generalizing v with
  | zero => simp [toLe, leNat, Nat.mod_one]
  | succ n ih =>
    simp only [toLe, leNat, ih, BitVec.toNat_ofNat]
    exact (Nat.pow_succ' ▸ Nat.mod_mul).symm

@[simp] theorem sub_length (bs : Bytes) (o n : Nat) : (sub bs o n).length = n := by
  simp only [sub, zeros, List.length_append, List.length_replicate, List.length_take, List.length_drop]
  omega

@[simp] theorem fit_length (bs : Bytes) (n : Nat) : (fit bs n).length = n := sub_length bs 0 n

theorem nxor_lt {n a b : Nat} (ha : a < 2 ^ n) (hb : b < 2 ^ n) : nxor a b < 2 ^ n := Nat.xor_lt_two_pow ha hb

theorem crcReflSteps_lt {poly : Nat} (h : poly < 2 ^ 32) (k : Nat) {c : Nat} (hc : c < 2 ^ 32) : crcReflSteps poly k c < 2 ^ 32 := by
  induction k generalizing c with
  | zero => exact hc
  | succ k ih =>
    apply ih
    split
    · exact nxor_lt (by omega) h
    · omega

theorem crc32c_lt (bs : Bytes) : crc32c bs < 2 ^ 32 := by
  apply nxor_lt _ (by decide)
  have : ∀ c, c < 2 ^ 32 → bs.foldl (fun c b => crcReflSteps 0x82F63B78 8 (nxor c b.toNat)) c < 2 ^ 32 := by
    induction bs with
    | nil => exact fun c h => h
    | cons b r ih => exact fun c h => ih _ (crcReflSteps_lt (by decide) 8 (nxor_lt h (by have := b.isLt; omega)))
  exact this _ (by decide)

/-- The CRC check of 268 bytes and a CRC field. -/
theorem cellCrcOk_append (b : Bytes) (h : b.length = 268) (x : Nat) : cellCrcOk (b ++ toLe 4 x) = (x % 2 ^ 32 == crc32c b) := by
  simp only [cellCrcOk, leAt, List.length_append, toLe_length, h, List.drop_append_of_le_length (Nat.le_of_eq h.symm),
    List.take_append_of_le_length (Nat.le_of_eq h.symm)]
  rw [List.drop_of_length_le (Nat.le_of_eq h), List.take_of_length_le (Nat.le_of_eq h), List.nil_append, List.take_of_length_le (by simp), leNat_toLe]
  rfl

/-- What a CRC field one too high says. -/
theorem cellCrcOk_wrong (b : Bytes) (h : b.length = 268) : cellCrcOk (b ++ toLe 4 (crc32c b + 1)) = false := by
  rw [cellCrcOk_append b h]
  have := crc32c_lt b
  simp only [beq_eq_false_iff_ne]
  omega

@[simp] theorem mkCell_length (dst src typ seq ack arg : Nat) (pay : Bytes) : (mkCell dst src typ seq ack arg pay).length = 272 := by
  simp [mkCell]

/-- The CRC of a cell that this module makes holds. -/
@[simp] theorem cellCrcOk_mkCell (dst src typ seq ack arg : Nat) (pay : Bytes) : cellCrcOk (mkCell dst src typ seq ack arg pay) = true := by
  unfold mkCell
  rw [cellCrcOk_append _ (by simp)]
  exact beq_iff_eq.mpr (Nat.mod_eq_of_lt (crc32c_lt _))

end Sys2Proof.Laws
end

