-- ==== Sys2Proof/Laws/State.lean ====
section
/-! SUPPORT. What each named update of the module leaves alone: one lemma per group of state per update. -/

namespace Sys2Proof.Machine

/-! ### Module.at: a command arrives -/

@[simp] theorem Module.at_schedule (m : Module) (t : Nat) : (m.at t).schedule = m.schedule := rfl
@[simp] theorem Module.at_nextSeq (m : Module) (t : Nat) : (m.at t).nextSeq = m.nextSeq := rfl
@[simp] theorem Module.at_od (m : Module) (t : Nat) : (m.at t).od = m.od := rfl
@[simp] theorem Module.at_vilur (m : Module) (t : Nat) : (m.at t).vilur = m.vilur := rfl
@[simp] theorem Module.at_ports (m : Module) (t : Nat) : (m.at t).ports = m.ports := rfl
@[simp] theorem Module.at_search (m : Module) (t : Nat) : (m.at t).search = m.search := rfl
@[simp] theorem Module.at_lots (m : Module) (t : Nat) : (m.at t).lots = m.lots := rfl
@[simp] theorem Module.at_tiles (m : Module) (t : Nat) : (m.at t).tiles = m.tiles := rfl
@[simp] theorem Module.at_streams (m : Module) (t : Nat) : (m.at t).streams = m.streams := rfl
@[simp] theorem Module.at_tables (m : Module) (t : Nat) : (m.at t).tables = m.tables := rfl
@[simp] theorem Module.at_jobs (m : Module) (t : Nat) : (m.at t).jobs = m.jobs := rfl
@[simp] theorem Module.at_mem (m : Module) (t : Nat) : (m.at t).mem = m.mem := rfl
@[simp] theorem Module.at_cascade (m : Module) (t : Nat) : (m.at t).cascade = m.cascade := rfl
@[simp] theorem Module.at_cistern (m : Module) (t : Nat) : (m.at t).cistern = m.cistern := rfl
@[simp] theorem Module.at_holdup (m : Module) (t : Nat) : (m.at t).holdup = m.holdup := rfl
@[simp] theorem Module.at_boot (m : Module) (t : Nat) : (m.at t).boot = m.boot := rfl
@[simp] theorem Module.at_health (m : Module) (t : Nat) : (m.at t).health = m.health := rfl
@[simp] theorem Module.at_power (m : Module) (t : Nat) : (m.at t).power = m.power := rfl
@[simp] theorem Module.at_out (m : Module) (t : Nat) : (m.at t).out = m.out := rfl
@[simp] theorem Module.at_fresh (m : Module) (t : Nat) : (m.at t).fresh = m.fresh := rfl

/-! ### Module.setCfg: a value in force -/

@[simp] theorem Module.setCfg_clock (m : Module) (i s n : Nat) (v : Bytes) : (m.setCfg i s n v).clock = m.clock := rfl
@[simp] theorem Module.setCfg_schedule (m : Module) (i s n : Nat) (v : Bytes) : (m.setCfg i s n v).schedule = m.schedule := rfl
@[simp] theorem Module.setCfg_nextSeq (m : Module) (i s n : Nat) (v : Bytes) : (m.setCfg i s n v).nextSeq = m.nextSeq := rfl
@[simp] theorem Module.setCfg_vilur (m : Module) (i s n : Nat) (v : Bytes) : (m.setCfg i s n v).vilur = m.vilur := rfl
@[simp] theorem Module.setCfg_ports (m : Module) (i s n : Nat) (v : Bytes) : (m.setCfg i s n v).ports = m.ports := rfl
@[simp] theorem Module.setCfg_search (m : Module) (i s n : Nat) (v : Bytes) : (m.setCfg i s n v).search = m.search := rfl
@[simp] theorem Module.setCfg_lots (m : Module) (i s n : Nat) (v : Bytes) : (m.setCfg i s n v).lots = m.lots := rfl
@[simp] theorem Module.setCfg_tiles (m : Module) (i s n : Nat) (v : Bytes) : (m.setCfg i s n v).tiles = m.tiles := rfl
@[simp] theorem Module.setCfg_streams (m : Module) (i s n : Nat) (v : Bytes) : (m.setCfg i s n v).streams = m.streams := rfl
@[simp] theorem Module.setCfg_tables (m : Module) (i s n : Nat) (v : Bytes) : (m.setCfg i s n v).tables = m.tables := rfl
@[simp] theorem Module.setCfg_jobs (m : Module) (i s n : Nat) (v : Bytes) : (m.setCfg i s n v).jobs = m.jobs := rfl
@[simp] theorem Module.setCfg_mem (m : Module) (i s n : Nat) (v : Bytes) : (m.setCfg i s n v).mem = m.mem := rfl
@[simp] theorem Module.setCfg_cascade (m : Module) (i s n : Nat) (v : Bytes) : (m.setCfg i s n v).cascade = m.cascade := rfl
@[simp] theorem Module.setCfg_cistern (m : Module) (i s n : Nat) (v : Bytes) : (m.setCfg i s n v).cistern = m.cistern := rfl
@[simp] theorem Module.setCfg_holdup (m : Module) (i s n : Nat) (v : Bytes) : (m.setCfg i s n v).holdup = m.holdup := rfl
@[simp] theorem Module.setCfg_boot (m : Module) (i s n : Nat) (v : Bytes) : (m.setCfg i s n v).boot = m.boot := rfl
@[simp] theorem Module.setCfg_health (m : Module) (i s n : Nat) (v : Bytes) : (m.setCfg i s n v).health = m.health := rfl
@[simp] theorem Module.setCfg_power (m : Module) (i s n : Nat) (v : Bytes) : (m.setCfg i s n v).power = m.power := rfl
@[simp] theorem Module.setCfg_out (m : Module) (i s n : Nat) (v : Bytes) : (m.setCfg i s n v).out = m.out := rfl
@[simp] theorem Module.setCfg_fresh (m : Module) (i s n : Nat) (v : Bytes) : (m.setCfg i s n v).fresh = m.fresh := rfl

/-! ### Module.persist: a durable value -/

@[simp] theorem Module.persist_clock (m : Module) (i s n : Nat) (v : Bytes) : (m.persist i s n v).clock = m.clock := rfl
@[simp] theorem Module.persist_schedule (m : Module) (i s n : Nat) (v : Bytes) : (m.persist i s n v).schedule = m.schedule := rfl
@[simp] theorem Module.persist_nextSeq (m : Module) (i s n : Nat) (v : Bytes) : (m.persist i s n v).nextSeq = m.nextSeq := rfl
@[simp] theorem Module.persist_vilur (m : Module) (i s n : Nat) (v : Bytes) : (m.persist i s n v).vilur = m.vilur := rfl
@[simp] theorem Module.persist_ports (m : Module) (i s n : Nat) (v : Bytes) : (m.persist i s n v).ports = m.ports := rfl
@[simp] theorem Module.persist_search (m : Module) (i s n : Nat) (v : Bytes) : (m.persist i s n v).search = m.search := rfl
@[simp] theorem Module.persist_lots (m : Module) (i s n : Nat) (v : Bytes) : (m.persist i s n v).lots = m.lots := rfl
@[simp] theorem Module.persist_tiles (m : Module) (i s n : Nat) (v : Bytes) : (m.persist i s n v).tiles = m.tiles := rfl
@[simp] theorem Module.persist_streams (m : Module) (i s n : Nat) (v : Bytes) : (m.persist i s n v).streams = m.streams := rfl
@[simp] theorem Module.persist_tables (m : Module) (i s n : Nat) (v : Bytes) : (m.persist i s n v).tables = m.tables := rfl
@[simp] theorem Module.persist_jobs (m : Module) (i s n : Nat) (v : Bytes) : (m.persist i s n v).jobs = m.jobs := rfl
@[simp] theorem Module.persist_mem (m : Module) (i s n : Nat) (v : Bytes) : (m.persist i s n v).mem = m.mem := rfl
@[simp] theorem Module.persist_cascade (m : Module) (i s n : Nat) (v : Bytes) : (m.persist i s n v).cascade = m.cascade := rfl
@[simp] theorem Module.persist_cistern (m : Module) (i s n : Nat) (v : Bytes) : (m.persist i s n v).cistern = m.cistern := rfl
@[simp] theorem Module.persist_holdup (m : Module) (i s n : Nat) (v : Bytes) : (m.persist i s n v).holdup = m.holdup := rfl
@[simp] theorem Module.persist_boot (m : Module) (i s n : Nat) (v : Bytes) : (m.persist i s n v).boot = m.boot := rfl
@[simp] theorem Module.persist_health (m : Module) (i s n : Nat) (v : Bytes) : (m.persist i s n v).health = m.health := rfl
@[simp] theorem Module.persist_power (m : Module) (i s n : Nat) (v : Bytes) : (m.persist i s n v).power = m.power := rfl
@[simp] theorem Module.persist_out (m : Module) (i s n : Nat) (v : Bytes) : (m.persist i s n v).out = m.out := rfl
@[simp] theorem Module.persist_fresh (m : Module) (i s n : Nat) (v : Bytes) : (m.persist i s n v).fresh = m.fresh := rfl

/-! ### Module.countI: a counter of an instance -/

@[simp] theorem Module.countI_clock (m : Module) (i s n k : Nat) : (m.countI i s n k).clock = m.clock := rfl
@[simp] theorem Module.countI_schedule (m : Module) (i s n k : Nat) : (m.countI i s n k).schedule = m.schedule := rfl
@[simp] theorem Module.countI_nextSeq (m : Module) (i s n k : Nat) : (m.countI i s n k).nextSeq = m.nextSeq := rfl
@[simp] theorem Module.countI_vilur (m : Module) (i s n k : Nat) : (m.countI i s n k).vilur = m.vilur := rfl
@[simp] theorem Module.countI_ports (m : Module) (i s n k : Nat) : (m.countI i s n k).ports = m.ports := rfl
@[simp] theorem Module.countI_search (m : Module) (i s n k : Nat) : (m.countI i s n k).search = m.search := rfl
@[simp] theorem Module.countI_lots (m : Module) (i s n k : Nat) : (m.countI i s n k).lots = m.lots := rfl
@[simp] theorem Module.countI_tiles (m : Module) (i s n k : Nat) : (m.countI i s n k).tiles = m.tiles := rfl
@[simp] theorem Module.countI_streams (m : Module) (i s n k : Nat) : (m.countI i s n k).streams = m.streams := rfl
@[simp] theorem Module.countI_tables (m : Module) (i s n k : Nat) : (m.countI i s n k).tables = m.tables := rfl
@[simp] theorem Module.countI_jobs (m : Module) (i s n k : Nat) : (m.countI i s n k).jobs = m.jobs := rfl
@[simp] theorem Module.countI_mem (m : Module) (i s n k : Nat) : (m.countI i s n k).mem = m.mem := rfl
@[simp] theorem Module.countI_cascade (m : Module) (i s n k : Nat) : (m.countI i s n k).cascade = m.cascade := rfl
@[simp] theorem Module.countI_cistern (m : Module) (i s n k : Nat) : (m.countI i s n k).cistern = m.cistern := rfl
@[simp] theorem Module.countI_holdup (m : Module) (i s n k : Nat) : (m.countI i s n k).holdup = m.holdup := rfl
@[simp] theorem Module.countI_boot (m : Module) (i s n k : Nat) : (m.countI i s n k).boot = m.boot := rfl
@[simp] theorem Module.countI_health (m : Module) (i s n k : Nat) : (m.countI i s n k).health = m.health := rfl
@[simp] theorem Module.countI_power (m : Module) (i s n k : Nat) : (m.countI i s n k).power = m.power := rfl
@[simp] theorem Module.countI_out (m : Module) (i s n k : Nat) : (m.countI i s n k).out = m.out := rfl
@[simp] theorem Module.countI_fresh (m : Module) (i s n k : Nat) : (m.countI i s n k).fresh = m.fresh := rfl

/-! ### Module.count: a counter -/

@[simp] theorem Module.count_clock (m : Module) (i s k : Nat) : (m.count i s k).clock = m.clock := rfl
@[simp] theorem Module.count_schedule (m : Module) (i s k : Nat) : (m.count i s k).schedule = m.schedule := rfl
@[simp] theorem Module.count_nextSeq (m : Module) (i s k : Nat) : (m.count i s k).nextSeq = m.nextSeq := rfl
@[simp] theorem Module.count_vilur (m : Module) (i s k : Nat) : (m.count i s k).vilur = m.vilur := rfl
@[simp] theorem Module.count_ports (m : Module) (i s k : Nat) : (m.count i s k).ports = m.ports := rfl
@[simp] theorem Module.count_search (m : Module) (i s k : Nat) : (m.count i s k).search = m.search := rfl
@[simp] theorem Module.count_lots (m : Module) (i s k : Nat) : (m.count i s k).lots = m.lots := rfl
@[simp] theorem Module.count_tiles (m : Module) (i s k : Nat) : (m.count i s k).tiles = m.tiles := rfl
@[simp] theorem Module.count_streams (m : Module) (i s k : Nat) : (m.count i s k).streams = m.streams := rfl
@[simp] theorem Module.count_tables (m : Module) (i s k : Nat) : (m.count i s k).tables = m.tables := rfl
@[simp] theorem Module.count_jobs (m : Module) (i s k : Nat) : (m.count i s k).jobs = m.jobs := rfl
@[simp] theorem Module.count_mem (m : Module) (i s k : Nat) : (m.count i s k).mem = m.mem := rfl
@[simp] theorem Module.count_cascade (m : Module) (i s k : Nat) : (m.count i s k).cascade = m.cascade := rfl
@[simp] theorem Module.count_cistern (m : Module) (i s k : Nat) : (m.count i s k).cistern = m.cistern := rfl
@[simp] theorem Module.count_holdup (m : Module) (i s k : Nat) : (m.count i s k).holdup = m.holdup := rfl
@[simp] theorem Module.count_boot (m : Module) (i s k : Nat) : (m.count i s k).boot = m.boot := rfl
@[simp] theorem Module.count_health (m : Module) (i s k : Nat) : (m.count i s k).health = m.health := rfl
@[simp] theorem Module.count_power (m : Module) (i s k : Nat) : (m.count i s k).power = m.power := rfl
@[simp] theorem Module.count_out (m : Module) (i s k : Nat) : (m.count i s k).out = m.out := rfl
@[simp] theorem Module.count_fresh (m : Module) (i s k : Nat) : (m.count i s k).fresh = m.fresh := rfl

/-! ### Module.ctrMax: a high-water mark -/

@[simp] theorem Module.ctrMax_clock (m : Module) (i s k : Nat) : (m.ctrMax i s k).clock = m.clock := rfl
@[simp] theorem Module.ctrMax_schedule (m : Module) (i s k : Nat) : (m.ctrMax i s k).schedule = m.schedule := rfl
@[simp] theorem Module.ctrMax_nextSeq (m : Module) (i s k : Nat) : (m.ctrMax i s k).nextSeq = m.nextSeq := rfl
@[simp] theorem Module.ctrMax_vilur (m : Module) (i s k : Nat) : (m.ctrMax i s k).vilur = m.vilur := rfl
@[simp] theorem Module.ctrMax_ports (m : Module) (i s k : Nat) : (m.ctrMax i s k).ports = m.ports := rfl
@[simp] theorem Module.ctrMax_search (m : Module) (i s k : Nat) : (m.ctrMax i s k).search = m.search := rfl
@[simp] theorem Module.ctrMax_lots (m : Module) (i s k : Nat) : (m.ctrMax i s k).lots = m.lots := rfl
@[simp] theorem Module.ctrMax_tiles (m : Module) (i s k : Nat) : (m.ctrMax i s k).tiles = m.tiles := rfl
@[simp] theorem Module.ctrMax_streams (m : Module) (i s k : Nat) : (m.ctrMax i s k).streams = m.streams := rfl
@[simp] theorem Module.ctrMax_tables (m : Module) (i s k : Nat) : (m.ctrMax i s k).tables = m.tables := rfl
@[simp] theorem Module.ctrMax_jobs (m : Module) (i s k : Nat) : (m.ctrMax i s k).jobs = m.jobs := rfl
@[simp] theorem Module.ctrMax_mem (m : Module) (i s k : Nat) : (m.ctrMax i s k).mem = m.mem := rfl
@[simp] theorem Module.ctrMax_cascade (m : Module) (i s k : Nat) : (m.ctrMax i s k).cascade = m.cascade := rfl
@[simp] theorem Module.ctrMax_cistern (m : Module) (i s k : Nat) : (m.ctrMax i s k).cistern = m.cistern := rfl
@[simp] theorem Module.ctrMax_holdup (m : Module) (i s k : Nat) : (m.ctrMax i s k).holdup = m.holdup := rfl
@[simp] theorem Module.ctrMax_boot (m : Module) (i s k : Nat) : (m.ctrMax i s k).boot = m.boot := rfl
@[simp] theorem Module.ctrMax_health (m : Module) (i s k : Nat) : (m.ctrMax i s k).health = m.health := rfl
@[simp] theorem Module.ctrMax_power (m : Module) (i s k : Nat) : (m.ctrMax i s k).power = m.power := rfl
@[simp] theorem Module.ctrMax_out (m : Module) (i s k : Nat) : (m.ctrMax i s k).out = m.out := rfl
@[simp] theorem Module.ctrMax_fresh (m : Module) (i s k : Nat) : (m.ctrMax i s k).fresh = m.fresh := rfl

/-! ### Module.drawn: a free value is drawn -/

@[simp] theorem Module.drawn_clock (m : Module) : (m.drawn).clock = m.clock := rfl
@[simp] theorem Module.drawn_schedule (m : Module) : (m.drawn).schedule = m.schedule := rfl
@[simp] theorem Module.drawn_nextSeq (m : Module) : (m.drawn).nextSeq = m.nextSeq := rfl
@[simp] theorem Module.drawn_od (m : Module) : (m.drawn).od = m.od := rfl
@[simp] theorem Module.drawn_vilur (m : Module) : (m.drawn).vilur = m.vilur := rfl
@[simp] theorem Module.drawn_ports (m : Module) : (m.drawn).ports = m.ports := rfl
@[simp] theorem Module.drawn_search (m : Module) : (m.drawn).search = m.search := rfl
@[simp] theorem Module.drawn_lots (m : Module) : (m.drawn).lots = m.lots := rfl
@[simp] theorem Module.drawn_tiles (m : Module) : (m.drawn).tiles = m.tiles := rfl
@[simp] theorem Module.drawn_streams (m : Module) : (m.drawn).streams = m.streams := rfl
@[simp] theorem Module.drawn_tables (m : Module) : (m.drawn).tables = m.tables := rfl
@[simp] theorem Module.drawn_jobs (m : Module) : (m.drawn).jobs = m.jobs := rfl
@[simp] theorem Module.drawn_mem (m : Module) : (m.drawn).mem = m.mem := rfl
@[simp] theorem Module.drawn_cascade (m : Module) : (m.drawn).cascade = m.cascade := rfl
@[simp] theorem Module.drawn_cistern (m : Module) : (m.drawn).cistern = m.cistern := rfl
@[simp] theorem Module.drawn_holdup (m : Module) : (m.drawn).holdup = m.holdup := rfl
@[simp] theorem Module.drawn_boot (m : Module) : (m.drawn).boot = m.boot := rfl
@[simp] theorem Module.drawn_health (m : Module) : (m.drawn).health = m.health := rfl
@[simp] theorem Module.drawn_power (m : Module) : (m.drawn).power = m.power := rfl
@[simp] theorem Module.drawn_out (m : Module) : (m.drawn).out = m.out := rfl

/-! ### Module.send: a message leaves -/

@[simp] theorem Module.send_clock (m : Module) (o : Out) : (m.send o).clock = m.clock := rfl
@[simp] theorem Module.send_schedule (m : Module) (o : Out) : (m.send o).schedule = m.schedule := rfl
@[simp] theorem Module.send_nextSeq (m : Module) (o : Out) : (m.send o).nextSeq = m.nextSeq := rfl
@[simp] theorem Module.send_od (m : Module) (o : Out) : (m.send o).od = m.od := rfl
@[simp] theorem Module.send_vilur (m : Module) (o : Out) : (m.send o).vilur = m.vilur := rfl
@[simp] theorem Module.send_ports (m : Module) (o : Out) : (m.send o).ports = m.ports := rfl
@[simp] theorem Module.send_search (m : Module) (o : Out) : (m.send o).search = m.search := rfl
@[simp] theorem Module.send_lots (m : Module) (o : Out) : (m.send o).lots = m.lots := rfl
@[simp] theorem Module.send_tiles (m : Module) (o : Out) : (m.send o).tiles = m.tiles := rfl
@[simp] theorem Module.send_streams (m : Module) (o : Out) : (m.send o).streams = m.streams := rfl
@[simp] theorem Module.send_tables (m : Module) (o : Out) : (m.send o).tables = m.tables := rfl
@[simp] theorem Module.send_jobs (m : Module) (o : Out) : (m.send o).jobs = m.jobs := rfl
@[simp] theorem Module.send_mem (m : Module) (o : Out) : (m.send o).mem = m.mem := rfl
@[simp] theorem Module.send_cascade (m : Module) (o : Out) : (m.send o).cascade = m.cascade := rfl
@[simp] theorem Module.send_cistern (m : Module) (o : Out) : (m.send o).cistern = m.cistern := rfl
@[simp] theorem Module.send_holdup (m : Module) (o : Out) : (m.send o).holdup = m.holdup := rfl
@[simp] theorem Module.send_boot (m : Module) (o : Out) : (m.send o).boot = m.boot := rfl
@[simp] theorem Module.send_health (m : Module) (o : Out) : (m.send o).health = m.health := rfl
@[simp] theorem Module.send_power (m : Module) (o : Out) : (m.send o).power = m.power := rfl
@[simp] theorem Module.send_fresh (m : Module) (o : Out) : (m.send o).fresh = m.fresh := rfl

/-! ### Module.sendAll: messages leave -/

@[simp] theorem Module.sendAll_clock (m : Module) (o : List Out) : (m.sendAll o).clock = m.clock := rfl
@[simp] theorem Module.sendAll_schedule (m : Module) (o : List Out) : (m.sendAll o).schedule = m.schedule := rfl
@[simp] theorem Module.sendAll_nextSeq (m : Module) (o : List Out) : (m.sendAll o).nextSeq = m.nextSeq := rfl
@[simp] theorem Module.sendAll_od (m : Module) (o : List Out) : (m.sendAll o).od = m.od := rfl
@[simp] theorem Module.sendAll_vilur (m : Module) (o : List Out) : (m.sendAll o).vilur = m.vilur := rfl
@[simp] theorem Module.sendAll_ports (m : Module) (o : List Out) : (m.sendAll o).ports = m.ports := rfl
@[simp] theorem Module.sendAll_search (m : Module) (o : List Out) : (m.sendAll o).search = m.search := rfl
@[simp] theorem Module.sendAll_lots (m : Module) (o : List Out) : (m.sendAll o).lots = m.lots := rfl
@[simp] theorem Module.sendAll_tiles (m : Module) (o : List Out) : (m.sendAll o).tiles = m.tiles := rfl
@[simp] theorem Module.sendAll_streams (m : Module) (o : List Out) : (m.sendAll o).streams = m.streams := rfl
@[simp] theorem Module.sendAll_tables (m : Module) (o : List Out) : (m.sendAll o).tables = m.tables := rfl
@[simp] theorem Module.sendAll_jobs (m : Module) (o : List Out) : (m.sendAll o).jobs = m.jobs := rfl
@[simp] theorem Module.sendAll_mem (m : Module) (o : List Out) : (m.sendAll o).mem = m.mem := rfl
@[simp] theorem Module.sendAll_cascade (m : Module) (o : List Out) : (m.sendAll o).cascade = m.cascade := rfl
@[simp] theorem Module.sendAll_cistern (m : Module) (o : List Out) : (m.sendAll o).cistern = m.cistern := rfl
@[simp] theorem Module.sendAll_holdup (m : Module) (o : List Out) : (m.sendAll o).holdup = m.holdup := rfl
@[simp] theorem Module.sendAll_boot (m : Module) (o : List Out) : (m.sendAll o).boot = m.boot := rfl
@[simp] theorem Module.sendAll_health (m : Module) (o : List Out) : (m.sendAll o).health = m.health := rfl
@[simp] theorem Module.sendAll_power (m : Module) (o : List Out) : (m.sendAll o).power = m.power := rfl
@[simp] theorem Module.sendAll_fresh (m : Module) (o : List Out) : (m.sendAll o).fresh = m.fresh := rfl

/-! ### Module.event: an event -/

@[simp] theorem Module.event_clock (m : Module) (a b c : Nat) : (m.event a b c).clock = m.clock := rfl
@[simp] theorem Module.event_schedule (m : Module) (a b c : Nat) : (m.event a b c).schedule = m.schedule := rfl
@[simp] theorem Module.event_nextSeq (m : Module) (a b c : Nat) : (m.event a b c).nextSeq = m.nextSeq := rfl
@[simp] theorem Module.event_od (m : Module) (a b c : Nat) : (m.event a b c).od = m.od := rfl
@[simp] theorem Module.event_ports (m : Module) (a b c : Nat) : (m.event a b c).ports = m.ports := rfl
@[simp] theorem Module.event_search (m : Module) (a b c : Nat) : (m.event a b c).search = m.search := rfl
@[simp] theorem Module.event_lots (m : Module) (a b c : Nat) : (m.event a b c).lots = m.lots := rfl
@[simp] theorem Module.event_tiles (m : Module) (a b c : Nat) : (m.event a b c).tiles = m.tiles := rfl
@[simp] theorem Module.event_streams (m : Module) (a b c : Nat) : (m.event a b c).streams = m.streams := rfl
@[simp] theorem Module.event_tables (m : Module) (a b c : Nat) : (m.event a b c).tables = m.tables := rfl
@[simp] theorem Module.event_jobs (m : Module) (a b c : Nat) : (m.event a b c).jobs = m.jobs := rfl
@[simp] theorem Module.event_mem (m : Module) (a b c : Nat) : (m.event a b c).mem = m.mem := rfl
@[simp] theorem Module.event_cascade (m : Module) (a b c : Nat) : (m.event a b c).cascade = m.cascade := rfl
@[simp] theorem Module.event_cistern (m : Module) (a b c : Nat) : (m.event a b c).cistern = m.cistern := rfl
@[simp] theorem Module.event_holdup (m : Module) (a b c : Nat) : (m.event a b c).holdup = m.holdup := rfl
@[simp] theorem Module.event_boot (m : Module) (a b c : Nat) : (m.event a b c).boot = m.boot := rfl
@[simp] theorem Module.event_power (m : Module) (a b c : Nat) : (m.event a b c).power = m.power := rfl
@[simp] theorem Module.event_out (m : Module) (a b c : Nat) : (m.event a b c).out = m.out := rfl
@[simp] theorem Module.event_fresh (m : Module) (a b c : Nat) : (m.event a b c).fresh = m.fresh := rfl

/-! ### Module.place: an action is placed -/

@[simp] theorem Module.place_clock (m : Module) (a : Action) : (m.place a).clock = m.clock := rfl
@[simp] theorem Module.place_od (m : Module) (a : Action) : (m.place a).od = m.od := rfl
@[simp] theorem Module.place_vilur (m : Module) (a : Action) : (m.place a).vilur = m.vilur := rfl
@[simp] theorem Module.place_ports (m : Module) (a : Action) : (m.place a).ports = m.ports := rfl
@[simp] theorem Module.place_search (m : Module) (a : Action) : (m.place a).search = m.search := rfl
@[simp] theorem Module.place_lots (m : Module) (a : Action) : (m.place a).lots = m.lots := rfl
@[simp] theorem Module.place_tiles (m : Module) (a : Action) : (m.place a).tiles = m.tiles := rfl
@[simp] theorem Module.place_streams (m : Module) (a : Action) : (m.place a).streams = m.streams := rfl
@[simp] theorem Module.place_tables (m : Module) (a : Action) : (m.place a).tables = m.tables := rfl
@[simp] theorem Module.place_jobs (m : Module) (a : Action) : (m.place a).jobs = m.jobs := rfl
@[simp] theorem Module.place_mem (m : Module) (a : Action) : (m.place a).mem = m.mem := rfl
@[simp] theorem Module.place_cascade (m : Module) (a : Action) : (m.place a).cascade = m.cascade := rfl
@[simp] theorem Module.place_cistern (m : Module) (a : Action) : (m.place a).cistern = m.cistern := rfl
@[simp] theorem Module.place_holdup (m : Module) (a : Action) : (m.place a).holdup = m.holdup := rfl
@[simp] theorem Module.place_boot (m : Module) (a : Action) : (m.place a).boot = m.boot := rfl
@[simp] theorem Module.place_health (m : Module) (a : Action) : (m.place a).health = m.health := rfl
@[simp] theorem Module.place_power (m : Module) (a : Action) : (m.place a).power = m.power := rfl
@[simp] theorem Module.place_out (m : Module) (a : Action) : (m.place a).out = m.out := rfl
@[simp] theorem Module.place_fresh (m : Module) (a : Action) : (m.place a).fresh = m.fresh := rfl

/-! ### Module.unplace: actions are taken out -/

@[simp] theorem Module.unplace_clock (m : Module) (p : Action → Bool) : (m.unplace p).clock = m.clock := rfl
@[simp] theorem Module.unplace_nextSeq (m : Module) (p : Action → Bool) : (m.unplace p).nextSeq = m.nextSeq := rfl
@[simp] theorem Module.unplace_od (m : Module) (p : Action → Bool) : (m.unplace p).od = m.od := rfl
@[simp] theorem Module.unplace_vilur (m : Module) (p : Action → Bool) : (m.unplace p).vilur = m.vilur := rfl
@[simp] theorem Module.unplace_ports (m : Module) (p : Action → Bool) : (m.unplace p).ports = m.ports := rfl
@[simp] theorem Module.unplace_search (m : Module) (p : Action → Bool) : (m.unplace p).search = m.search := rfl
@[simp] theorem Module.unplace_lots (m : Module) (p : Action → Bool) : (m.unplace p).lots = m.lots := rfl
@[simp] theorem Module.unplace_tiles (m : Module) (p : Action → Bool) : (m.unplace p).tiles = m.tiles := rfl
@[simp] theorem Module.unplace_streams (m : Module) (p : Action → Bool) : (m.unplace p).streams = m.streams := rfl
@[simp] theorem Module.unplace_tables (m : Module) (p : Action → Bool) : (m.unplace p).tables = m.tables := rfl
@[simp] theorem Module.unplace_jobs (m : Module) (p : Action → Bool) : (m.unplace p).jobs = m.jobs := rfl
@[simp] theorem Module.unplace_mem (m : Module) (p : Action → Bool) : (m.unplace p).mem = m.mem := rfl
@[simp] theorem Module.unplace_cascade (m : Module) (p : Action → Bool) : (m.unplace p).cascade = m.cascade := rfl
@[simp] theorem Module.unplace_cistern (m : Module) (p : Action → Bool) : (m.unplace p).cistern = m.cistern := rfl
@[simp] theorem Module.unplace_holdup (m : Module) (p : Action → Bool) : (m.unplace p).holdup = m.holdup := rfl
@[simp] theorem Module.unplace_boot (m : Module) (p : Action → Bool) : (m.unplace p).boot = m.boot := rfl
@[simp] theorem Module.unplace_health (m : Module) (p : Action → Bool) : (m.unplace p).health = m.health := rfl
@[simp] theorem Module.unplace_power (m : Module) (p : Action → Bool) : (m.unplace p).power = m.power := rfl
@[simp] theorem Module.unplace_out (m : Module) (p : Action → Bool) : (m.unplace p).out = m.out := rfl
@[simp] theorem Module.unplace_fresh (m : Module) (p : Action → Bool) : (m.unplace p).fresh = m.fresh := rfl

/-! ### Module.setTile: a tile is replaced -/

@[simp] theorem Module.setTile_clock (m : Module) (i : Nat) (v : Tile) : (m.setTile i v).clock = m.clock := rfl
@[simp] theorem Module.setTile_schedule (m : Module) (i : Nat) (v : Tile) : (m.setTile i v).schedule = m.schedule := rfl
@[simp] theorem Module.setTile_nextSeq (m : Module) (i : Nat) (v : Tile) : (m.setTile i v).nextSeq = m.nextSeq := rfl
@[simp] theorem Module.setTile_od (m : Module) (i : Nat) (v : Tile) : (m.setTile i v).od = m.od := rfl
@[simp] theorem Module.setTile_vilur (m : Module) (i : Nat) (v : Tile) : (m.setTile i v).vilur = m.vilur := rfl
@[simp] theorem Module.setTile_ports (m : Module) (i : Nat) (v : Tile) : (m.setTile i v).ports = m.ports := rfl
@[simp] theorem Module.setTile_search (m : Module) (i : Nat) (v : Tile) : (m.setTile i v).search = m.search := rfl
@[simp] theorem Module.setTile_lots (m : Module) (i : Nat) (v : Tile) : (m.setTile i v).lots = m.lots := rfl
@[simp] theorem Module.setTile_streams (m : Module) (i : Nat) (v : Tile) : (m.setTile i v).streams = m.streams := rfl
@[simp] theorem Module.setTile_tables (m : Module) (i : Nat) (v : Tile) : (m.setTile i v).tables = m.tables := rfl
@[simp] theorem Module.setTile_jobs (m : Module) (i : Nat) (v : Tile) : (m.setTile i v).jobs = m.jobs := rfl
@[simp] theorem Module.setTile_mem (m : Module) (i : Nat) (v : Tile) : (m.setTile i v).mem = m.mem := rfl
@[simp] theorem Module.setTile_cascade (m : Module) (i : Nat) (v : Tile) : (m.setTile i v).cascade = m.cascade := rfl
@[simp] theorem Module.setTile_cistern (m : Module) (i : Nat) (v : Tile) : (m.setTile i v).cistern = m.cistern := rfl
@[simp] theorem Module.setTile_holdup (m : Module) (i : Nat) (v : Tile) : (m.setTile i v).holdup = m.holdup := rfl
@[simp] theorem Module.setTile_boot (m : Module) (i : Nat) (v : Tile) : (m.setTile i v).boot = m.boot := rfl
@[simp] theorem Module.setTile_health (m : Module) (i : Nat) (v : Tile) : (m.setTile i v).health = m.health := rfl
@[simp] theorem Module.setTile_power (m : Module) (i : Nat) (v : Tile) : (m.setTile i v).power = m.power := rfl
@[simp] theorem Module.setTile_out (m : Module) (i : Nat) (v : Tile) : (m.setTile i v).out = m.out := rfl
@[simp] theorem Module.setTile_fresh (m : Module) (i : Nat) (v : Tile) : (m.setTile i v).fresh = m.fresh := rfl

/-! ### Module.onTile: a tile is changed -/

@[simp] theorem Module.onTile_clock (m : Module) (i : Nat) (f : Tile → Tile) : (m.onTile i f).clock = m.clock := rfl
@[simp] theorem Module.onTile_schedule (m : Module) (i : Nat) (f : Tile → Tile) : (m.onTile i f).schedule = m.schedule := rfl
@[simp] theorem Module.onTile_nextSeq (m : Module) (i : Nat) (f : Tile → Tile) : (m.onTile i f).nextSeq = m.nextSeq := rfl
@[simp] theorem Module.onTile_od (m : Module) (i : Nat) (f : Tile → Tile) : (m.onTile i f).od = m.od := rfl
@[simp] theorem Module.onTile_vilur (m : Module) (i : Nat) (f : Tile → Tile) : (m.onTile i f).vilur = m.vilur := rfl
@[simp] theorem Module.onTile_ports (m : Module) (i : Nat) (f : Tile → Tile) : (m.onTile i f).ports = m.ports := rfl
@[simp] theorem Module.onTile_search (m : Module) (i : Nat) (f : Tile → Tile) : (m.onTile i f).search = m.search := rfl
@[simp] theorem Module.onTile_lots (m : Module) (i : Nat) (f : Tile → Tile) : (m.onTile i f).lots = m.lots := rfl
@[simp] theorem Module.onTile_streams (m : Module) (i : Nat) (f : Tile → Tile) : (m.onTile i f).streams = m.streams := rfl
@[simp] theorem Module.onTile_tables (m : Module) (i : Nat) (f : Tile → Tile) : (m.onTile i f).tables = m.tables := rfl
@[simp] theorem Module.onTile_jobs (m : Module) (i : Nat) (f : Tile → Tile) : (m.onTile i f).jobs = m.jobs := rfl
@[simp] theorem Module.onTile_mem (m : Module) (i : Nat) (f : Tile → Tile) : (m.onTile i f).mem = m.mem := rfl
@[simp] theorem Module.onTile_cascade (m : Module) (i : Nat) (f : Tile → Tile) : (m.onTile i f).cascade = m.cascade := rfl
@[simp] theorem Module.onTile_cistern (m : Module) (i : Nat) (f : Tile → Tile) : (m.onTile i f).cistern = m.cistern := rfl
@[simp] theorem Module.onTile_holdup (m : Module) (i : Nat) (f : Tile → Tile) : (m.onTile i f).holdup = m.holdup := rfl
@[simp] theorem Module.onTile_boot (m : Module) (i : Nat) (f : Tile → Tile) : (m.onTile i f).boot = m.boot := rfl
@[simp] theorem Module.onTile_health (m : Module) (i : Nat) (f : Tile → Tile) : (m.onTile i f).health = m.health := rfl
@[simp] theorem Module.onTile_power (m : Module) (i : Nat) (f : Tile → Tile) : (m.onTile i f).power = m.power := rfl
@[simp] theorem Module.onTile_out (m : Module) (i : Nat) (f : Tile → Tile) : (m.onTile i f).out = m.out := rfl
@[simp] theorem Module.onTile_fresh (m : Module) (i : Nat) (f : Tile → Tile) : (m.onTile i f).fresh = m.fresh := rfl

/-! ### Module.setSession: a session is replaced -/

@[simp] theorem Module.setSession_clock (m : Module) (i : Nat) (v : Session) : (m.setSession i v).clock = m.clock := rfl
@[simp] theorem Module.setSession_schedule (m : Module) (i : Nat) (v : Session) : (m.setSession i v).schedule = m.schedule := rfl
@[simp] theorem Module.setSession_nextSeq (m : Module) (i : Nat) (v : Session) : (m.setSession i v).nextSeq = m.nextSeq := rfl
@[simp] theorem Module.setSession_od (m : Module) (i : Nat) (v : Session) : (m.setSession i v).od = m.od := rfl
@[simp] theorem Module.setSession_vilur (m : Module) (i : Nat) (v : Session) : (m.setSession i v).vilur = m.vilur := rfl
@[simp] theorem Module.setSession_search (m : Module) (i : Nat) (v : Session) : (m.setSession i v).search = m.search := rfl
@[simp] theorem Module.setSession_lots (m : Module) (i : Nat) (v : Session) : (m.setSession i v).lots = m.lots := rfl
@[simp] theorem Module.setSession_tiles (m : Module) (i : Nat) (v : Session) : (m.setSession i v).tiles = m.tiles := rfl
@[simp] theorem Module.setSession_streams (m : Module) (i : Nat) (v : Session) : (m.setSession i v).streams = m.streams := rfl
@[simp] theorem Module.setSession_tables (m : Module) (i : Nat) (v : Session) : (m.setSession i v).tables = m.tables := rfl
@[simp] theorem Module.setSession_jobs (m : Module) (i : Nat) (v : Session) : (m.setSession i v).jobs = m.jobs := rfl
@[simp] theorem Module.setSession_mem (m : Module) (i : Nat) (v : Session) : (m.setSession i v).mem = m.mem := rfl
@[simp] theorem Module.setSession_cascade (m : Module) (i : Nat) (v : Session) : (m.setSession i v).cascade = m.cascade := rfl
@[simp] theorem Module.setSession_cistern (m : Module) (i : Nat) (v : Session) : (m.setSession i v).cistern = m.cistern := rfl
@[simp] theorem Module.setSession_holdup (m : Module) (i : Nat) (v : Session) : (m.setSession i v).holdup = m.holdup := rfl
@[simp] theorem Module.setSession_boot (m : Module) (i : Nat) (v : Session) : (m.setSession i v).boot = m.boot := rfl
@[simp] theorem Module.setSession_health (m : Module) (i : Nat) (v : Session) : (m.setSession i v).health = m.health := rfl
@[simp] theorem Module.setSession_power (m : Module) (i : Nat) (v : Session) : (m.setSession i v).power = m.power := rfl
@[simp] theorem Module.setSession_out (m : Module) (i : Nat) (v : Session) : (m.setSession i v).out = m.out := rfl
@[simp] theorem Module.setSession_fresh (m : Module) (i : Nat) (v : Session) : (m.setSession i v).fresh = m.fresh := rfl

/-! ### Module.onSession: a session is changed -/

@[simp] theorem Module.onSession_clock (m : Module) (i : Nat) (f : Session → Session) : (m.onSession i f).clock = m.clock := rfl
@[simp] theorem Module.onSession_schedule (m : Module) (i : Nat) (f : Session → Session) : (m.onSession i f).schedule = m.schedule := rfl
@[simp] theorem Module.onSession_nextSeq (m : Module) (i : Nat) (f : Session → Session) : (m.onSession i f).nextSeq = m.nextSeq := rfl
@[simp] theorem Module.onSession_od (m : Module) (i : Nat) (f : Session → Session) : (m.onSession i f).od = m.od := rfl
@[simp] theorem Module.onSession_vilur (m : Module) (i : Nat) (f : Session → Session) : (m.onSession i f).vilur = m.vilur := rfl
@[simp] theorem Module.onSession_search (m : Module) (i : Nat) (f : Session → Session) : (m.onSession i f).search = m.search := rfl
@[simp] theorem Module.onSession_lots (m : Module) (i : Nat) (f : Session → Session) : (m.onSession i f).lots = m.lots := rfl
@[simp] theorem Module.onSession_tiles (m : Module) (i : Nat) (f : Session → Session) : (m.onSession i f).tiles = m.tiles := rfl
@[simp] theorem Module.onSession_streams (m : Module) (i : Nat) (f : Session → Session) : (m.onSession i f).streams = m.streams := rfl
@[simp] theorem Module.onSession_tables (m : Module) (i : Nat) (f : Session → Session) : (m.onSession i f).tables = m.tables := rfl
@[simp] theorem Module.onSession_jobs (m : Module) (i : Nat) (f : Session → Session) : (m.onSession i f).jobs = m.jobs := rfl
@[simp] theorem Module.onSession_mem (m : Module) (i : Nat) (f : Session → Session) : (m.onSession i f).mem = m.mem := rfl
@[simp] theorem Module.onSession_cascade (m : Module) (i : Nat) (f : Session → Session) : (m.onSession i f).cascade = m.cascade := rfl
@[simp] theorem Module.onSession_cistern (m : Module) (i : Nat) (f : Session → Session) : (m.onSession i f).cistern = m.cistern := rfl
@[simp] theorem Module.onSession_holdup (m : Module) (i : Nat) (f : Session → Session) : (m.onSession i f).holdup = m.holdup := rfl
@[simp] theorem Module.onSession_boot (m : Module) (i : Nat) (f : Session → Session) : (m.onSession i f).boot = m.boot := rfl
@[simp] theorem Module.onSession_health (m : Module) (i : Nat) (f : Session → Session) : (m.onSession i f).health = m.health := rfl
@[simp] theorem Module.onSession_power (m : Module) (i : Nat) (f : Session → Session) : (m.onSession i f).power = m.power := rfl
@[simp] theorem Module.onSession_out (m : Module) (i : Nat) (f : Session → Session) : (m.onSession i f).out = m.out := rfl
@[simp] theorem Module.onSession_fresh (m : Module) (i : Nat) (f : Session → Session) : (m.onSession i f).fresh = m.fresh := rfl

/-! ### Module.onHostPort: a host port is changed -/

@[simp] theorem Module.onHostPort_clock (m : Module) (i : Nat) (f : HostPort → HostPort) : (m.onHostPort i f).clock = m.clock := rfl
@[simp] theorem Module.onHostPort_schedule (m : Module) (i : Nat) (f : HostPort → HostPort) : (m.onHostPort i f).schedule = m.schedule := rfl
@[simp] theorem Module.onHostPort_nextSeq (m : Module) (i : Nat) (f : HostPort → HostPort) : (m.onHostPort i f).nextSeq = m.nextSeq := rfl
@[simp] theorem Module.onHostPort_od (m : Module) (i : Nat) (f : HostPort → HostPort) : (m.onHostPort i f).od = m.od := rfl
@[simp] theorem Module.onHostPort_vilur (m : Module) (i : Nat) (f : HostPort → HostPort) : (m.onHostPort i f).vilur = m.vilur := rfl
@[simp] theorem Module.onHostPort_search (m : Module) (i : Nat) (f : HostPort → HostPort) : (m.onHostPort i f).search = m.search := rfl
@[simp] theorem Module.onHostPort_lots (m : Module) (i : Nat) (f : HostPort → HostPort) : (m.onHostPort i f).lots = m.lots := rfl
@[simp] theorem Module.onHostPort_tiles (m : Module) (i : Nat) (f : HostPort → HostPort) : (m.onHostPort i f).tiles = m.tiles := rfl
@[simp] theorem Module.onHostPort_streams (m : Module) (i : Nat) (f : HostPort → HostPort) : (m.onHostPort i f).streams = m.streams := rfl
@[simp] theorem Module.onHostPort_tables (m : Module) (i : Nat) (f : HostPort → HostPort) : (m.onHostPort i f).tables = m.tables := rfl
@[simp] theorem Module.onHostPort_jobs (m : Module) (i : Nat) (f : HostPort → HostPort) : (m.onHostPort i f).jobs = m.jobs := rfl
@[simp] theorem Module.onHostPort_mem (m : Module) (i : Nat) (f : HostPort → HostPort) : (m.onHostPort i f).mem = m.mem := rfl
@[simp] theorem Module.onHostPort_cascade (m : Module) (i : Nat) (f : HostPort → HostPort) : (m.onHostPort i f).cascade = m.cascade := rfl
@[simp] theorem Module.onHostPort_cistern (m : Module) (i : Nat) (f : HostPort → HostPort) : (m.onHostPort i f).cistern = m.cistern := rfl
@[simp] theorem Module.onHostPort_holdup (m : Module) (i : Nat) (f : HostPort → HostPort) : (m.onHostPort i f).holdup = m.holdup := rfl
@[simp] theorem Module.onHostPort_boot (m : Module) (i : Nat) (f : HostPort → HostPort) : (m.onHostPort i f).boot = m.boot := rfl
@[simp] theorem Module.onHostPort_health (m : Module) (i : Nat) (f : HostPort → HostPort) : (m.onHostPort i f).health = m.health := rfl
@[simp] theorem Module.onHostPort_power (m : Module) (i : Nat) (f : HostPort → HostPort) : (m.onHostPort i f).power = m.power := rfl
@[simp] theorem Module.onHostPort_out (m : Module) (i : Nat) (f : HostPort → HostPort) : (m.onHostPort i f).out = m.out := rfl
@[simp] theorem Module.onHostPort_fresh (m : Module) (i : Nat) (f : HostPort → HostPort) : (m.onHostPort i f).fresh = m.fresh := rfl

/-! ### Module.onInjector: an injector is changed -/

@[simp] theorem Module.onInjector_clock (m : Module) (i : Nat) (f : Injector → Injector) : (m.onInjector i f).clock = m.clock := rfl
@[simp] theorem Module.onInjector_schedule (m : Module) (i : Nat) (f : Injector → Injector) : (m.onInjector i f).schedule = m.schedule := rfl
@[simp] theorem Module.onInjector_nextSeq (m : Module) (i : Nat) (f : Injector → Injector) : (m.onInjector i f).nextSeq = m.nextSeq := rfl
@[simp] theorem Module.onInjector_od (m : Module) (i : Nat) (f : Injector → Injector) : (m.onInjector i f).od = m.od := rfl
@[simp] theorem Module.onInjector_vilur (m : Module) (i : Nat) (f : Injector → Injector) : (m.onInjector i f).vilur = m.vilur := rfl
@[simp] theorem Module.onInjector_search (m : Module) (i : Nat) (f : Injector → Injector) : (m.onInjector i f).search = m.search := rfl
@[simp] theorem Module.onInjector_lots (m : Module) (i : Nat) (f : Injector → Injector) : (m.onInjector i f).lots = m.lots := rfl
@[simp] theorem Module.onInjector_tiles (m : Module) (i : Nat) (f : Injector → Injector) : (m.onInjector i f).tiles = m.tiles := rfl
@[simp] theorem Module.onInjector_streams (m : Module) (i : Nat) (f : Injector → Injector) : (m.onInjector i f).streams = m.streams := rfl
@[simp] theorem Module.onInjector_tables (m : Module) (i : Nat) (f : Injector → Injector) : (m.onInjector i f).tables = m.tables := rfl
@[simp] theorem Module.onInjector_jobs (m : Module) (i : Nat) (f : Injector → Injector) : (m.onInjector i f).jobs = m.jobs := rfl
@[simp] theorem Module.onInjector_mem (m : Module) (i : Nat) (f : Injector → Injector) : (m.onInjector i f).mem = m.mem := rfl
@[simp] theorem Module.onInjector_cascade (m : Module) (i : Nat) (f : Injector → Injector) : (m.onInjector i f).cascade = m.cascade := rfl
@[simp] theorem Module.onInjector_cistern (m : Module) (i : Nat) (f : Injector → Injector) : (m.onInjector i f).cistern = m.cistern := rfl
@[simp] theorem Module.onInjector_holdup (m : Module) (i : Nat) (f : Injector → Injector) : (m.onInjector i f).holdup = m.holdup := rfl
@[simp] theorem Module.onInjector_boot (m : Module) (i : Nat) (f : Injector → Injector) : (m.onInjector i f).boot = m.boot := rfl
@[simp] theorem Module.onInjector_health (m : Module) (i : Nat) (f : Injector → Injector) : (m.onInjector i f).health = m.health := rfl
@[simp] theorem Module.onInjector_power (m : Module) (i : Nat) (f : Injector → Injector) : (m.onInjector i f).power = m.power := rfl
@[simp] theorem Module.onInjector_out (m : Module) (i : Nat) (f : Injector → Injector) : (m.onInjector i f).out = m.out := rfl
@[simp] theorem Module.onInjector_fresh (m : Module) (i : Nat) (f : Injector → Injector) : (m.onInjector i f).fresh = m.fresh := rfl

/-! ### Module.portCount: a field of PORT_COUNTERS -/

@[simp] theorem Module.portCount_clock (m : Module) (p f n : Nat) : (m.portCount p f n).clock = m.clock := rfl
@[simp] theorem Module.portCount_schedule (m : Module) (p f n : Nat) : (m.portCount p f n).schedule = m.schedule := rfl
@[simp] theorem Module.portCount_nextSeq (m : Module) (p f n : Nat) : (m.portCount p f n).nextSeq = m.nextSeq := rfl
@[simp] theorem Module.portCount_vilur (m : Module) (p f n : Nat) : (m.portCount p f n).vilur = m.vilur := rfl
@[simp] theorem Module.portCount_ports (m : Module) (p f n : Nat) : (m.portCount p f n).ports = m.ports := rfl
@[simp] theorem Module.portCount_search (m : Module) (p f n : Nat) : (m.portCount p f n).search = m.search := rfl
@[simp] theorem Module.portCount_lots (m : Module) (p f n : Nat) : (m.portCount p f n).lots = m.lots := rfl
@[simp] theorem Module.portCount_tiles (m : Module) (p f n : Nat) : (m.portCount p f n).tiles = m.tiles := rfl
@[simp] theorem Module.portCount_streams (m : Module) (p f n : Nat) : (m.portCount p f n).streams = m.streams := rfl
@[simp] theorem Module.portCount_tables (m : Module) (p f n : Nat) : (m.portCount p f n).tables = m.tables := rfl
@[simp] theorem Module.portCount_jobs (m : Module) (p f n : Nat) : (m.portCount p f n).jobs = m.jobs := rfl
@[simp] theorem Module.portCount_mem (m : Module) (p f n : Nat) : (m.portCount p f n).mem = m.mem := rfl
@[simp] theorem Module.portCount_cascade (m : Module) (p f n : Nat) : (m.portCount p f n).cascade = m.cascade := rfl
@[simp] theorem Module.portCount_cistern (m : Module) (p f n : Nat) : (m.portCount p f n).cistern = m.cistern := rfl
@[simp] theorem Module.portCount_holdup (m : Module) (p f n : Nat) : (m.portCount p f n).holdup = m.holdup := rfl
@[simp] theorem Module.portCount_boot (m : Module) (p f n : Nat) : (m.portCount p f n).boot = m.boot := rfl
@[simp] theorem Module.portCount_health (m : Module) (p f n : Nat) : (m.portCount p f n).health = m.health := rfl
@[simp] theorem Module.portCount_power (m : Module) (p f n : Nat) : (m.portCount p f n).power = m.power := rfl
@[simp] theorem Module.portCount_out (m : Module) (p f n : Nat) : (m.portCount p f n).out = m.out := rfl
@[simp] theorem Module.portCount_fresh (m : Module) (p f n : Nat) : (m.portCount p f n).fresh = m.fresh := rfl

/-! ### Module.linkCount: a field of the cascade PORT_COUNTERS -/

@[simp] theorem Module.linkCount_clock (m : Module) (p f n : Nat) : (m.linkCount p f n).clock = m.clock := rfl
@[simp] theorem Module.linkCount_schedule (m : Module) (p f n : Nat) : (m.linkCount p f n).schedule = m.schedule := rfl
@[simp] theorem Module.linkCount_nextSeq (m : Module) (p f n : Nat) : (m.linkCount p f n).nextSeq = m.nextSeq := rfl
@[simp] theorem Module.linkCount_vilur (m : Module) (p f n : Nat) : (m.linkCount p f n).vilur = m.vilur := rfl
@[simp] theorem Module.linkCount_ports (m : Module) (p f n : Nat) : (m.linkCount p f n).ports = m.ports := rfl
@[simp] theorem Module.linkCount_search (m : Module) (p f n : Nat) : (m.linkCount p f n).search = m.search := rfl
@[simp] theorem Module.linkCount_lots (m : Module) (p f n : Nat) : (m.linkCount p f n).lots = m.lots := rfl
@[simp] theorem Module.linkCount_tiles (m : Module) (p f n : Nat) : (m.linkCount p f n).tiles = m.tiles := rfl
@[simp] theorem Module.linkCount_streams (m : Module) (p f n : Nat) : (m.linkCount p f n).streams = m.streams := rfl
@[simp] theorem Module.linkCount_tables (m : Module) (p f n : Nat) : (m.linkCount p f n).tables = m.tables := rfl
@[simp] theorem Module.linkCount_jobs (m : Module) (p f n : Nat) : (m.linkCount p f n).jobs = m.jobs := rfl
@[simp] theorem Module.linkCount_mem (m : Module) (p f n : Nat) : (m.linkCount p f n).mem = m.mem := rfl
@[simp] theorem Module.linkCount_cascade (m : Module) (p f n : Nat) : (m.linkCount p f n).cascade = m.cascade := rfl
@[simp] theorem Module.linkCount_cistern (m : Module) (p f n : Nat) : (m.linkCount p f n).cistern = m.cistern := rfl
@[simp] theorem Module.linkCount_holdup (m : Module) (p f n : Nat) : (m.linkCount p f n).holdup = m.holdup := rfl
@[simp] theorem Module.linkCount_boot (m : Module) (p f n : Nat) : (m.linkCount p f n).boot = m.boot := rfl
@[simp] theorem Module.linkCount_health (m : Module) (p f n : Nat) : (m.linkCount p f n).health = m.health := rfl
@[simp] theorem Module.linkCount_power (m : Module) (p f n : Nat) : (m.linkCount p f n).power = m.power := rfl
@[simp] theorem Module.linkCount_out (m : Module) (p f n : Nat) : (m.linkCount p f n).out = m.out := rfl
@[simp] theorem Module.linkCount_fresh (m : Module) (p f n : Nat) : (m.linkCount p f n).fresh = m.fresh := rfl

/-! ### Module.onLink: a cascade port is changed -/

@[simp] theorem Module.onLink_clock (m : Module) (i : Nat) (f : LinkPort → LinkPort) : (m.onLink i f).clock = m.clock := rfl
@[simp] theorem Module.onLink_schedule (m : Module) (i : Nat) (f : LinkPort → LinkPort) : (m.onLink i f).schedule = m.schedule := rfl
@[simp] theorem Module.onLink_nextSeq (m : Module) (i : Nat) (f : LinkPort → LinkPort) : (m.onLink i f).nextSeq = m.nextSeq := rfl
@[simp] theorem Module.onLink_od (m : Module) (i : Nat) (f : LinkPort → LinkPort) : (m.onLink i f).od = m.od := rfl
@[simp] theorem Module.onLink_vilur (m : Module) (i : Nat) (f : LinkPort → LinkPort) : (m.onLink i f).vilur = m.vilur := rfl
@[simp] theorem Module.onLink_ports (m : Module) (i : Nat) (f : LinkPort → LinkPort) : (m.onLink i f).ports = m.ports := rfl
@[simp] theorem Module.onLink_search (m : Module) (i : Nat) (f : LinkPort → LinkPort) : (m.onLink i f).search = m.search := rfl
@[simp] theorem Module.onLink_lots (m : Module) (i : Nat) (f : LinkPort → LinkPort) : (m.onLink i f).lots = m.lots := rfl
@[simp] theorem Module.onLink_tiles (m : Module) (i : Nat) (f : LinkPort → LinkPort) : (m.onLink i f).tiles = m.tiles := rfl
@[simp] theorem Module.onLink_streams (m : Module) (i : Nat) (f : LinkPort → LinkPort) : (m.onLink i f).streams = m.streams := rfl
@[simp] theorem Module.onLink_tables (m : Module) (i : Nat) (f : LinkPort → LinkPort) : (m.onLink i f).tables = m.tables := rfl
@[simp] theorem Module.onLink_jobs (m : Module) (i : Nat) (f : LinkPort → LinkPort) : (m.onLink i f).jobs = m.jobs := rfl
@[simp] theorem Module.onLink_mem (m : Module) (i : Nat) (f : LinkPort → LinkPort) : (m.onLink i f).mem = m.mem := rfl
@[simp] theorem Module.onLink_cistern (m : Module) (i : Nat) (f : LinkPort → LinkPort) : (m.onLink i f).cistern = m.cistern := rfl
@[simp] theorem Module.onLink_holdup (m : Module) (i : Nat) (f : LinkPort → LinkPort) : (m.onLink i f).holdup = m.holdup := rfl
@[simp] theorem Module.onLink_boot (m : Module) (i : Nat) (f : LinkPort → LinkPort) : (m.onLink i f).boot = m.boot := rfl
@[simp] theorem Module.onLink_health (m : Module) (i : Nat) (f : LinkPort → LinkPort) : (m.onLink i f).health = m.health := rfl
@[simp] theorem Module.onLink_power (m : Module) (i : Nat) (f : LinkPort → LinkPort) : (m.onLink i f).power = m.power := rfl
@[simp] theorem Module.onLink_out (m : Module) (i : Nat) (f : LinkPort → LinkPort) : (m.onLink i f).out = m.out := rfl
@[simp] theorem Module.onLink_fresh (m : Module) (i : Nat) (f : LinkPort → LinkPort) : (m.onLink i f).fresh = m.fresh := rfl

/-! ### Module.onClient: a client is changed -/

@[simp] theorem Module.onClient_clock (m : Module) (r : VReq) (f : Client → Client) : (m.onClient r f).clock = m.clock := rfl
@[simp] theorem Module.onClient_schedule (m : Module) (r : VReq) (f : Client → Client) : (m.onClient r f).schedule = m.schedule := rfl
@[simp] theorem Module.onClient_nextSeq (m : Module) (r : VReq) (f : Client → Client) : (m.onClient r f).nextSeq = m.nextSeq := rfl
@[simp] theorem Module.onClient_od (m : Module) (r : VReq) (f : Client → Client) : (m.onClient r f).od = m.od := rfl
@[simp] theorem Module.onClient_ports (m : Module) (r : VReq) (f : Client → Client) : (m.onClient r f).ports = m.ports := rfl
@[simp] theorem Module.onClient_search (m : Module) (r : VReq) (f : Client → Client) : (m.onClient r f).search = m.search := rfl
@[simp] theorem Module.onClient_lots (m : Module) (r : VReq) (f : Client → Client) : (m.onClient r f).lots = m.lots := rfl
@[simp] theorem Module.onClient_tiles (m : Module) (r : VReq) (f : Client → Client) : (m.onClient r f).tiles = m.tiles := rfl
@[simp] theorem Module.onClient_streams (m : Module) (r : VReq) (f : Client → Client) : (m.onClient r f).streams = m.streams := rfl
@[simp] theorem Module.onClient_tables (m : Module) (r : VReq) (f : Client → Client) : (m.onClient r f).tables = m.tables := rfl
@[simp] theorem Module.onClient_jobs (m : Module) (r : VReq) (f : Client → Client) : (m.onClient r f).jobs = m.jobs := rfl
@[simp] theorem Module.onClient_mem (m : Module) (r : VReq) (f : Client → Client) : (m.onClient r f).mem = m.mem := rfl
@[simp] theorem Module.onClient_cascade (m : Module) (r : VReq) (f : Client → Client) : (m.onClient r f).cascade = m.cascade := rfl
@[simp] theorem Module.onClient_cistern (m : Module) (r : VReq) (f : Client → Client) : (m.onClient r f).cistern = m.cistern := rfl
@[simp] theorem Module.onClient_holdup (m : Module) (r : VReq) (f : Client → Client) : (m.onClient r f).holdup = m.holdup := rfl
@[simp] theorem Module.onClient_boot (m : Module) (r : VReq) (f : Client → Client) : (m.onClient r f).boot = m.boot := rfl
@[simp] theorem Module.onClient_health (m : Module) (r : VReq) (f : Client → Client) : (m.onClient r f).health = m.health := rfl
@[simp] theorem Module.onClient_power (m : Module) (r : VReq) (f : Client → Client) : (m.onClient r f).power = m.power := rfl
@[simp] theorem Module.onClient_out (m : Module) (r : VReq) (f : Client → Client) : (m.onClient r f).out = m.out := rfl
@[simp] theorem Module.onClient_fresh (m : Module) (r : VReq) (f : Client → Client) : (m.onClient r f).fresh = m.fresh := rfl

/-! ### What the updates put in place -/

@[simp] theorem Module.at_now (m : Module) (t : Nat) : (m.at t).clock.now = max m.clock.now t := rfl

@[simp] theorem Module.at_clock_sfc (m : Module) (t : Nat) : (m.at t).clock.sfc = m.clock.sfc := rfl

@[simp] theorem Module.send_out (m : Module) (o : Out) : (m.send o).out = m.out ++ [o] := rfl

@[simp] theorem Module.sendAll_out (m : Module) (o : List Out) : (m.sendAll o).out = m.out ++ o := rfl

@[simp] theorem Module.drawn_fresh (m : Module) : m.drawn.fresh = m.fresh + 1 := rfl

@[simp] theorem Module.onClient_queue (m : Module) (r : VReq) (f : Client → Client) : (m.onClient r f).vilur.queue = m.vilur.queue := rfl

@[simp] theorem Module.event_queue (m : Module) (a b c : Nat) : (m.event a b c).vilur.queue = m.vilur.queue := rfl

@[simp] theorem Module.event_armed (m : Module) (a b c : Nat) : (m.event a b c).health.armed = m.health.armed := rfl

end Sys2Proof.Machine
end

