-- ==== Sys2Proof/Laws/Frame.lean ====
section
/-! SUPPORT. Frames compose: nothing outside the parts changes over two changes in a row. -/

namespace Sys2Proof

open Sys2Proof.Machine

theorem Part.same_refl (g : Part) (m : Module) : g.same m m := by cases g <;> simp [Part.same]

theorem Part.same_trans {g : Part} {a b c : Module} (h : g.same a b) (k : g.same b c) : g.same a c := by
  cases g <;> simp_all [Part.same]

theorem Only.refl (gs : List Part) (m : Module) : Only gs m m := fun g _ => g.same_refl m

theorem Only.trans {gs : List Part} {a b c : Module} (h : Only gs a b) (k : Only gs b c) : Only gs a c :=
  fun g hg => Part.same_trans (h g hg) (k g hg)

theorem Only.mono {gs hs : List Part} {a b : Module} (h : Only gs a b) (k : ∀ g, g ∈ gs → g ∈ hs) : Only hs a b :=
  fun g hg => h g (fun hm => hg (k g hm))

/-- A fold of changes that each keep to the parts keeps to them. -/
theorem Only.foldl {α : Type} {gs : List Part} {f : Module → α → Module} (h : ∀ m x, Only gs m (f m x)) :
    ∀ (l : List α) (m : Module), Only gs m (l.foldl f m)
  | [], m => Only.refl gs m
  | x :: l, m => (h m x).trans (Only.foldl h l (f m x))

theorem Only.ite {gs : List Part} {m a b : Module} {p : Prop} [Decidable p] (h : Only gs m a) (k : Only gs m b) :
    Only gs m (if p then a else b) := by split <;> assumption

theorem Only.ite_fst {β : Type} {gs : List Part} {m : Module} {a b : Module × β} {p : Prop} [Decidable p] (h : Only gs m a.1)
    (k : Only gs m b.1) : Only gs m (if p then a else b).1 := by split <;> assumption

theorem only_at (m : Module) (t : Nat) : Only [.now] m (m.at t) := by
  intro g hg; cases g <;> first | exact absurd (by decide) hg | exact rfl | exact ⟨rfl, rfl⟩ | exact ⟨rfl, rfl, rfl⟩

theorem only_countI (m : Module) (i s n k : Nat) : Only [.cnt] m (m.countI i s n k) := by
  intro g hg; cases g <;> first | exact absurd (by decide) hg | exact rfl | exact ⟨rfl, rfl⟩ | exact ⟨rfl, rfl, rfl⟩

theorem only_count (m : Module) (i s k : Nat) : Only [.cnt] m (m.count i s k) := only_countI m i s 0 k

theorem only_portCount (m : Module) (p f n : Nat) : Only [.cnt] m (m.portCount p f n) := only_countI m _ _ _ n

theorem only_linkCount (m : Module) (p f n : Nat) : Only [.cnt] m (m.linkCount p f n) := only_countI m _ _ _ n

theorem only_setCfg (m : Module) (i s n : Nat) (v : Bytes) : Only [.cfg] m (m.setCfg i s n v) := by
  intro g hg; cases g <;> first | exact absurd (by decide) hg | exact rfl | exact ⟨rfl, rfl⟩ | exact ⟨rfl, rfl, rfl⟩

theorem only_persist (m : Module) (i s n : Nat) (v : Bytes) : Only [.persist] m (m.persist i s n v) := by
  intro g hg; cases g <;> first | exact absurd (by decide) hg | exact rfl | exact ⟨rfl, rfl⟩ | exact ⟨rfl, rfl, rfl⟩

theorem only_send (m : Module) (o : Out) : Only [.out] m (m.send o) := by
  intro g hg; cases g <;> first | exact absurd (by decide) hg | exact rfl | exact ⟨rfl, rfl⟩ | exact ⟨rfl, rfl, rfl⟩

theorem only_sendAll (m : Module) (o : List Out) : Only [.out] m (m.sendAll o) := by
  intro g hg; cases g <;> first | exact absurd (by decide) hg | exact rfl | exact ⟨rfl, rfl⟩ | exact ⟨rfl, rfl, rfl⟩

theorem only_drawn (m : Module) : Only [.fresh] m m.drawn := by
  intro g hg; cases g <;> first | exact absurd (by decide) hg | exact rfl | exact ⟨rfl, rfl⟩ | exact ⟨rfl, rfl, rfl⟩

theorem only_event (m : Module) (a b c : Nat) : Only [.events, .clients] m (m.event a b c) := by
  intro g hg; cases g <;> first | exact absurd (by decide) hg | exact rfl | exact ⟨rfl, rfl⟩ | exact ⟨rfl, rfl, rfl⟩

theorem only_place (m : Module) (a : Action) : Only [.schedule, .nextSeq] m (m.place a) := by
  intro g hg; cases g <;> first | exact absurd (by decide) hg | exact rfl | exact ⟨rfl, rfl⟩ | exact ⟨rfl, rfl, rfl⟩

theorem only_unplace (m : Module) (p : Action → Bool) : Only [.schedule] m (m.unplace p) := by
  intro g hg; cases g <;> first | exact absurd (by decide) hg | exact rfl | exact ⟨rfl, rfl⟩ | exact ⟨rfl, rfl, rfl⟩

theorem only_setTile (m : Module) (i : Nat) (v : Tile) : Only [.tiles] m (m.setTile i v) := by
  intro g hg; cases g <;> first | exact absurd (by decide) hg | exact rfl | exact ⟨rfl, rfl⟩ | exact ⟨rfl, rfl, rfl⟩

theorem only_setSession (m : Module) (i : Nat) (v : Session) : Only [.sessions] m (m.setSession i v) := by
  intro g hg; cases g <;> first | exact absurd (by decide) hg | exact rfl | exact ⟨rfl, rfl⟩ | exact ⟨rfl, rfl, rfl⟩

theorem only_onSession (m : Module) (i : Nat) (f : Session → Session) : Only [.sessions] m (m.onSession i f) := by
  intro g hg; cases g <;> first | exact absurd (by decide) hg | exact rfl | exact ⟨rfl, rfl⟩ | exact ⟨rfl, rfl, rfl⟩

theorem only_onHostPort (m : Module) (i : Nat) (f : HostPort → HostPort) : Only [.hosts] m (m.onHostPort i f) := by
  intro g hg; cases g <;> first | exact absurd (by decide) hg | exact rfl | exact ⟨rfl, rfl⟩ | exact ⟨rfl, rfl, rfl⟩

theorem only_onInjector (m : Module) (i : Nat) (f : Injector → Injector) : Only [.inject] m (m.onInjector i f) := by
  intro g hg; cases g <;> first | exact absurd (by decide) hg | exact rfl | exact ⟨rfl, rfl⟩ | exact ⟨rfl, rfl, rfl⟩

theorem only_onLink (m : Module) (i : Nat) (f : LinkPort → LinkPort) : Only [.links] m (m.onLink i f) := by
  intro g hg; cases g <;> first | exact absurd (by decide) hg | exact rfl | exact ⟨rfl, rfl⟩ | exact ⟨rfl, rfl, rfl⟩

theorem only_onClient (m : Module) (r : VReq) (f : Client → Client) : Only [.clients] m (m.onClient r f) := by
  intro g hg; cases g <;> first | exact absurd (by decide) hg | exact rfl | exact ⟨rfl, rfl⟩ | exact ⟨rfl, rfl, rfl⟩

end Sys2Proof
end

