-- ==== Sys2Proof/Laws/Map.lean ====
section
/-! SUPPORT. Sparse maps and byte memories: a read after a write gives what was written, a write leaves every other place
alone, and every memory operation keeps the canonical form. -/

namespace Sys2Proof.Machine

/-! ## Maps -/

@[simp] theorem mGet_nil {α : Type} (k : Nat) : mGet ([] : List (Nat × α)) k = none := rfl

theorem mGet_cons {α : Type} (j : Nat) (v : α) (l : List (Nat × α)) (k : Nat) :
    mGet ((j, v) :: l) k = if j = k then some v else mGet l k := rfl

@[simp] theorem mGet_mPut_self {α : Type} (l : List (Nat × α)) (k : Nat) (v : α) : mGet (mPut l k v) k = some v := by
  induction l with
  | nil => simp [mPut, mGet]
  | cons p l ih =>
    obtain ⟨j, w⟩ := p
    unfold mPut
    split
    · simp [mGet]
    · split
      · simp [mGet]
      · simp [mGet, *]

theorem mGet_mPut_ne {α : Type} (l : List (Nat × α)) {k j : Nat} (h : j ≠ k) (v : α) : mGet (mPut l k v) j = mGet l j := by
  induction l with
  | nil => simp [mPut, mGet, h.symm]
  | cons p l ih =>
    obtain ⟨i, w⟩ := p
    unfold mPut
    split
    · simp [mGet, h.symm]
    · split
      · rename_i hi; subst hi; simp [mGet, h.symm]
      · simp [mGet, ih]

theorem mGet_mPut {α : Type} (l : List (Nat × α)) (k j : Nat) (v : α) :
    mGet (mPut l k v) j = if j = k then some v else mGet l j := by
  split
  · subst_vars; exact mGet_mPut_self l _ v
  · exact mGet_mPut_ne l ‹_› v

theorem mGet_filter {α : Type} (l : List (Nat × α)) (p : Nat → Bool) (k : Nat) :
    mGet (l.filter (fun x => p x.1)) k = if p k then mGet l k else none := by
  induction l with
  | nil => simp [mGet]
  | cons x l ih =>
    obtain ⟨j, w⟩ := x
    by_cases hj : p j = true
    · rw [List.filter_cons_of_pos (by exact hj), mGet_cons, mGet_cons, ih]
      by_cases h : j = k
      · subst h; simp [hj]
      · simp [h]
    · rw [List.filter_cons_of_neg (by exact hj), mGet_cons, ih]
      by_cases h : j = k
      · subst h; simp [hj]
      · simp [h]

theorem mGet_mDel {α : Type} (l : List (Nat × α)) (k j : Nat) : mGet (mDel l k) j = if j = k then none else mGet l j := by
  unfold mDel
  rw [mGet_filter l (fun x => x != k)]
  by_cases h : j = k <;> simp [h]

theorem mGetD_mPut {α : Type} (l : List (Nat × α)) (k j : Nat) (v d : α) :
    mGetD (mPut l k v) j d = if j = k then v else mGetD l j d := by
  unfold mGetD; rw [mGet_mPut]; split <;> rfl

theorem mGetD_mPutZ (l : List (Nat × Nat)) (k j v d : Nat) :
    mGetD (mPutZ l k v d) j d = if j = k then v else mGetD l j d := by
  unfold mPutZ
  split
  · unfold mGetD; rw [mGet_mDel]; split <;> simp_all
  · exact mGetD_mPut l k j v d

theorem mGetD_mAdd (l : List (Nat × Nat)) (k j n : Nat) :
    mGetD (mAdd l k n) j 0 = if j = k then mGetD l k 0 + n else mGetD l j 0 := mGetD_mPutZ l k j _ 0

theorem mGet_append {α : Type} (l r : List (Nat × α)) (k : Nat) :
    mGet (l ++ r) k = match mGet l k with
      | some v => some v
      | none => mGet r k := by
  induction l with
  | nil => rfl
  | cons x l ih =>
    obtain ⟨j, w⟩ := x
    simp only [List.cons_append, mGet_cons]
    split
    · rfl
    · exact ih

theorem mGet_mMod {α : Type} (l : List (Nat × α)) (k j : Nat) (f : α → α) :
    mGet (mMod l k f) j = if j = k then (mGet l k).map f else mGet l j := by
  unfold mMod
  cases h : mGet l k with
  | none => by_cases hj : j = k <;> simp [hj, h]
  | some v => simp [mGet_mPut]

/-! ## Byte memories -/

/-- A byte of a written string, or the byte that was there. -/
theorem mGet_cellsOf (bs : Bytes) (a x : Nat) :
    mGet (cellsOf a bs) x = if a ≤ x ∧ bs.getD (x - a) 0 ≠ 0 then some (bs.getD (x - a) 0) else none := by
  induction bs generalizing a with
  | nil => simp [cellsOf]
  | cons b bs ih =>
    unfold cellsOf
    by_cases hx : x = a
    · subst hx
      have h0 : (b :: bs).getD (x - x) 0 = b := by rw [Nat.sub_self]; rfl
      rw [h0]
      by_cases hb : b = 0
      · rw [if_pos hb, ih, if_neg (by omega), if_neg (by simp [hb])]
      · rw [if_neg hb, mGet_cons, if_pos rfl, if_pos ⟨Nat.le_refl x, hb⟩]
    · have h1 : (b :: bs).getD (x - a) 0 = if a ≤ x then bs.getD (x - (a + 1)) 0 else b := by
        split
        · have : x - a = (x - (a + 1)) + 1 := by omega
          rw [this]; rfl
        · have : x - a = 0 := by omega
          rw [this]; rfl
      have h2 : (a ≤ x) ↔ (a + 1 ≤ x) := by omega
      have h3 : mGet (if b = 0 then cellsOf (a + 1) bs else (a, b) :: cellsOf (a + 1) bs) x = mGet (cellsOf (a + 1) bs) x := by
        split
        · rfl
        · rw [mGet_cons, if_neg (Ne.symm hx)]
      rw [h3, ih, h1]
      by_cases ha : a ≤ x
      · simp [ha, h2.mp ha]
      · simp [ha, (not_congr h2).mp ha]

/-- Reading after writing a string: its own bytes inside it, the old bytes outside. -/
theorem memRead_memWriteN (c : List Host.Cell) (a : Nat) (bs : Bytes) (x : Nat) :
    memRead (memWriteN c a bs) x = if a ≤ x ∧ x < a + bs.length then bs.getD (x - a) 0 else memRead c x := by
  unfold memRead memWriteN mGetD
  rw [mGet_append, mGet_append, mGet_filter c (fun k => decide (k < a)), mGet_filter c (fun k => decide (a + bs.length ≤ k)), mGet_cellsOf]
  by_cases h1 : x < a
  · have h2 : ¬ a ≤ x := by omega
    have h3 : ¬ a + bs.length ≤ x := by omega
    simp only [h1, h2, h3, decide_true, if_true, false_and, if_false, decide_false]
    cases mGet c x <;> rfl
  · have h2 : a ≤ x := by omega
    by_cases h3 : x < a + bs.length
    · have h4 : ¬ a + bs.length ≤ x := by omega
      by_cases h5 : bs.getD (x - a) 0 = 0
      · simp only [h1, h2, h3, h4, h5]; simp
      · rw [if_pos (⟨h2, h5⟩ : a ≤ x ∧ bs.getD (x - a) 0 ≠ 0), if_pos (⟨h2, h3⟩ : a ≤ x ∧ x < a + bs.length)]
        simp [h1]
    · have h4 : a + bs.length ≤ x := by omega
      have h5 : bs.getD (x - a) 0 = 0 := by
        rw [List.getD_eq_getElem?_getD, List.getElem?_eq_none (by omega)]; rfl
      simp only [h1, h2, h3, h4, h5]; simp

theorem memRead_memClear (c : List Host.Cell) (a n x : Nat) :
    memRead (memClear c a n) x = if a ≤ x ∧ x < a + n then 0 else memRead c x := by
  unfold memRead memClear mGetD
  rw [mGet_filter c (fun k => decide (k < a ∨ a + n ≤ k))]
  by_cases h : a ≤ x ∧ x < a + n
  · have : ¬ (x < a ∨ a + n ≤ x) := by omega
    simp [this, h]
  · have : x < a ∨ a + n ≤ x := by omega
    simp [this, h]

/-! ## The canonical form -/

/-- The canonical form as a property of pairs. -/
theorem memWf_iff (c : List Host.Cell) : memWf c = true ↔ (∀ p ∈ c, p.2 ≠ 0) ∧ c.Pairwise (fun p q => p.1 < q.1) := by
  induction c with
  | nil => simp [memWf]
  | cons p c ih =>
    cases c with
    | nil => simp [memWf]
    | cons q c =>
      simp only [memWf, Bool.and_eq_true, decide_eq_true_eq, bne_iff_ne, ih, List.mem_cons, List.pairwise_cons]
      constructor
      · rintro ⟨⟨h1, h2⟩, h3, h4, h5⟩
        refine ⟨?_, ?_, h4, h5⟩
        · intro x hx
          rcases hx with rfl | hx
          · exact h1
          · exact h3 x hx
        · intro x hx
          rcases hx with rfl | hx
          · exact h2
          · exact Nat.lt_trans h2 (h4 x hx)
      · rintro ⟨h1, h2, h4, h5⟩
        exact ⟨⟨h1 p (Or.inl rfl), h2 q (Or.inl rfl)⟩, fun x hx => h1 x (Or.inr hx), h4, h5⟩

theorem cellsOf_mem (bs : Bytes) (a : Nat) : ∀ p ∈ cellsOf a bs, a ≤ p.1 ∧ p.1 < a + bs.length ∧ p.2 ≠ 0 := by
  induction bs generalizing a with
  | nil => simp [cellsOf]
  | cons b bs ih =>
    intro p hp
    unfold cellsOf at hp
    simp only [List.length_cons]
    split at hp
    · have := ih (a + 1) p hp; exact ⟨by omega, by omega, this.2.2⟩
    · rcases List.mem_cons.mp hp with rfl | hp
      · exact ⟨by omega, by omega, ‹_›⟩
      · have := ih (a + 1) p hp; exact ⟨by omega, by omega, this.2.2⟩

theorem cellsOf_pairwise (bs : Bytes) (a : Nat) : (cellsOf a bs).Pairwise (fun p q => p.1 < q.1) := by
  induction bs generalizing a with
  | nil => simp [cellsOf]
  | cons b bs ih =>
    unfold cellsOf
    split
    · exact ih (a + 1)
    · refine List.pairwise_cons.mpr ⟨fun p hp => ?_, ih (a + 1)⟩
      have := (cellsOf_mem bs (a + 1) p hp).1
      show a < p.1
      omega

/-- Writing a byte string keeps the canonical form. -/
theorem memWf_memWriteN {c : List Host.Cell} (h : memWf c = true) (a : Nat) (bs : Bytes) : memWf (memWriteN c a bs) = true := by
  rw [memWf_iff] at h ⊢
  obtain ⟨h1, h2⟩ := h
  unfold memWriteN
  constructor
  · intro p hp
    simp only [List.mem_append, List.mem_filter] at hp
    rcases hp with (hp | hp) | hp
    · exact h1 p hp.1
    · exact (cellsOf_mem bs a p hp).2.2
    · exact h1 p hp.1
  · refine List.pairwise_append.mpr ⟨List.pairwise_append.mpr ⟨h2.filter _, cellsOf_pairwise bs a, ?_⟩, h2.filter _, ?_⟩
    · intro p hp q hq
      have hp := (List.mem_filter.mp hp).2
      have hq := (cellsOf_mem bs a q hq).1
      simp at hp; omega
    · intro p hp q hq
      have hq := (List.mem_filter.mp hq).2
      simp at hq
      rcases List.mem_append.mp hp with hp | hp
      · have hp := (List.mem_filter.mp hp).2
        simp at hp; omega
      · have := (cellsOf_mem bs a p hp).2.1; omega

theorem memWf_memWrite {c : List Host.Cell} (h : memWf c = true) (a : Nat) (b : Byte) : memWf (memWrite c a b) = true :=
  memWf_memWriteN h a [b]

theorem memWf_memPutLe {c : List Host.Cell} (h : memWf c = true) (a n v : Nat) : memWf (memPutLe c a n v) = true :=
  memWf_memWriteN h a _

/-- Clearing keeps the canonical form. -/
theorem memWf_memClear {c : List Host.Cell} (h : memWf c = true) (a n : Nat) : memWf (memClear c a n) = true := by
  rw [memWf_iff] at h ⊢
  exact ⟨fun p hp => h.1 p (List.mem_filter.mp hp).1, h.2.filter _⟩

end Sys2Proof.Machine
end

