-- ==== Sys2Proof/Laws/Vilur.lean ====
section
/-! SUPPORT. What the injectors, a message that leaves a port and a Vilur reply can do, said once (13 R384 to R386,
16 R456 to R458). -/

namespace Sys2Proof

open Sys2Proof.Machine

/-! ## Injectors and messages -/

theorem only_injectFrom (cascade : Bool) (port : Nat) (tx : Bool) (elig : Nat → Bool) :
    ∀ (n i : Nat) (m : Module) (r : InjResult), Only [.inject, .cnt] m (m.injectFrom cascade port tx elig n i r).1
  | 0, _, m, _ => Only.refl _ m
  | n + 1, i, m, r => by
    have hput : ∀ (m : Module) (x : List (Nat × Injector)),
        Only [.inject, .cnt] m { m with ports := { m.ports with inject := x } } := by
      intro m x g hg; cases g <;> first | exact absurd (by decide) hg | exact rfl | exact ⟨rfl, rfl⟩ | exact ⟨rfl, rfl, rfl⟩
    have hcnt : ∀ (m : Module), Only [.inject, .cnt] m (if cascade then m.linkCount port 8 1 else m.portCount port 15 1) := by
      intro m; split
      · exact (only_linkCount _ _ _ _).mono (by decide)
      · exact (only_portCount _ _ _ _).mono (by decide)
    unfold Module.injectFrom
    refine Only.ite_fst (only_injectFrom cascade port tx elig n (i + 1) m r) ?_
    refine Only.ite_fst ((hput m _).trans (only_injectFrom cascade port tx elig n (i + 1) _ _)) ?_
    exact ((hput m _).trans (hcnt _)).trans (only_injectFrom cascade port tx elig n (i + 1) _ _)

theorem only_inject (m : Module) (cascade : Bool) (port : Nat) (tx : Bool) (elig : Nat → Bool) :
    Only [.inject, .cnt] m (m.inject cascade port tx elig).1 := by
  unfold Module.inject; split
  · exact only_injectFrom cascade port tx elig 4 0 m {}
  · exact Only.refl _ m

theorem inject_unarmed {m : Module} (h : m.health.armed = false) (cascade : Bool) (port : Nat) (tx : Bool) (elig : Nat → Bool) :
    m.inject cascade port tx elig = (m, {}) := by simp [Module.inject, h]

/-- A message that leaves a port changes only the injectors, counters and the messages sent. -/
theorem only_emit (m : Module) (port : Nat) (s : Option Nat) (roce : Bool) (o : Out) (hdr : Nat) :
    Only [.inject, .cnt, .out] m (m.emit port s roce o hdr) := by
  have h := (only_inject m false port true (hostEligible roce s)).mono (hs := [.inject, .cnt, .out]) (by decide)
  unfold Module.emit
  refine (h.trans ?_).trans (Only.foldl (fun m k => ?_) _ _)
  · split
    · exact (only_onInjector _ _ _).mono (by decide)
    · split
      · exact Only.refl _ _
      · split
        · exact (only_send _ _).mono (by decide)
        · exact Only.refl _ _
  · split
    · exact ((only_send _ _).mono (by decide)).trans ((only_onInjector _ _ _).mono (by decide))
    · exact Only.refl _ _

/-- While no injector is armed, the message leaves as it is. -/
theorem emit_unarmed {m : Module} (h : m.health.armed = false) (port : Nat) (s : Option Nat) (roce : Bool) (o : Out) (hdr : Nat) :
    m.emit port s roce o hdr = m.send o := by simp [Module.emit, inject_unarmed h]

theorem only_sendUdp (m : Module) (port addr udp : Nat) (bs : Bytes) :
    Only [.inject, .cnt, .out] m (m.sendUdp port addr udp bs) := by
  unfold Module.sendUdp
  refine Only.trans ?_ (only_emit _ _ _ _ _ _)
  split
  · exact ((only_portCount _ _ _ _).trans (only_portCount _ _ _ _)).mono (by decide)
  · exact Only.refl _ _

theorem sendUdp_out {m : Module} (h : m.health.armed = false) (port addr udp : Nat) (bs : Bytes) :
    (m.sendUdp port addr udp bs).out = m.out ++ [.datagram port addr udp bs] := by
  unfold Module.sendUdp
  rw [emit_unarmed]
  · split <;> rfl
  · split <;> simpa using h

/-! ## Clients -/

/-- Changing a client that keeps its identity changes what the request's client is, and no other client. -/
theorem client_onClient {m : Module} {r : VReq} {c : Client} (h : m.client r = some c) (f : Client → Client)
    (hf : ∀ c, (f c).port = c.port ∧ (f c).addr = c.addr ∧ (f c).udp = c.udp) : (m.onClient r f).client r = some (f c) := by
  unfold Module.client Module.onClient at *
  have hid : ∀ c : Client, (f c).is r.port r.addr r.udp = c.is r.port r.addr r.udp := by
    intro c; have := hf c; simp [Client.is, this]
  simp only
  generalize m.vilur.clients = l at h
  induction l with
  | nil => simp at h
  | cons a l ih =>
    simp only [List.find?_cons, List.map_cons] at h ⊢
    by_cases ha : a.is r.port r.addr r.udp
    · simp only [ha, Option.some.injEq] at h; subst h; simp [ha, hid]
    · simp [ha] at h; simp [ha, ih h]

theorem client_congr {m m' : Module} (h : m'.vilur.clients = m.vilur.clients) (r : VReq) : m'.client r = m.client r := by
  simp [Module.client, h]

/-- A kept reply is found under its SEQ. -/
theorem mGet_keepReply (kept : List (Nat × Bytes)) (seq : Nat) (bs : Bytes) : mGet (keepReply kept seq bs) seq = some bs := by
  simp [keepReply, mGet]

/-! ## Replies -/

theorem only_reply (m : Module) (r : VReq) (st target detail : Nat) (data : Bytes) :
    Only [.clients, .cnt, .inject, .out] m (m.reply r st target detail data) := by
  unfold Module.reply
  refine Only.trans (Only.trans ?_ ((only_onClient _ _ _).mono (by decide))) ((only_sendUdp _ _ _ _ _).mono (by decide))
  split
  · exact Only.refl _ _
  · exact (only_count _ _ _ _).mono (by decide)

theorem only_refuse (m : Module) (r : VReq) (st : Nat) : Only [.clients, .cnt, .inject, .out] m (m.refuse r st) := only_reply m r st 0 0 []

theorem only_ack (m : Module) (r : VReq) (t : Nat) : Only [.clients, .cnt, .inject, .out] m (m.ack r t) := only_reply m r 0 t 0 _

theorem only_executing (m : Module) (t : Nat) (rest : List VReq) : Only [.now, .queue, .cnt] m (m.executing t rest) := by
  intro g hg; cases g <;> first | exact absurd (by decide) hg | exact rfl | exact ⟨rfl, rfl⟩ | exact ⟨rfl, rfl, rfl⟩

/-- The client of the request after a reply: itself, with the reply kept. -/
theorem reply_client {m : Module} {r : VReq} {c : Client} (h : m.client r = some c) (st target detail : Nat) (data : Bytes) :
    (m.reply r st target detail data).client r = some { c with kept := keepReply c.kept r.seq (replyBytes r st target detail data) } := by
  unfold Module.reply
  have hs := only_sendUdp ((if st = 0 then m else m.count 0x1010 0x0C 1).onClient r
    (fun c => { c with kept := keepReply c.kept r.seq (replyBytes r st target detail data) })) r.port r.addr r.udp
    (replyBytes r st target detail data) .clients (by decide)
  rw [client_congr hs]
  apply client_onClient
  · split <;> exact h
  · intro c; exact ⟨rfl, rfl, rfl⟩

/-- A counter, after one was counted. -/
theorem cnt_countI (m : Module) (i s n k x : Nat) :
    mGetD (m.countI i s n k).od.cnt x 0 = if x = odKey i s n then (mGetD m.od.cnt x 0 + k) % 2 ^ 64 else mGetD m.od.cnt x 0 := by
  unfold Module.countI
  simp only [mGetD_mPutZ]
  split <;> simp_all

/-- Outside the counters of a port, the injectors change no counter. -/
theorem cnt_injectFrom {p x : Nat} (hp : p ≤ 4) (hx : ¬ (odKey 0x4100 0x20 0 ≤ x ∧ x < odKey 0x4100 0x21 0)) (tx : Bool)
    (elig : Nat → Bool) : ∀ (n i : Nat) (m : Module) (r : InjResult),
    mGetD (m.injectFrom false p tx elig n i r).1.od.cnt x 0 = mGetD m.od.cnt x 0
  | 0, _, m, _ => rfl
  | n + 1, i, m, r => by
    have ih := fun i m r => cnt_injectFrom hp hx tx elig n i m r
    have hite : ∀ {q : Prop} [Decidable q] (a b : Module × InjResult), mGetD a.1.od.cnt x 0 = mGetD m.od.cnt x 0 →
        mGetD b.1.od.cnt x 0 = mGetD m.od.cnt x 0 → mGetD (if q then a else b).1.od.cnt x 0 = mGetD m.od.cnt x 0 := by
      intro q _ a b h k; split <;> assumption
    unfold Module.injectFrom
    refine hite _ _ (ih _ _ _) (hite _ _ (ih _ _ _) ?_)
    refine (ih _ _ _).trans ?_
    rw [if_neg (by simp)]
    refine (cnt_countI _ _ _ _ _ _).trans ?_
    rw [if_neg]
    intro h; subst h; apply hx; unfold odKey; omega

theorem cnt_sendUdp (m : Module) {p x : Nat} (hp : p ≤ 4) (hx : ¬ (odKey 0x4100 0x20 0 ≤ x ∧ x < odKey 0x4100 0x21 0)) (addr udp : Nat)
    (bs : Bytes) : mGetD (m.sendUdp p addr udp bs).od.cnt x 0 = mGetD m.od.cnt x 0 := by
  have hport : ∀ (m : Module) (f n : Nat), f < 16 → mGetD (m.portCount p f n).od.cnt x 0 = mGetD m.od.cnt x 0 := by
    intro m f n hf
    refine (cnt_countI _ _ _ _ _ _).trans ?_
    rw [if_neg]
    intro h; subst h; apply hx; unfold odKey; omega
  have hemit : ∀ (m : Module) (o : Out) (k : Nat), mGetD (m.emit p none false o k).od.cnt x 0 = mGetD m.od.cnt x 0 := by
    intro m o k
    have h1 : mGetD (m.inject false p true (hostEligible false none)).1.od.cnt x 0 = mGetD m.od.cnt x 0 := by
      unfold Module.inject; split
      · exact cnt_injectFrom hp hx _ _ _ _ _ _
      · rfl
    have hfold : ∀ (g : Module → Nat → Module) (_ : ∀ m k, (g m k).od.cnt = m.od.cnt) (l : List Nat) (m : Module),
        (l.foldl g m).od.cnt = m.od.cnt := by
      intro g hg l
      induction l with
      | nil => intro m; rfl
      | cons a l ih => intro m; exact (ih (g m a)).trans (hg m a)
    unfold Module.emit
    rw [hfold _ (by intro m k; split <;> rfl)]
    rw [← h1]
    split
    · rfl
    · split
      · rfl
      · split <;> rfl
  unfold Module.sendUdp
  rw [hemit]
  split
  · rw [hport _ _ _ (by decide), hport _ _ _ (by decide)]
  · rfl

/-- A client of another identity is what it was. -/
theorem client_onClient_ne {m : Module} {r q : VReq} (h : (q.port, q.addr, q.udp) ≠ (r.port, r.addr, r.udp)) (f : Client → Client)
    (hf : ∀ c, (f c).port = c.port ∧ (f c).addr = c.addr ∧ (f c).udp = c.udp) : (m.onClient r f).client q = m.client q := by
  unfold Module.client Module.onClient
  simp only
  induction m.vilur.clients with
  | nil => rfl
  | cons a l ih =>
    simp only [List.find?_cons, List.map_cons]
    by_cases ha : a.is r.port r.addr r.udp = true
    · have h1 : a.is q.port q.addr q.udp = false := by
        simp only [Client.is, Bool.and_eq_true, beq_iff_eq] at ha
        rw [Bool.eq_false_iff]
        intro hh
        simp only [Client.is, Bool.and_eq_true, beq_iff_eq] at hh
        apply h; simp [← ha.1.1, ← ha.1.2, ← ha.2, hh]
      have h2 : (f a).is q.port q.addr q.udp = false := by have := hf a; simp [Client.is, this] at h1 ⊢; exact h1
      simp only [ha, if_true, h1, h2, ih]
    · simp only [ha, Bool.false_eq_true, if_false]
      cases a.is q.port q.addr q.udp <;> simp [ih]

/-- What a module X answers, that differs from m in what the request did. -/
theorem answered_reply {m X : Module} {t : Nat} {r : VReq} {rest : List VReq} {c : Client} (st target detail : Nat) (data : Bytes)
    (hp : r.port ≤ 4) (hq : X.vilur.queue = rest) (hk : X.clock.now = t) (hc : X.client r = some c) (ho : X.out = m.out)
    (ha : X.health.armed = m.health.armed) (hr : X.ctr 0x1010 0x0B = (m.ctr 0x1010 0x0B + 1) % 2 ^ 64) :
    Answered m (X.reply r st target detail data) t r rest c (replyBytes r st target detail data) where
  queue := (only_reply X r st target detail data .queue (by decide)).trans hq
  now := (only_reply X r st target detail data .now (by decide)).trans hk
  requests := by
    rw [← hr]
    unfold Module.reply Module.ctr
    rw [cnt_sendUdp _ hp (by decide)]
    show mGetD (if st = 0 then X else X.count 0x1010 0x0C 1).od.cnt _ 0 = _
    split
    · rfl
    · exact (cnt_countI _ _ _ _ _ _).trans (if_neg (by decide))
  client := reply_client hc st target detail data
  out := by
    intro hn
    unfold Module.reply
    rw [sendUdp_out, ← ho]
    · split <;> rfl
    · split <;> simpa [ha] using hn

/-- A reply of status 0 is quiet when what ran before it was. -/
theorem quiet_reply {m X : Module} {r : VReq} (target detail : Nat) (data : Bytes) (hp : r.port ≤ 4)
    (ho : ∀ q : VReq, (q.port, q.addr, q.udp) ≠ (r.port, r.addr, r.udp) → X.client q = m.client q)
    (hc : ∀ k, k ≠ odKey 0x1010 0x0B 0 → mGetD X.od.cnt k 0 = mGetD m.od.cnt k 0) : Quiet m (X.reply r 0 target detail data) r where
  others := by
    intro q hq
    rw [← ho q hq]
    unfold Module.reply
    rw [client_congr (only_sendUdp _ _ _ _ _ .clients (by decide))]
    refine client_onClient_ne hq _ ?_
    intro c; exact ⟨rfl, rfl, rfl⟩
  counters := by
    intro k h1 h2
    rw [← hc k h1]
    unfold Module.reply
    rw [cnt_sendUdp _ hp h2]
    rfl

/-- A request that the supervisor takes runs. -/
theorem serve_taken {m : Module} {t : Nat} {r : VReq} {c : Client} {rest : List VReq} (h : Served m t r c rest)
    {ok : VReq → Bytes → Bool} (hok : ok r (r.value c) = true) (run : Module → VReq → Client → Module) :
    m.serve t ok run = run (m.executing t rest) r c := by
  have hcl : (m.at t).client r = some c := h.client
  have hf : (m.at t).placing = false := h.free
  have hq : (m.at t).vilur.queue = r :: rest := h.front
  unfold Module.serve
  simp only [hq, hcl, hf, hok, h.unseen]
  rfl

theorem executing_now {m : Module} {t : Nat} {r : VReq} {c : Client} {rest : List VReq} (h : Served m t r c rest) :
    (m.executing t rest).clock.now = t := Nat.max_eq_right h.time

theorem executing_cnt (m : Module) (t : Nat) (rest : List VReq) (k : Nat) : mGetD (m.executing t rest).od.cnt k 0
    = if k = odKey 0x1010 0x0B 0 then (mGetD m.od.cnt k 0 + 1) % 2 ^ 64 else mGetD m.od.cnt k 0 := cnt_countI _ _ _ _ _ _

theorem executing_requests (m : Module) (t : Nat) (rest : List VReq) :
    (m.executing t rest).ctr 0x1010 0x0B = (m.ctr 0x1010 0x0B + 1) % 2 ^ 64 := (executing_cnt m t rest _).trans (if_pos rfl)

@[simp] theorem executing_queue (m : Module) (t : Nat) (rest : List VReq) : (m.executing t rest).vilur.queue = rest := rfl
@[simp] theorem executing_client (m : Module) (t : Nat) (rest : List VReq) (r : VReq) : (m.executing t rest).client r = m.client r := rfl
@[simp] theorem executing_out (m : Module) (t : Nat) (rest : List VReq) : (m.executing t rest).out = m.out := rfl
@[simp] theorem executing_armed (m : Module) (t : Nat) (rest : List VReq) : (m.executing t rest).health.armed = m.health.armed := rfl

/-- The reply that ends a request taken from the queue, after a change of its client. -/
theorem answered_client {m : Module} {t : Nat} {r : VReq} {c : Client} {rest : List VReq} (h : Served m t r c rest)
    (f : Client → Client) (hf : ∀ c, (f c).port = c.port ∧ (f c).addr = c.addr ∧ (f c).udp = c.udp) (st target detail : Nat) (data : Bytes) :
    Answered m (((m.executing t rest).onClient r f).reply r st target detail data) t r rest (f c) (replyBytes r st target detail data) :=
  answered_reply st target detail data h.port rfl (executing_now h) (client_onClient h.client f hf) rfl rfl (executing_requests m t rest)

theorem quiet_client {m : Module} {t : Nat} {r : VReq} {c : Client} {rest : List VReq} (h : Served m t r c rest)
    (f : Client → Client) (hf : ∀ c, (f c).port = c.port ∧ (f c).addr = c.addr ∧ (f c).udp = c.udp) (target detail : Nat) (data : Bytes) :
    Quiet m (((m.executing t rest).onClient r f).reply r 0 target detail data) r :=
  quiet_reply target detail data h.port (fun _ hq => client_onClient_ne hq f hf) (fun k hk => (executing_cnt m t rest k).trans (if_neg hk))

/-- The reply that ends a request taken from the queue. -/
theorem answered_taken {m : Module} {t : Nat} {r : VReq} {c : Client} {rest : List VReq} (h : Served m t r c rest)
    (st target detail : Nat) (data : Bytes) :
    Answered m ((m.executing t rest).reply r st target detail data) t r rest c (replyBytes r st target detail data) :=
  answered_reply st target detail data h.port rfl (executing_now h) h.client rfl rfl (executing_requests m t rest)

theorem quiet_taken {m : Module} {t : Nat} {r : VReq} {c : Client} {rest : List VReq} (h : Served m t r c rest)
    (target detail : Nat) (data : Bytes) : Quiet m ((m.executing t rest).reply r 0 target detail data) r :=
  quiet_reply target detail data h.port (fun _ _ => rfl) (fun k hk => (executing_cnt m t rest k).trans (if_neg hk))

/-- A write whose checks pass runs. -/
theorem checked_pass {m : Module} {r : VReq} {c : Client} {o : Obj} {v : Bytes} (h : Writes m r c o v)
    (run : Module → Obj → Bytes → Module) : m.checked r c run = run m o v := by
  unfold Module.checked; simp [h.value, h.checks]

end Sys2Proof
end

