-- ==== Sys2Proof/Tests/Slice0.lean ====
section
/-! SUPPORT. The model's own tests: an ill-formed command for each check of WellFormed, which is refused; a witness for the
hypotheses of each statement, on small concrete states; and tests of single commands on values taken from the spec. -/

open Sys2Proof Sys2Proof.Machine

set_option Elab.async false

namespace Sys2Proof.Tests

/-! ## States and requests -/

/-- A client on the management port that holds Maintain. -/
def tClient : Client := { port := 4, addr := 0xFFFF0A140005, udp := 40000, unlockEnd := some (10 ^ 18) }
/-- A request of that client. -/
def rq (op : Nat) (f : VReq → VReq := id) : VReq := f { port := 4, addr := 0xFFFF0A140005, udp := 40000, seq := 7, opcode := op }
/-- A WRITE request. -/
def wr (i sb : Nat) (v : Bytes) (tg : Nat := 0) : VReq := rq 3 (fun r => { r with index := i, sub := sb, data := v, target := tg })
/-- Change the module of a state. -/
def onM (s : State) (f : Module → Module) : State := { s with m := f s.m }
/-- A state whose supervisor has that request, and that client, before it. -/
def serve (s : State) (r : VReq) (c : Client := tClient) : State :=
  onM s (fun m => { m with vilur := { m.vilur with clients := [c], queue := [r] } })
/-- A module in service with its rails up: frame 100 of a grid that began at time 0. -/
def live : State := onM State.reset (fun m => { m with
  boot := { m.boot with startState := 2 }
  clock := { m.clock with ticked := true, sfc := 100, timeState := 2, now := 25000010, baseNs := 0, baseSfc := 0 }
  power := { m.power with mainOn := true, pwrgd := true, p54 := 54000, sb := 3300, sbSince := some 0 } })
/-- A time in frame 100. -/
def T : Nat := 25000020

/-- Served as a check that runs. -/
def servedB (m : Module) (t : Nat) (r : VReq) (c : Client) : Bool :=
  decide (m.vilur.queue = [r] ∧ m.client r = some c ∧ m.placing = false ∧ mGet c.kept r.seq = none ∧ m.clock.now ≤ t ∧ r.port ≤ 4)

theorem served_of {m : Module} {t : Nat} {r : VReq} {c : Client} (h : servedB m t r c = true) : Served m t r c [] := by
  have h := of_decide_eq_true h
  exact ⟨h.1, h.2.1, h.2.2.1, h.2.2.2.1, h.2.2.2.2.1, h.2.2.2.2.2⟩

/-- The state s with request r of client c before the supervisor meets Served at T, and a condition on the request. -/
def Ask (s : State) (r : VReq) (c : Client) (p : Module → Bool) : Prop :=
  Served (serve s r c).m T r c [] ∧ p (serve s r c).m = true

theorem ask_of {s : State} {r : VReq} {c : Client} {p : Module → Bool} (h : (servedB (serve s r c).m T r c && p (serve s r c).m) = true) :
    Ask s r c p := by
  rw [Bool.and_eq_true] at h
  exact ⟨served_of h.1, h.2⟩

/-- The same of a request that writes object o with value v and passes the checks of R450, with a condition on o, v and the
module as it executes the request. -/
def Put (s : State) (r : VReq) (c : Client) (p : Obj → Bytes → Module → Bool) : Prop :=
  ∃ o v, Served (serve s r c).m T r c [] ∧ Writes ((serve s r c).m.executing T []) r c o v ∧ p o v ((serve s r c).m.executing T []) = true

/-- Put as a check that runs. -/
def putB (s : State) (r : VReq) (c : Client) (p : Obj → Bytes → Module → Bool) : Bool :=
  let m := (serve s r c).m
  let e := m.executing T []
  let w := e.writeCheck r c (r.value c)
  servedB m T r c && w.1 == 0 && p w.2 (r.value c) e

theorem put_of {s : State} {r : VReq} {c : Client} {p : Obj → Bytes → Module → Bool} (h : putB s r c p = true) : Put s r c p := by
  simp only [putB, Bool.and_eq_true, beq_iff_eq] at h
  exact ⟨_, _, served_of h.1.1, ⟨rfl, Prod.ext h.1.2 rfl⟩, h.2⟩

/-! ## Witnesses: the Vilur protocol -/

/-- A step of a queue of two commands, and an empty queue. -/
theorem witness_StepRunsFrontCommand :
    { live with pending := [.ping T, .lock T] }.pending = .ping T :: [.lock T] ∧ live.pending = [] := ⟨rfl, rfl⟩

/-- A next state, a refusal of an ill-formed command, and a well-formed command. -/
theorem witness_StepsTakeOneCommand :
    isNext (step { live with pending := [.ping T] }) = true
    ∧ step { live with pending := [.lateVerdict T 0 []] } = .refused (.illFormed "LATE_VERDICT")
    ∧ (Instr.ping T).wellFormed = true := by
  refine ⟨by decide +kernel, ?_, by decide⟩
  rfl

/-- PING, LOCK, STAGE within 16,384 bytes (to the last byte) and past them (by one), CHALLENGE. -/
theorem witness_ClientRequestsComplete :
    Ask live (rq 11) tClient (fun _ => true) ∧ Ask live (rq 8) tClient (fun _ => true)
    ∧ Ask live (rq 4 (fun r => { r with data := [1, 2, 3], arg := 16381 })) tClient (fun _ => decide (16381 + 3 ≤ 16384))
    ∧ Ask live (rq 4 (fun r => { r with data := [1, 2, 3], arg := 16382 })) tClient (fun _ => decide (16384 < 16382 + 3))
    ∧ Ask live (rq 6) tClient (fun _ => true) := by
  refine ⟨?_, ?_, ?_, ?_, ?_⟩ <;> exact ask_of (by decide +kernel)

/-- A client with subscriptions under these numbers. -/
def subbed (l : List Nat) : Client := { tClient with subs := l.map (fun n => { num := n }) }
/-- A datagram of a request: OPCODE, ARG, and VERSION 1. -/
def datagram (op arg : Nat) : Bytes := toLe 32 (put op 8 0 + put 1 8 16 + put 3 32 32 + put arg 32 192 + put 0x4C56 16 240)

/-- SUBSCRIBE with number 1 the lowest that is free; with none free; UNSUBSCRIBE; and UNSUBSCRIBE of number 4 as it comes in. -/
theorem witness_SubscriptionsAreFour :
    Ask live (rq 9) (subbed [0, 2]) (fun _ => (subbed [0, 2]).subs.all (fun x => x.num != 1) && (subbed [0, 2]).subs.any (fun x => x.num == 0))
    ∧ Ask live (rq 9) (subbed [0, 1, 2, 3]) (fun _ => (List.range 4).all (fun i => (subbed [0, 1, 2, 3]).subs.any (fun x => x.num == i)))
    ∧ Ask live (rq 10 (fun r => { r with arg := 2 })) (subbed [0, 2]) (fun _ => true)
    ∧ (let s := onM live (fun m => { m with vilur := { m.vilur with clients := [subbed [0, 2]] } })
       let bs := datagram 10 4
       let h := leAt bs 0 32
       let r := vilurRequest 4 0xFFFF0A140005 40000 h (bs.drop 32)
       s.m.clock.now ≤ T ∧ (Instr.vilurDatagram T 4 0xFFFF0A140005 40000 bs).wellFormed = true ∧ 32 ≤ bs.length
         ∧ s.m.health.armed = false ∧ fld h 255 240 = 0x4C56 ∧ bs.length = vilurExpected h ∧ fld h 23 16 = 1 ∧ fld h 7 0 = 10
         ∧ 3 < r.arg ∧ s.m.client r = some (subbed [0, 2]) ∧ mGet (subbed [0, 2]).kept r.seq = none) := by
  refine ⟨?_, ?_, ?_, by decide +kernel⟩ <;> exact ask_of (by decide +kernel)

/-- A client with a reply kept under SEQ 7. -/
def keeps : Client := { tClient with kept := [(7, [1, 2])] }

/-- Each of the nine requests that the supervisor executes of no object, with a kept reply. -/
theorem witness_KeptReplyIsResent : ∀ op ∈ [11, 8, 4, 9, 10, 6, 7, 1, 2],
    let m := (serve live (rq op) keeps).m
    m.vilur.queue = [rq op] ∧ m.client (rq op) = some keeps ∧ m.placing = false ∧ m.clock.now ≤ T ∧ (rq op).port ≤ 4
      ∧ mGet keeps.kept (rq op).seq = some [1, 2] := by decide +kernel

/-- UNLOCK. -/
theorem witness_UnlockChecksTheToken : Ask live (rq 7) tClient (fun _ => true) := ask_of (by decide +kernel)

/-- A READ, also with SNAPSHOT at ARG 0 and 8, and a READ_PENDING. -/
def rd (op i sb : Nat) (snap : Bool := false) (arg : Nat := 0) : VReq :=
  rq op (fun r => { r with index := i, sub := sb, snap := snap, arg := arg, len := 8 })

theorem witness_ReadsComplete :
    ∀ r ∈ [rd 1 0x1010 4, rd 1 0x1010 4 true, rd 2 0x1010 4, rd 1 0x1010 4 true 8],
      Ask live r tClient (fun m => (findObj r.index r.sub).any (fun o => decide (o.access < 3) && decide (((m.executing T []).odValue tClient o).length ≤ 16384))) := by
  intro r hr
  simp only [List.mem_cons, List.not_mem_nil, or_false] at hr
  rcases hr with rfl | rfl | rfl | rfl <;> exact ask_of (by decide +kernel)

/-- A write to no object, to no subindex, to a read-only object, of a client without the level, of a wrong length, and out
of range. -/
theorem witness_WriteChecksInOrder :
    let who : Client := { tClient with unlockEnd := none }
    Ask live (wr 0x1234 1 []) tClient (fun _ => !(wr 0x1234 1 []).ownRow [] && !objIndices.contains 0x1234)
    ∧ Ask live (wr 0x1000 0x55 []) tClient (fun _ => !(wr 0x1000 0x55 []).ownRow [] && objIndices.contains 0x1000 && (findObj 0x1000 0x55).isNone)
    ∧ Ask live (wr 0x1000 1 []) tClient (fun _ => !(wr 0x1000 1 []).ownRow [] && (findObj 0x1000 1).any (fun o => o.access == 0))
    ∧ Ask live (wr 0x1010 4 [9, 0]) who (fun m => (findObj 0x1010 4).any (fun o => o.access != 0 && decide (m.baseLevel who.port who.addr < o.level)))
    ∧ Ask live (wr 0x1010 4 [9]) tClient (fun _ => (findObj 0x1010 4).any (fun o => o.access != 0 && decide (o.level ≤ 2) && !o.lengthOk [9]))
    ∧ Ask live (wr 0x1010 4 [0xFF, 0xFF]) tClient (fun m => (findObj 0x1010 4).any (fun o => o.access != 0 && decide (o.level ≤ 2)
        && o.lengthOk [0xFF, 0xFF] && !(m.executing T []).rangeOk o [0xFF, 0xFF])) := by
  refine ⟨?_, ?_, ?_, ?_, ?_, ?_⟩ <;> exact ask_of (by decide +kernel)

/-- The value that a request writes is one of an object with no row of its own; r at the first frame that is open and at a
named one. -/
def plainPut (r : VReq) (eff : Nat) (o : Obj) (v : Bytes) : Bool := !r.ownRow v && !o.selector && o.effect == eff && (r.target == 0 || eff != 1)

/-- A selector; an Immediate value; an at-tick value at the first open frame, at a named frame and too early; a value with
a lead. -/
theorem witness_WritesTakeEffectAtTheirPoint :
    Put live (wr 0x1200 0x10 (toLe 4 9)) tClient (fun o v _ => !(wr 0x1200 0x10 []).ownRow v && o.selector)
    ∧ Put live (wr 0x1010 4 [9, 0]) tClient (fun o v _ => plainPut (wr 0x1010 4 []) 1 o v)
    ∧ Put live (wr 0x2100 1 (toLe 2 9)) tClient (fun o v m => plainPut (wr 0x2100 1 []) 2 o v && !m.hostFull
        && m.defaultFits o m.clock.firstFrame v)
    ∧ Put live (wr 0x3000 1 [2] 101) tClient (fun o v m => plainPut (wr 0x3000 1 [] 101) 2 o v && decide (m.clock.firstFrame ≤ 101) && !m.hostFull)
    ∧ Put live (wr 0x3000 1 [2] 100) tClient (fun o v m => plainPut (wr 0x3000 1 [] 100) 2 o v && decide (100 < m.clock.firstFrame))
    ∧ Put live (wr 0x3200 8 (toLe 2 17) 110) tClient (fun o v m => plainPut (wr 0x3200 8 [] 110) 4 o v && m.leadOk 110 (m.depthAt 110) && !m.hostFull
        && (m.place { key := odKey o.index o.sub 0, value := v, target := 110, host := true }).grantsOk 110) := by
  refine ⟨?_, ?_, ?_, ?_, ?_, ?_⟩ <;> exact put_of (by decide +kernel)
/-- Sessions on two ports, and cascade ports in service and disabled. -/
def ported : State := onM live (fun m => { m with
  ports := { m.ports with sessions := [(0, { port := 0, state := 2 }), (1, { port := 1, state := 2 }), (2, { port := 0, v6 := true, state := 2 })] }
  cascade := { m.cascade with ports := [(0, { state := 3 }), (1, { state := 0 })] } })

/-- PHY_MODE, PORT_ENABLE, an IPv4 address that changes and one that does not, an IPv6 address; the cascade's PORT_ENABLE at
0 and at 1. -/
theorem witness_PortWritesActOnThePorts :
    (∀ p ∈ [(3, [1]), (4, [0]), (6, toLe 4 9), (6, toLe 4 0), (9, toLe 16 1)], Put ported (wr 0x4100 p.1 p.2) tClient (fun o v _ =>
        plainPut (wr 0x4100 p.1 []) 1 o v))
    ∧ (∀ v ∈ [[0], [1]], Put ported (wr 0x4200 8 v) tClient (fun o v _ => plainPut (wr 0x4200 8 []) 1 o v))
    ∧ mGet ported.m.ports.sessions 0 = some { port := 0, state := 2 } ∧ mGet ported.m.ports.sessions 2 = some { port := 0, v6 := true, state := 2 } := by
  refine ⟨?_, ?_, rfl, rfl⟩
  · intro p hp
    simp only [List.mem_cons, List.not_mem_nil, or_false] at hp
    rcases hp with rfl | rfl | rfl | rfl | rfl <;> exact put_of (by decide +kernel)
  · intro v hv
    simp only [List.mem_cons, List.not_mem_nil, or_false] at hv
    rcases hv with rfl | rfl <;> exact put_of (by decide +kernel)

/-- LOCK_ALL at 1 and at 0; and a module time to come. -/
theorem witness_MaintainAndClientsEnd :
    (∀ v ∈ [[1], [0]], Put live (wr 0x1010 9 v) tClient (fun _ _ _ => (wr 0x1010 9 v).writes 0x1010 0x09)) ∧ live.m.clock.now ≤ T := by
  refine ⟨?_, by decide⟩
  intro v hv
  simp only [List.mem_cons, List.not_mem_nil, or_false] at hv
  rcases hv with rfl | rfl <;> exact put_of (by decide +kernel)

/-- A record of an event at a time. -/
def rec_ (t : Nat) : EventRec := { source := 1, code := 1, seq := 1, sfc := 1, time := t, data := 0 }

/-- Records to send, and none; a thousand datagrams already sent. -/
theorem witness_NotifySendsEventRecords :
    let c := fun (q : List EventRec) (n : Nat) => { tClient with subs := [{ num := 1, queue := q }], sent := List.replicate n T }
    ∀ x ∈ ([([rec_ 5, rec_ T], 3), ([], 0), ([rec_ T], 1000)] : List (List EventRec × Nat)),
      let s := onM live (fun m => { m with vilur := { m.vilur with clients := [c x.1 x.2] } })
      s.m.clock.now ≤ T + 1000000000 - 1 ∧ (c x.1 x.2).port ≤ 4 ∧ s.m.vilur.clients[0]? = some (c x.1 x.2)
        ∧ (c x.1 x.2).subs.find? (fun y => y.num == 1) = some { num := 1, queue := x.1 } := by decide +kernel

/-- A datagram too short by a byte, one of another MAGIC, one longer than its LENGTH says; and one in good form, on the
management port of a module that does not know its client. -/
theorem witness_DatagramsQueueRequests :
    live.m.clock.now ≤ T ∧ live.m.health.armed = false
    ∧ (∀ bs ∈ [(datagram 11 0).take 31, zeros 32, datagram 11 0 ++ [0]], (Instr.vilurDatagram T 4 1 2 bs).wellFormed = true
        ∧ (bs.length < 32 ∨ fld (leAt bs 0 32) 255 240 ≠ 0x4C56 ∨ bs.length ≠ vilurExpected (leAt bs 0 32)))
    ∧ (let bs := datagram 11 0
       let h := leAt bs 0 32
       (Instr.vilurDatagram T 4 1 2 bs).wellFormed = true ∧ 32 ≤ bs.length ∧ fld h 255 240 = 0x4C56 ∧ bs.length = vilurExpected h
         ∧ fld h 23 16 = 1 ∧ vilurMalformed h (bs.drop 32) = false ∧ live.m.vilur.queue.length < 256 ∧ live.m.vilur.clients.length < 64) := by
  decide +kernel

/-! ## Witnesses: time -/

/-- A module in service with this clock. -/
def ck (f : Clock → Clock) : State := onM live (fun m => { m with clock := f m.clock })
/-- A value in force. -/
def cfgd (s : State) (i sb : Nat) (v : Bytes) (inst : Nat := 0) : State := onM s (fun m => m.setCfg i sb inst v)
/-- One second, in ns. -/
def S1 : Nat := 1000000000

/-- Loss of Sync from LOCKED and from LOCKING; the end of HOLDOVER; 10 s without a lock; an offset above the threshold; a
pulse while LOCKED, in FREE near the second and far from it; a whole second with PPS_OUT enabled. -/
theorem witness_TimeRowsComplete :
    (∀ st ∈ [2, 1], let m := (ck (fun c => { c with timeState := st, lastSync := 0 })).m
      m.clock.now ≤ 5 * S1 ∧ m.timeSource ≠ 2 ∧ m.clock.lastSync + 4 * m.syncInterval ≤ 5 * S1 ∧ m.clock.timeState = st ∧ m.clock.ticked = true)
    ∧ (let m := (ck (fun c => { c with timeState := 3, lastSync := 0 })).m
       m.clock.now ≤ 10 ^ 15 ∧ m.clock.timeState = 3 ∧ m.cfg 0x1100 0x15 * 1000000000 < 40000000000 + 100 * (10 ^ 15 - m.clock.lastSync))
    ∧ (let m := (ck (fun c => { c with timeState := 1, ticked := false, fwStart := 0 })).m
       m.clock.now ≤ 10 * S1 ∧ 1 ≤ m.boot.startState ∧ m.clock.timeState ≤ 1 ∧ m.clock.ticked = false ∧ m.clock.fwStart + 10000000000 ≤ 10 * S1)
    ∧ (∀ off ∈ [(1000001 : Int), -1000001], let m := (ck (fun c => { c with offset := off })).m
       m.clock.now ≤ T ∧ m.clock.ticked = true ∧ m.clock.drainStep = none ∧ ((m.cfg 0x1100 0x16 : Int) < m.clock.offset ∨ m.clock.offset < -(m.cfg 0x1100 0x16 : Int)))
    ∧ (let m := live.m
       m.clock.now ≤ S1 ∧ (∀ e, m.clock.ppsEdge = some e → e + 500000000 ≤ S1) ∧ (m.cfg 0x1100 0x14 ≠ 1 ∨ m.clock.timeState < 3))
    ∧ (let m := (cfgd (ck (fun c => { c with timeState := 4, ppsEdge := some 500000000 })) 0x1100 0x14 [1]).m
       m.clock.now ≤ S1 ∧ (∀ e ∈ m.clock.ppsEdge, e + 500000000 ≤ S1) ∧ m.cfg 0x1100 0x14 = 1 ∧ 3 ≤ m.clock.timeState
         ∧ (S1 % 1000000000 : Int) ≤ m.cfg 0x1100 0x16 ∧ (m.cfg 0x1100 0x16 : Int) < ((S1 + 300000000) % 1000000000 : Nat))
    ∧ (let m := (cfgd live 0x1100 0x13 [1]).m
       m.clock.now ≤ S1 ∧ m.cfgB 0x1100 0x13 = true ∧ S1 % 1000000000 = 0) := by
  refine ⟨by decide +kernel, by decide +kernel, by decide +kernel, by decide +kernel, ⟨by decide +kernel, ?_, by decide +kernel⟩,
    by decide +kernel, by decide +kernel⟩
  intro e h
  cases h

/-- A Sync and a Follow_Up of the module's PTP port that give the offsets 0 and 41 ns to a receiver, with 15 intervals run and
with none; and one that gives 2 ms before the first tick. -/
theorem witness_SyncsGovernTheOffset :
    (∀ n ∈ [0, 14, 15], ∀ st ∈ [0, 1, 2], let m := (ck (fun c => { c with timeState := st, inRun := n, outRun := n })).m
      m.clock.now ≤ T ∧ m.timeSource = 0 ∧ m.ptpMine 0 0 = true ∧ m.ptpReceives = true ∧ m.clock.ticked = true
        ∧ (T : Int) - T - m.clock.ptpDelay = 0 ∧ (T : Int) - (T - 41 : Nat) - m.clock.ptpDelay = 41)
    ∧ (let m := (ck (fun c => { c with ticked := false })).m
       m.clock.now ≤ T ∧ m.timeSource = 0 ∧ m.ptpMine 0 0 = true ∧ m.ptpReceives = true ∧ m.clock.ticked = false
         ∧ (m.cfg 0x1100 0x16 : Int) < (T : Int) - (T - 2000000 : Nat) - m.clock.ptpDelay) := by decide +kernel

/-- A transmitter, a receiver with a Delay_Req under way, a first Announce, one of the standing best, and a better one. -/
theorem witness_PtpMessagesComplete :
    (let m := (cfgd live 0x1100 0x0B [2]).m
     m.clock.now ≤ T ∧ m.ptpMine 0 0 = true ∧ m.ptpReceives = false)
    ∧ (let m := (ck (fun c => { c with ptpT1 := some 10 })).m
       m.clock.now ≤ T ∧ m.ptpMine 0 0 = true ∧ m.ptpReceives = true ∧ m.clock.ptpT1 = some 10 ∧ m.timeSource = 0)
    ∧ live.m.clock.best = none ∧ (⟨1, 2, 3, 4⟩ : BestMaster).identity = 4 ∧ (⟨1, 2, 3, 4⟩ : BestMaster).beats ⟨2, 2, 3, 9⟩ = true := by
  decide +kernel

/-! ## Witnesses: power, start and reset -/

/-- A module with these rails. -/
def pw (f : Power → Power) (s : State := live) : State := onM s (fun m => { m with power := f m.power })

/-- P54V at both ends of its range with standby present for 100 ms; standby at both ends of its range; its loss with and
without main conversion; a running module, with a reset pulse of 10 us and a sensor at 110.0 °C. -/
theorem witness_PowerRowsComplete :
    (let m := (pw (fun p => { p with mainOn := false })).m
     m.clock.now ≤ 100000000 ∧ m.power.mainOn = false ∧ 48000 ≤ 48000 ∧ 60000 ≤ 60000 ∧ m.power.sbSince = some 0 ∧ 0 + 100000000 ≤ 100000000)
    ∧ (pw (fun p => { p with sbSince := none })).m.power.sbSince = none
    ∧ live.m.power.sbSince ≠ none ∧ live.m.power.mainOn = true ∧ (pw (fun p => { p with mainOn := false })).m.power.mainOn = false
    ∧ live.m.clock.now ≤ T ∧ live.m.running = true ∧ 48000 ≤ live.m.power.p54 ∧ live.m.power.p54 ≤ 60000
    ∧ (let temps : List Int := List.replicate 3 250 ++ [1100] ++ List.replicate 16 1200
       temps.length = 20 ∧ temps[3]? = some 1100 ∧ (∀ j < 3, temps[j]? = some 250)) := by decide +kernel

/-- A start that is due. -/
theorem witness_StartRestoresTheModule :
    let m := (onM live (fun m => { m with boot := { m.boot with nextCause := some 0 } })).m
    m.power.mainOn = true ∧ m.power.rstL = true ∧ m.boot.nextCause = some 0 := by decide +kernel

/-- A running module; a code that no longer checks; a first fault reset that is due. -/
theorem witness_FaultResetsComplete :
    live.m.clock.now ≤ T ∧ live.m.running = true
    ∧ live.m.boot.comps.getD 1 [] ≠ [1]
    ∧ (onM live (fun m => { m with health := { m.health with faultDue := true } })).m.health.faultDue = true := by decide +kernel

/-- RESET 1, RESET 2 and FACTORY_RESET, of a module that has ticked and of one that has not. -/
theorem witness_ResetWritesComplete :
    ∀ tk ∈ [true, false], let s := ck (fun c => { c with ticked := tk })
      Put s (wr 0x5100 5 [1]) tClient (fun _ v m => (wr 0x5100 5 [1]).writes 0x5100 0x05 && v == [1] && m.clock.ticked == tk)
      ∧ Put s (wr 0x5100 5 [2]) tClient (fun _ v _ => (wr 0x5100 5 [2]).writes 0x5100 0x05 && v == [2])
      ∧ Put s (wr 0x5100 8 (toLe 1 7)) tClient (fun _ _ m => (wr 0x5100 8 [7]).writes 0x5100 0x08 && m.clock.ticked == tk) := by
  intro tk htk
  simp only [List.mem_cons, List.not_mem_nil, or_false] at htk
  rcases htk with rfl | rfl <;> exact ⟨put_of (by decide +kernel), put_of (by decide +kernel), put_of (by decide +kernel)⟩

/-! ## Witnesses: the clock step, heat and the SMBus -/

/-- THERM_L asserted; INPUT_POWER above 105 % of the cap by a watt; P54V at 42 V and just below 47 V; a CAP_LIMIT below the
caps; and an emergency step whose causes are calm long enough. -/
theorem witness_EmergencyStepsComplete :
    live.m.clock.now ≤ T
    ∧ (pw (fun p => { p with therm := true })).m.power.therm = true
    ∧ (let p := live.m.power
       105 * min p.cap p.capLimit < 100 * 998 ∧ 42000 ≤ 42000 ∧ 46999 < 47000)
    ∧ (let m := (pw (fun p => { p with capLimit := 800 })).m
       m.power.capLimit < min m.power.cap m.power.limit ∧ m.limitPending = false)
    ∧ (let m := (pw (fun p => { p with emergency := 2, calmSince := some 5, hold := 0 })).m
       m.power.emergency ≠ 0 ∧ m.power.therm = false ∧ m.power.restoreDue = false ∧ (m.at T).leadFrame < 2 ^ 64
         ∧ m.power.calmSince = some 5 ∧ 5 + m.power.hold * 1000000000 ≤ T) := by decide +kernel

/-- Twenty sensors at 30 °C, but for one. -/
def temps (i : Nat) (x : Int) : List Int := (List.replicate 20 300).set i x

/-- A die at 100.0 °C, the inlet above 50 °C, all cool, and neither. -/
theorem witness_ThermalAlertHasHysteresis :
    (temps 15 1000).length = 20 ∧ (temps 15 1000)[15]? = some 1000 ∧ (temps 16 501)[16]? = some 501
    ∧ (∀ k < 16, ∀ x ∈ (temps 0 949)[k]?, x < 950) ∧ (∀ x ∈ (temps 16 480)[16]?, x ≤ 480) ∧ live.m.mem.hotPackages = []
    ∧ (∀ k < 16, ∀ x ∈ (temps 0 999)[k]?, x < 1000) ∧ (temps 0 999)[0]? = some 999
    ∧ live.m.power.therm = false ∧ (pw (fun p => { p with therm := true })).m.power.therm = true := by decide +kernel

/-- Standby present, with the readings of sensors; and CAP_LIMIT written in each case. -/
theorem witness_SmbusRowsComplete :
    live.m.clock.now ≤ T ∧ live.m.power.sbSince ≠ none
    ∧ (let m := (pw (fun p => { p with temps := temps 3 700 })).m
       700 ∈ m.power.temps.take 16 ∧ ∀ y ∈ m.power.temps.take 16, y ≤ 700)
    ∧ ¬ (501 = 500 ∨ 501 = 650 ∨ 501 = 800 ∨ 501 = 950)
    ∧ live.m.power.capLimit = 950 ∧ live.m.running = true ∧ 800 < min live.m.power.cap live.m.power.limit
    ∧ (pw (fun p => { p with mainOn := false })).m.running = false
    ∧ (let m := (pw (fun p => { p with capLimit := 650, limit := 650 })).m
       800 ≠ m.power.capLimit ∧ m.running = true ∧ min m.power.cap m.power.limit ≤ 800) := by
  refine ⟨by decide, by decide, by decide +kernel, by decide, ?_⟩
  decide +kernel

/-- A chunk of the key, and a commit in each of its cases; OWNER_CLEAR with RECOVERY_L high and low. -/
theorem witness_SmbusKeyRowsComplete :
    let key : State := pw (fun p => { p with chunks := (List.range 122).map (fun i => (i, zeros 16)) })
    let owned : State := onM live (fun m => { m with boot := { m.boot with ownerKey := [1] } })
    live.m.clock.now ≤ T ∧ live.m.power.sbSince ≠ none ∧ (zeros 17).length = 17 ∧ leAt (zeros 17) 0 1 ≤ 121
      ∧ (Instr.ownerKeyCommit T (zeros 8)).wellFormed = true ∧ (zeros 8).length = 8
      ∧ owned.m.boot.ownerKey ≠ [] ∧ live.m.boot.ownerKey = [] ∧ live.m.power.chunks.length ≠ 122
      ∧ key.m.power.chunks.length = 122 ∧ 1 ≤ key.m.boot.startState ∧ State.reset.m.boot.startState = 0
      ∧ (keyId ((key.m.power.chunks.map (·.2)).flatten)).length = 8
      ∧ live.m.power.recoveryL = true ∧ (pw (fun p => { p with recoveryL := false })).m.power.recoveryL = false := by decide +kernel

/-! ## Witnesses: security -/

/-- A module with an owner key. -/
def owned : State := onM live (fun m => { m with boot := { m.boot with ownerKey := [1, 2, 3] } })

/-- A client with these staged bytes, and a WRITE_STAGED request of n bytes. -/
def staged (b : Bytes) : Client := { tClient with staging := b }
def ws (i sb n : Nat) (tg : Nat := 0) : VReq := rq 5 (fun r => { r with index := i, sub := sb, arg := n, target := tg })

/-- The ownership writes with an owner key and without; OWNER_CLEAR at 1 and at 0; ATTEST_REQUEST and DEBUG_ENABLE. -/
theorem witness_SecurityWritesComplete :
    Put owned (ws 0x5000 4 1952) (staged (zeros 1952)) (fun _ _ m => (ws 0x5000 4 1952).writes 0x5000 0x04 && !m.boot.ownerKey.isEmpty)
    ∧ Put owned (wr 0x5000 5 [1]) tClient (fun _ v m => (wr 0x5000 5 []).writes 0x5000 0x05 && !m.boot.ownerKey.isEmpty && v == [1])
    ∧ Put owned (wr 0x5000 5 [0]) tClient (fun _ v m => (wr 0x5000 5 []).writes 0x5000 0x05 && !m.boot.ownerKey.isEmpty && v != [1])
    ∧ Put live (ws 0x5000 4 1952) (staged (zeros 1952)) (fun _ _ m => m.boot.ownerKey.isEmpty)
    ∧ Put live (wr 0x5000 5 [1]) tClient (fun _ _ m => m.boot.ownerKey.isEmpty)
    ∧ Put live (wr 0x5000 8 (zeros 32)) tClient (fun _ _ _ => (wr 0x5000 8 []).writes 0x5000 0x08)
    ∧ Put live (wr 0x5000 0x10 [1]) tClient (fun _ _ _ => (wr 0x5000 0x10 []).writes 0x5000 0x10) := by
  refine ⟨?_, ?_, ?_, ?_, ?_, ?_, ?_⟩ <;> exact put_of (by decide +kernel)

/-- FW_UPDATE of an image within the Store area, up to its last byte; FW_COMMIT with no image pending, and with one; an
update in its write. -/
theorem witness_FirmwareRowsComplete :
    (let v := fun (m : Module) => toLe 8 0 ++ toLe 8 (m.cfg 0x4300 0x03) ++ zeros 16
     let s := cfgd live 0x4300 3 (toLe 8 65536)
     Put s (wr 0x5000 0x0C (v s.m)) tClient (fun _ v m => (wr 0x5000 0x0C []).writes 0x5000 0x0C && allZero (sub v 16 16)
       && leAt v 0 8 + leAt v 8 8 == m.cfg 0x4300 0x03 && m.boot.updateState != 1 && m.boot.updateState != 2
       && (m.cistern.badIn (leAt v 0 8) (leAt v 8 8)).isNone))
    ∧ Put live (wr 0x5000 0x0E [1]) tClient (fun _ v m => (wr 0x5000 0x0E []).writes 0x5000 0x0E && (m.slotIn 3).isNone && v == [1])
    ∧ Put (onM live (fun m => { m with boot := { m.boot with slots := [{ image := [1], state := 3 }, {}] } })) (wr 0x5000 0x0E [1]) tClient
        (fun _ _ m => (m.slotIn 3).isSome)
    ∧ (onM live (fun m => { m with boot := { m.boot with updateState := 2 } })).m.boot.updateState = 2 := by
  refine ⟨?_, ?_, ?_, rfl⟩ <;> exact put_of (by decide +kernel)

/-! ## Witnesses: health, events and injection -/

/-- A module with this health state. -/
def hl (f : Health → Health) (s : State := live) : State := onM s (fun m => { m with health := f m.health })
/-- A CUTOVER_REQUEST of a tile at a frame, 0 for the first with the lead. -/
def cutv (tile n : Nat) : Bytes := toLe 16 (put tile 9 0 + put n 64 64)

/-- CUTOVER_REQUEST of the last tile at the frame of the lead, and at the first allowed one by name; of a quarantined tile;
without a spare; CLEAR_FAILED and EVENT_QUERY. -/
theorem witness_HealthWritesComplete :
    (∀ p ∈ [(511, 0), (5, 106)], Put live (wr 0x6000 6 (cutv p.1 p.2)) tClient (fun _ _ m =>
      let n := if p.2 = 0 then m.leadFrame else p.2
      (wr 0x6000 6 []).writes 0x6000 0x06 && m.leadOk n (m.depthAt n) && !m.cutPending 0 p.1 && (m.tileHealth p.1).state != 1 && !m.hostFull
        && (m.chooseSpare p.1).isSome))
    ∧ Put (hl (fun h => { h with tiles := [(5, { state := 1 })] })) (wr 0x6000 6 (cutv 5 0)) tClient (fun _ _ m =>
        m.leadOk m.leadFrame (m.depthAt m.leadFrame) && (m.tileHealth 5).state == 1)
    ∧ Put (hl (fun h => { h with failed := [512, 513, 514, 515, 516, 517, 518, 519, 520] ++ List.range 512 })) (wr 0x6000 6 (cutv 5 0)) tClient (fun _ _ m =>
        m.leadOk m.leadFrame (m.depthAt m.leadFrame) && !m.cutPending 0 5 && (m.tileHealth 5).state != 1 && (m.chooseSpare 5).isNone)
    ∧ Put live (wr 0x6000 0x11 [1]) tClient (fun _ v _ => (wr 0x6000 0x11 []).writes 0x6000 0x11 && v == [1])
    ∧ Put live (wr 0x6000 0x16 (toLe 8 (put 1 16 0 + put 4 16 16))) tClient (fun _ _ _ => (wr 0x6000 0x16 []).writes 0x6000 0x16) := by
  refine ⟨?_, ?_, ?_, ?_, ?_⟩
  · intro p hp
    simp only [List.mem_cons, List.not_mem_nil, or_false] at hp
    rcases hp with rfl | rfl <;> exact put_of (by decide +kernel)
  all_goals exact put_of (by decide +kernel)

/-- INJECT_ARM and both INJECTOR_WRITEs at the first open frame and at one that is past; and injectors at their limit. -/
theorem witness_InjectionRowsComplete :
    (∀ n ∈ [0, 101], Put live (wr 0x6100 4 [1] n) tClient (fun _ _ m => (wr 0x6100 4 [] n).writes 0x6100 0x04 && !m.hostFull
        && decide (m.clock.firstFrame ≤ if n = 0 then m.clock.firstFrame else n)))
    ∧ Put live (wr 0x6100 4 [1] 100) tClient (fun _ _ m => decide (100 < m.clock.firstFrame))
    ∧ Put live (ws 0x6100 2 512) (staged (zeros 512)) (fun _ _ m => (ws 0x6100 2 512).writes 0x6100 0x02 && !m.hostFull)
    ∧ Put live (ws 0x6100 3 1536) (staged (zeros 1536)) (fun _ _ m => (ws 0x6100 3 1536).writes 0x6100 0x03 && !m.hostFull)
    ∧ (let m := (cfgd (hl (fun h => { h with armed := true, armSfc := 91 })) 0x6100 5 (toLe 4 9)).m
       m.health.armed = true ∧ m.health.armSfc + m.cfg 0x6100 0x05 ≤ m.clock.sfc) := by
  refine ⟨?_, ?_, ?_, ?_, by decide +kernel⟩
  · intro n hn
    simp only [List.mem_cons, List.not_mem_nil, or_false] at hn
    rcases hn with rfl | rfl <;> exact put_of (by decide +kernel)
  all_goals exact put_of (by decide +kernel)

/-- The first and the last tile, with a spare and without; and the instants before and at the end of a window. -/
theorem witness_HealthTriggersComplete :
    live.m.clock.now ≤ T ∧ (∀ t ∈ [0, 511], (live.m.tileHealth t).state ≠ 1 ∧ (live.m.chooseSpare t).isSome = true) ∧ live.m.streams.sets = []
    ∧ (live.m.unplace (fun a => a.kind == 4)).scheduleFull = false
    ∧ ((hl (fun h => { h with failed := [512, 513, 514, 515, 516, 517, 518, 519, 520] ++ List.range 512 })).m.chooseSpare 0) = none
    ∧ 86400000000000 / 86400000000000 ≠ live.m.health.window ∧ 86399999999999 / 86400000000000 = live.m.health.window := by decide +kernel

/-! ## Witnesses: memory -/

/-- A module with this memory. -/
def mem (f : Mem → Mem) (s : State := live) : State := onM s (fun m => { m with mem := f m.mem })

/-- The first and the last byte of each source's memory; a page and a row one below their limit. -/
theorem witness_CorrectedErrorsOnlyCount :
    let m := (mem (fun x => { x with pageErrors := [(0, live.m.cfg 0x6000 0x0D - 2)], rowErrors := [(0, live.m.cfg 0x6000 0x0C - 2)] })).m
    m.clock.now ≤ T ∧ m.errorAddrOk 0 0 = true ∧ m.errorAddrOk 0 (m.lpddrUsable - 1) = true ∧ m.errorAddrOk 1 0x040000000000 = true
    ∧ m.errorAddrOk 1 (0x040000000000 + 511 * 0x800000 + 0x5FFFFF) = true ∧ m.errorAddrOk 2 (0x040000000000 + 0x600000) = true
    ∧ m.errorAddrOk 3 77 = true
    ∧ mGetD m.mem.pageErrors (pageOf 0) 0 + 1 < m.cfg 0x6000 0x0D ∧ ¬ mGetD m.mem.pageErrors (pageOf 0) 0 + 2 < m.cfg 0x6000 0x0D
    ∧ mGetD m.mem.rowErrors 0 0 + 1 < m.cfg 0x6000 0x0C ∧ ¬ mGetD m.mem.rowErrors 0 0 + 2 < m.cfg 0x6000 0x0C := by decide +kernel

/-- The first and the last byte, with a page's retirement planned and not, and with a spare page left. -/
theorem witness_UncorrectableErrorsPoison :
    (∀ a ∈ [0, live.m.lpddrUsable - 1], let m := live.m
      m.clock.now ≤ T ∧ m.errorAddrOk 0 a = true ∧ (∀ b ∈ m.lotBases, ¬ (b.2 ≤ a / 64 * 64 ∧ a / 64 * 64 < b.2 + b.1.space))
        ∧ a / 64 * 64 < 2 ^ 64 ∧ m.cutPending 3 (pageOf (a / 64 * 64)) = false ∧ m.scheduleFull = false
        ∧ mGetD m.mem.sparePages (pageOf (a / 64 * 64) % 32) 0 < m.packagePages)
    ∧ (let s := onM live (fun m => { m with schedule := [{ kind := 4, part := partOf 3 (pageOf 0) 0, target := 110 }] })
       s.m.cutPending 3 (pageOf 0) = true) := by decide +kernel

/-- A scrub and a poll at T; LPDDR5X before its initialisation and after; the largest user region that leaves room for the
managed state and the next size up; a region that ends with the last reservation and one that cuts it; a reserve that
reaches a context's region and one that cuts it. -/
theorem witness_MemoryRowsComplete :
    let G := 1073741824
    let ready := mem (fun x => { x with ready := true })
    let lent := mem (fun x => { x with reserved := [(G, G, 1)] })
    let held := onM live (fun m => { m with tiles := [(3, { ctxs := [(2, { region := 524288, bytes := 65536 })] })] })
    live.m.clock.now ≤ T ∧ live.m.mem.ready = false ∧ ready.m.mem.ready = true
    ∧ Put live (wr 0x4000 3 (toLe 8 (1907 * G))) tClient (fun _ v m => (wr 0x4000 3 []).writes 0x4000 0x03 && m.regionFits (leNat v))
    ∧ Put live (wr 0x4000 3 (toLe 8 (1908 * G))) tClient (fun _ v m => !m.regionFits (leNat v))
    ∧ Put lent (wr 0x4000 3 (toLe 8 (2 * G))) tClient (fun _ v m => m.regionFits (leNat v))
    ∧ Put lent (wr 0x4000 3 (toLe 8 G)) tClient (fun _ v m => !m.regionFits (leNat v))
    ∧ Put held (wr 0x2000 0x12 (toLe 4 589824)) tClient (fun _ v m => (wr 0x2000 0x12 []).writes 0x2000 0x12 && m.reserveFits (leNat v))
    ∧ Put held (wr 0x2000 0x12 (toLe 4 524288)) tClient (fun _ v m => !m.reserveFits (leNat v)) := by
  refine ⟨by decide +kernel, rfl, rfl, ?_, ?_, ?_, ?_, ?_, ?_⟩ <;> exact put_of (by decide +kernel)

/-! ## Witnesses: the Store and the hold-up bank -/

/-- A command of 64 bytes: OPCODE, SLOT, STORE_OFFSET, LENGTH, and FORCE and ATOMIC as flags (15 Table 15-1). -/
def sc (op slot off len flags : Nat) : Bytes :=
  toLe 64 (put op 8 0 + put flags 2 8 + put slot 32 32 + put 0xABC 64 64 + put off 64 128 + put len 32 192 + put 5 32 224 + put 0x1000 64 256)
/-- A Store session with a message. -/
def stSess (b : Bytes) : Session := { typ := 2, port := 1, state := 2, slots := 4, slotBytes := 64, unparsed := [(5, b)], resultAddr := 4096 }
/-- A module with that session as its session 1, a Store area of 2^40 bytes and this Store. -/
def stored (b : Bytes) (f : Cistern → Cistern := id) : State :=
  cfgd (onM live (fun m => { m with ports := { m.ports with sessions := [(1, stSess b)] }, cistern := f m.cistern })) 0x4300 3 (toLe 8 (2 ^ 40))
/-- A journal limit of ten million bytes. -/
def limited (f : Cistern → Cistern := id) (c : Cistern) : Cistern := f { c with limit := 10 ^ 7 }
/-- Two blocks of an older write and one of a younger in the write cache. -/
def blks : List CacheBlock :=
  [{ order := 3, block := 1, data := List.replicate 4096 1 }, { order := 4, block := 1, data := List.replicate 4096 2 },
   { order := 3, block := 2, data := List.replicate 4096 3 }]

/-- Is the session before the parser, with this message first? -/
abbrev parsed (s : State) (b : Bytes) : Prop :=
  s.m.clock.now ≤ T ∧ mGet s.m.ports.sessions 1 = some (stSess b) ∧ (stSess b).unparsed = (5, b) :: [] ∧ s.m.health.armed = false

/-- A command's fetch and completion. -/
def wcmd (flags : Nat) : StoreCmd := { id := 7, session := 1, cmd := sc 0x21 0 4096 8192 flags, inTable := true, started := true, fetching := true }

/-- A message one byte short, one at the first slot past the last; a command to a full table; one with a length that is no
multiple of 4,096; a read that ends one block past the Store area; a read that ends with it, with nothing bad there; a plain, a
Force and an Atomic write of the last slot; data of those writes; and their completion. -/
theorem witness_StoreRowsComplete :
    (∀ b ∈ [zeros 63, sc 0x20 4 4096 8192 0], parsed (stored b) b ∧ (b.length ≠ 64 ∨ (stSess b).slots ≤ scSlot b) ∧ ¬ (b.length = 64 ∧ scOp b = 0x21))
    ∧ (let b := sc 0x20 1 4096 8192 0
       let s := stored b (fun c => { c with cmds := List.replicate 4096 { session := 1 } })
       parsed s b ∧ b.length = 64 ∧ 4096 ≤ (s.m.cistern.cmds.filter (fun c => c.bulk.isNone && !c.dead && c.session == 1)).length)
    ∧ (∀ b ∈ [sc 0x20 1 0 4097 0, sc 0x22 0 0 4096 0], parsed (stored b) b ∧ b.length = 64 ∧ scOk b = false)
    ∧ (let b := sc 0x20 1 (2 ^ 40 - 4096) 8192 0
       parsed (stored b) b ∧ scOk b = true ∧ (stored b).m.cfg 0x4300 0x03 < scOff b + scLen b)
    ∧ (let b := sc 0x20 1 (2 ^ 40 - 8192) 8192 0
       let m := (stored b).m
       parsed (stored b) b ∧ scOk b = true ∧ scOff b + scLen b = m.cfg 0x4300 0x03 ∧ m.cistern.cmds = [] ∧ (stSess b).txQueued ≤ m.cfg 0x4100 0x17
         ∧ m.cistern.badIn (scOff b) (scLen b) = none)
    ∧ (∀ f ∈ [0, 1, 2, 3], let b := sc 0x21 3 4096 4096 f
       let m := (stored b).m
       parsed (stored b) b ∧ b.length = 64 ∧ scOp b = 0x21 ∧ scSlot b < (stSess b).slots ∧ scOk b = true ∧ scOff b + scLen b ≤ m.cfg 0x4300 0x03
         ∧ m.cistern.cmds = [] ∧ m.cistern.readOnly = false ∧ (scAtomic b = true → scLen b ≤ m.atomicUnit) ∧ m.cistern.dirty + scLen b ≤ writeCacheSpace)
    ∧ (∀ f ∈ [0, 1], let c := wcmd f
       let m := (stored [] (limited (fun x => { x with cmds := [c], cache := blks }))).m
       m.clock.now ≤ T ∧ m.cistern.cmds = [c] ∧ c.dead = false ∧ c.bulk = none ∧ c.fetching = true ∧ c.started = true ∧ c.inTable = true
         ∧ c.ready = none ∧ c.fetched = false ∧ (List.replicate 8192 (9 : Byte)).length = scLen c.cmd ∧ (scForce c.cmd = true ↔ f = 1)
         ∧ ¬ (scAtomic c.cmd = true ∧ c.unit = 16384) ∧ m.cistern.journalRoom (scLen c.cmd) = true ∧ (∀ y ∈ m.cistern.cache, y.order ≠ c.id))
    ∧ (let c := { wcmd 0 with ready := some 0 }
       let m := (stored [] (fun x => { x with cmds := [c] })).m
       m.clock.now ≤ T ∧ m.cistern.cmds = [c] ∧ c.dead = false ∧ c.bulk = none ∧ mGet m.ports.sessions 1 = some (stSess [])
         ∧ (stSess []).state = 2 ∧ m.health.armed = false ∧ c.writes = true)
    ∧ (let m := (stored [] (fun x => { x with cache := blks })).m
       m.clock.now ≤ T ∧ m.cistern.cmds = [] ∧ m.cistern.cache = blks)
    ∧ Put (stored []) (wr 0x4300 3 (toLe 8 (2 ^ 30))) tClient (fun _ v m => (wr 0x4300 3 []).writes 0x4300 0x03 && m.storeOpen
        && decide (cisternSystem + leNat v + m.libraryUsed ≤ cisternUser))
    ∧ Put live (wr 0x4300 3 (toLe 8 (2 ^ 30))) tClient (fun _ v m => !m.storeOpen && decide (cisternSystem + leNat v + m.libraryUsed ≤ cisternUser)) := by
  refine ⟨by decide +kernel, by decide +kernel, by decide +kernel, by decide +kernel,
    by decide +kernel, by decide +kernel, by decide +kernel, by decide +kernel, ⟨by decide +kernel, rfl, rfl⟩,
    put_of (by decide +kernel), put_of (by decide +kernel)⟩

/-- A module with this hold-up bank. -/
def bank (f : Holdup → Holdup) : State := onM live (fun m => { m with holdup := f m.holdup })

/-- A measurement of 13 cells that changes HOLDUP_STATE and one that does not; the charger running and at its target; a test that
is due; 55.0, 55.1, 70.0 and 70.1 °C; a test's result with one cell out of service; and TEST_NOW. -/
theorem witness_HoldupRowsComplete :
    live.m.clock.now ≤ T ∧ (List.replicate 13 2400).length = 13 ∧ live.m.cistern.cmds = []
    ∧ (let st := fun mv => holdupState (journalLimit (bankEnergy (bankCap live.m.holdup.caps live.m.holdup.map) mv (tempFactor live.m.holdup.temp)))
       st 0 = live.m.holdup.state ∧ st 32500 ≠ live.m.holdup.state)
    ∧ live.m.holdup.stopped = false
    ∧ (let m := (bank (fun h => { h with atTarget := true })).m
       m.holdup.atTarget = true ∧ m.holdup.lastTestAt + m.cfg 0x4400 0x0D * 1000000000 ≤ m.cfg 0x4400 0x0D * 1000000000 + T)
    ∧ ¬ (550 : Int) < 550 ∧ (550 : Int) < 551 ∧ ¬ (700 : Int) < 700 ∧ (700 : Int) < 701
    ∧ (let m := (bank (fun h => { h with testing := true, map := [0, 0, 0, 0, 0, 0, 0, 0, 0, 0, 0, 0, 1] })).m
       let before := List.replicate 13 2400
       let after := List.replicate 13 2380
       (Instr.capacitanceTest T before after 12).wellFormed = true ∧ m.holdup.testing = true ∧ m.holdup.map.getD 11 1 = 0
         ∧ after.getD 11 0 < before.getD 11 0 ∧ m.holdup.map.getD 12 1 ≠ 0)
    ∧ Put live (wr 0x4400 0xE [1]) tClient (fun _ _ _ => (wr 0x4400 0xE []).writes 0x4400 0x0E) := by
  refine ⟨by decide +kernel, by decide, rfl, by decide +kernel, rfl, by decide +kernel, by decide, by decide, by decide, by decide, by decide +kernel, ?_⟩
  exact put_of (by decide +kernel)

/-- Both sets of hypotheses are met. -/
theorem witness_StoreAndHoldupRowsComplete : live.m.clock.now ≤ T ∧ live.m.cistern.cmds = [] := ⟨by decide +kernel, rfl⟩

/-! ## Witnesses: frame shape and Lots -/

/-- A member of a cascade with this device number. -/
def cas (d : Nat) : State := cfgd (cfgd live 0x4200 2 (toLe 4 7)) 0x4200 1 [BitVec.ofNat 8 d]

/-- Each frame-shape write at the frame of the lead, 106 at depth 3, alone and as a member; the writes one frame nearer; and
a cap one watt above CAP_LIMIT. -/
theorem witness_FrameShapeWritesComplete :
    (∀ p ∈ [(0x1100, 1, toLe 4 500000), (0x1100, 2, [3]), (0x1100, 5, [2])], let r := wr p.1 p.2.1 p.2.2 106
      Put live r tClient (fun _ _ m => r.writes p.1 p.2.1 && m.leadOk 106 (m.depthAt 106) && !m.inCascadeConfig && !m.hostFull)
      ∧ Put (cas 3) r tClient (fun _ _ m => m.leadOk 106 (m.depthAt 106) && m.inCascadeConfig && m.device != 0))
    ∧ (∀ p ∈ [(0x1100, 1, toLe 4 500000), (0x1100, 2, [3]), (0x1100, 5, [2]), (0x7000, 1, toLe 2 950)], let r := wr p.1 p.2.1 p.2.2 105
      Put live r tClient (fun _ _ m => m.clock.ticked && decide (105 < m.clock.firstFrame + (max m.clock.depth 3 + 2)) && m.depthAt 105 == 3
        && profileDepth 2 3 ≤ 3))
    ∧ Put live (wr 0x7000 1 (toLe 2 950) 106) tClient (fun _ v m => (wr 0x7000 1 []).writes 0x7000 0x01 && m.leadOk 106 (m.depthAt 106)
        && !m.hostFull && decide (leNat v ≤ m.power.capLimit))
    ∧ Put (pw (fun p => { p with capLimit := 949 })) (wr 0x7000 1 (toLe 2 950) 106) tClient (fun _ v m => m.leadOk 106 (m.depthAt 106)
        && decide (m.power.capLimit < leNat v)) := by
  refine ⟨?_, ?_, put_of (by decide +kernel), put_of (by decide +kernel)⟩
  · intro p hp
    simp only [List.mem_cons, List.not_mem_nil, or_false] at hp
    rcases hp with rfl | rfl | rfl <;> exact ⟨put_of (by decide +kernel), put_of (by decide +kernel)⟩
  · intro p hp
    simp only [List.mem_cons, List.not_mem_nil, or_false] at hp
    rcases hp with rfl | rfl | rfl | rfl <;> exact put_of (by decide +kernel)

/-- A module with these Lots. -/
def lo (f : Lots → Lots) (s : State := live) : State := onM s (fun m => { m with lots := f m.lots })
/-- A Lot with this number. -/
def lotD (n : Nat) : LotData := { number := n }
/-- A library of one image, number 4. -/
def shelf : State := lo (fun l => { l with library := [(4, {})] })
/-- LOT_SWITCH of a Lot at a frame. -/
def sw (lot n : Nat) : Bytes := toLe 4 lot ++ zeros 4 ++ toLe 8 n

/-- LOT_LOAD of no image, with a Lot staged, with a load running, of the active Lot, of more than is free, and of one that
loads; LOT_UNSTAGE with none staged, with its switch pending, and without; LOT_ROLLBACK; HOLD_PREVIOUS 0; LOT_SWITCH with a
switch pending, of a Lot that is not staged, of a staged one at the lead, and to none. -/
theorem witness_LotWritesComplete :
    Put shelf (wr 0x2000 0x40 (toLe 4 5)) tClient (fun _ v m => (wr 0x2000 0x40 []).writes 0x2000 0x40 && (mGet m.lots.library (leNat v)).isNone
        && !m.health.unsparable)
    ∧ Put (lo (fun l => { l with staged := some (lotD 9) }) shelf) (wr 0x2000 0x40 (toLe 4 4)) tClient (fun _ _ m => m.lots.staged.isSome)
    ∧ Put (lo (fun l => { l with loadState := 1 }) shelf) (wr 0x2000 0x40 (toLe 4 4)) tClient (fun _ _ m => m.lots.staged.isNone && m.lots.loadState == 1)
    ∧ Put (lo (fun l => { l with active := some (lotD 4) }) shelf) (wr 0x2000 0x40 (toLe 4 4)) tClient (fun _ _ m => m.lots.staged.isNone
        && m.lots.loadState != 1 && m.lots.active.any (fun l => l.number == 4))
    ∧ Put (lo (fun l => { l with library := [(4, { bytes := zeros 40 ++ List.replicate 300 0xFF })] })) (wr 0x2000 0x40 (toLe 4 4)) tClient
        (fun _ _ m => m.lots.staged.isNone && m.lots.active.isNone && decide (m.managedFree < imgLoadBytes (zeros 40 ++ List.replicate 300 0xFF)))
    ∧ Put (lo (fun l => { l with active := some (lotD 9) }) shelf) (wr 0x2000 0x40 (toLe 4 4)) tClient (fun _ _ m => m.lots.staged.isNone
        && m.lots.loadState != 1 && decide (imgLoadBytes [] ≤ m.managedFree) && !m.weirTaken)
    ∧ Put live (wr 0x2000 0x43 [1]) tClient (fun _ _ m => (wr 0x2000 0x43 []).writes 0x2000 0x43 && m.lots.staged.isNone)
    ∧ Put (onM (lo (fun l => { l with staged := some (lotD 4) })) (fun m => { m with schedule := [{ kind := 5, arg := 4, target := 108 }] }))
        (wr 0x2000 0x43 [1]) tClient (fun _ _ m => m.schedule.any (fun a => a.kind == 5 && a.arg == 4))
    ∧ (∀ b ∈ [false, true], Put (onM (lo (fun l => { l with staged := some (lotD 4) })) (fun m =>
        { m with search := { m.search with live := if b then [{ lot := 4, id := 1 }] else [] } })) (wr 0x2000 0x43 [1]) tClient
        (fun _ _ m => m.schedule.isEmpty && m.lotBound 4 == b))
    ∧ Put (lo (fun l => { l with previous := 3, active := some (lotD 8), retained := [lotD 3, lotD 5], held := 3 })) (wr 0x2000 0x48 [1]) tClient
        (fun _ _ m => (wr 0x2000 0x48 []).writes 0x2000 0x48 && m.retainedLot m.lots.previous == some (lotD 3) && m.lots.previous == 3
          && m.lots.staged.isNone && m.lots.loadState != 1 && !m.weirTaken)
    ∧ Put (lo (fun l => { l with retained := [lotD 3, lotD 5], held := 3 })) (wr 0x2000 0x47 [0]) tClient (fun o v _ =>
        (wr 0x2000 0x47 []).writes 0x2000 0x47 && v == [0] && o.index == 0x2000 && o.sub == 0x47)
    ∧ Put (onM live (fun m => { m with schedule := [{ kind := 5, arg := 4, target := 108 }] })) (wr 0x2000 0x44 (sw 0 0)) tClient
        (fun _ v m => (wr 0x2000 0x44 []).writes 0x2000 0x44 && !m.inCascadeConfig && leAt v 4 4 == 0 && m.leadOk m.leadFrame (m.depthAt m.leadFrame)
          && m.switchPending)
    ∧ Put live (wr 0x2000 0x44 (sw 4 106)) tClient (fun _ _ m => m.leadOk 106 (m.depthAt 106) && !m.switchPending && m.lots.staged.isNone
        && m.mates.isEmpty)
    ∧ (∀ lot ∈ [4, 0], Put (lo (fun l => { l with staged := some (lotD 4) })) (wr 0x2000 0x44 (sw lot 106)) tClient (fun _ _ m =>
        m.leadOk 106 (m.depthAt 106) && !m.switchPending && !m.hostFull)) := by
  refine ⟨?_, ?_, ?_, ?_, ?_, ?_, ?_, ?_, ?_, ?_, ?_, ?_, ?_, ?_⟩
  case refine_9 | refine_14 =>
    intro b hb
    simp only [List.mem_cons, List.not_mem_nil, or_false] at hb
    rcases hb with rfl | rfl <;> exact put_of (by decide +kernel)
  all_goals exact put_of (by decide +kernel)

/-- A build descriptor of Lot 77. -/
def bd (f : Nat := 0) : Bytes :=
  toLe 128 (put 77 32 0 + put 128 16 96 + put 64 16 112 + put 0 32 128 + put 8 8 160 + put 1 8 168 + put 1 16 336 + put 2720 64 448 + f)
/-- LOT_IMPORT of so many bytes over a session. -/
def imp (n : Nat) (session : Nat := 2) : Bytes := toLe 4 session ++ toLe 4 99 ++ toLe 8 4096 ++ toLe 8 n ++ zeros 8
/-- A shelf with an RDMA session 2 of type 3 in service. -/
def docked (f : Lots → Lots := id) : State :=
  onM (lo f shelf) (fun m => { m with ports := { m.ports with sessions := [(2, { typ := 3, state := 2, slots := 4, slotBytes := 64 })] } })

/-- LOT_IMPORT with an argument out of range, with an import running, with 64 images, with more than is free, and one that
begins; LOT_DELETE of no image, of the committed one, and of one not in use; BUILD_START with a build running, of a Lot in the
library, of a descriptor that does not hold, and of one that begins at the lead; BUILD_CANCEL. -/
theorem witness_LibraryWritesComplete :
    Put (docked) (wr 0x2000 0x49 (imp 4096 1)) tClient (fun _ v m => (wr 0x2000 0x49 []).writes 0x2000 0x49 && !m.importArgOk v && !m.health.unsparable)
    ∧ Put (docked (fun l => { l with importState := 1 })) (wr 0x2000 0x49 (imp 4096)) tClient (fun _ v m => m.importArgOk v && m.lots.importState == 1)
    ∧ Put (docked (fun l => { l with library := (List.range 64).map (fun i => (i + 1, {})) })) (wr 0x2000 0x49 (imp 4096)) tClient (fun _ v m =>
        m.importArgOk v && m.lots.importState != 1 && decide (64 ≤ m.lots.library.length))
    ∧ Put (cfgd (docked) 0x4300 3 (toLe 8 (cisternUser - cisternSystem - 4096))) (wr 0x2000 0x49 (imp 8192)) tClient (fun _ v m =>
        m.importArgOk v && decide (m.libraryFree < leAt v 16 8))
    ∧ Put (docked) (wr 0x2000 0x49 (imp 4096)) tClient (fun _ v m => m.importArgOk v && m.lots.importState != 1 && decide (m.lots.library.length < 64)
        && decide (leAt v 16 8 ≤ m.libraryFree) && !m.cistern.readOnly && !m.health.armed)
    ∧ Put shelf (wr 0x2000 0x4C (toLe 4 5)) tClient (fun _ v m => (wr 0x2000 0x4C []).writes 0x2000 0x4C && !mHas m.lots.library (leNat v))
    ∧ Put (lo (fun l => { l with committed := 4 }) shelf) (wr 0x2000 0x4C (toLe 4 4)) tClient (fun _ v m => mHas m.lots.library (leNat v) && m.lotInUse (leNat v))
    ∧ Put shelf (wr 0x2000 0x4C (toLe 4 4)) tClient (fun _ v m => mHas m.lots.library (leNat v) && !m.lotInUse (leNat v))
    ∧ Put (lo (fun l => { l with buildState := 1 })) (wr 0x2200 1 (bd) 106) tClient (fun _ v m => (wr 0x2200 1 []).writes 0x2200 0x01 && !v.isEmpty
        && leAt v 0 4 != 0 && m.leadOk 106 (m.depthAt 106) && m.lots.buildState == 1)
    ∧ Put (lo (fun l => { l with library := [(77, {})] })) (wr 0x2200 1 (bd) 106) tClient (fun _ v m => m.lots.buildState != 1
        && mHas m.lots.library (bdLot (leNat v)))
    ∧ Put live (wr 0x2200 1 (bd (put 2 8 64)) 106) tClient (fun _ v m => !mHas m.lots.library (bdLot (leNat v)) && !m.buildDescOk (leNat v))
    ∧ Put live (wr 0x2200 1 (bd) 106) tClient (fun _ v m => m.leadOk 106 (m.depthAt 106) && m.lots.buildState != 1 && !mHas m.lots.library (bdLot (leNat v))
        && m.buildDescOk (leNat v) && decide (m.buildNeeds (leNat v) ≤ m.libraryFree) && !m.cistern.readOnly && !m.hostFull)
    ∧ (∀ n ∈ [0, 101], Put live (wr 0x2200 2 [1] n) tClient (fun _ _ m => (wr 0x2200 2 []).writes 0x2200 0x02 && !m.hostFull
        && decide (m.clock.firstFrame ≤ if n = 0 then m.clock.firstFrame else n))) := by
  refine ⟨?_, ?_, ?_, ?_, ?_, ?_, ?_, ?_, ?_, ?_, ?_, ?_, ?_⟩
  case refine_13 =>
    intro b hb
    simp only [List.mem_cons, List.not_mem_nil, or_false] at hb
    rcases hb with rfl | rfl <;> exact put_of (by decide +kernel)
  all_goals exact put_of (by decide +kernel)

/-- A load of an image; an import with its bytes, and with none; a poisoned burst of the active Lot; and a build that has begun. -/
theorem witness_LotEndsComplete :
    live.m.clock.now ≤ T
    ∧ (let m := (lo (fun l => { l with loadState := 1, loading := 4 }) shelf).m
       m.lots.loadState = 1 ∧ m.lots.loadFor = 0 ∧ mGet m.lots.library m.lots.loading = some {} ∧ m.lots.loading < 2 ^ 32)
    ∧ (lo (fun l => { l with importState := 1 })).m.importResult [] ≠ 0
    ∧ (let data := toLe 4096 (0x0000544F4C324E46 + put 1 16 64 + put 4 32 96 + put 4096 64 416)
       (lo (fun l => { l with importState := 1, importArg := imp 4096 })).m.importResult data = 0)
    ∧ (let m := (onM (lo (fun l => { l with active := some (lotD 4) })) (fun m => { m with mem := { m.mem with lotPoison := [(4, 5), (4, 6)] } })).m
       m.mem.lotPoison = (4, 5) :: [(4, 6)] ∧ ∃ b ∈ m.lotBases, b.1.number = 4)
    ∧ (let m := (lo (fun l => { l with buildState := 1, buildPhase := 1, buildDesc := bd })).m
       m.lots.buildState = 1 ∧ m.lots.buildPhase ≠ 0 ∧ m.cfgB 0x2200 0x0D = false) := by decide +kernel

/-! ## Witnesses: start-up Lots, stream sets, tables and jobs -/

/-- A module with this start-up state. -/
def bt (f : Boot → Boot) (s : State := live) : State := onM s (fun m => { m with boot := f m.boot })
/-- A module with these tables and reservations. -/
def tb (l : List (Nat × Table)) (res : List (Nat × Nat × Nat) := []) (s : State := live) : State :=
  onM s (fun m => { m with tables := { m.tables with tables := l }, mem := { m.mem with reserved := res } })
/-- A table descriptor. -/
def tabD (k : Nat := 1) (base : Nat := 0) (ver : Nat := 1) : Nat :=
  put base 64 448 + put 100 64 320 + put 128 40 216 + put ver 32 120 + put 0 8 88 + put 1 8 80 + put 1 9 71 + put k 6 0
/-- The bytes of its region. -/
def rb : Nat := tabRegionBytes tabD

/-- A committed Lot that can be loaded, one that is not there, and none; a staged start-up Lot; the master with its committed
Lot staged; a valid restore record with TABLE_RESTORE at 1 and at 0. -/
theorem witness_StartUpRowsComplete :
    (∀ n ∈ [0, 4, 9], let m := (lo (fun l => { l with committed := n }) (cfgd shelf 0x5100 6 [1])).m
      m.clock.now ≤ T ∧ 2 ≤ m.boot.startState ∧ m.boot.startupTried = false ∧ m.cfgB 0x5100 0x06 = true ∧ m.health.unsparable = false
        ∧ m.weirTaken = false ∧ m.lots.committed < 2 ^ 32 ∧ m.lots.previous = 0 ∧ (n ≠ 0 → (m.loadCheck n = 0 ↔ n = 4)))
    ∧ (let m := (bt (fun b => { b with startupSwitch := true, startupLot := 4 }) (lo (fun l => { l with staged := some (lotD 4) }))).m
       m.inCascadeConfig = false ∧ m.lots.staged = some (lotD 4) ∧ m.boot.startupSwitch = true ∧ (lotD 4).number = m.boot.startupLot
         ∧ m.health.unsparable = false ∧ m.switchPending = false ∧ m.hostFull = false)
    ∧ (let m := (onM (lo (fun l => { l with staged := some (lotD 4), committed := 4 }) (cas 0)) (fun m => { m with cascade := { m.cascade with state := 2 } })).m
       m.isMaster = true ∧ m.cascade.state = 2 ∧ m.lots.staged = some (lotD 4) ∧ (lotD 4).number = m.lots.committed ∧ (lotD 4).number ≠ 0
         ∧ m.lots.active = none ∧ m.health.unsparable = false ∧ m.switchPending = false ∧ m.hostFull = false)
    ∧ (∀ b ∈ [(0 : Byte), 1], let p : Nat × Table := (1, { restore := some tabD, restoreOk := true })
       let m := (cfgd (tb [p]) 0x5100 7 [b]).m
       2 ≤ m.boot.startState ∧ m.boot.tablesTried = false ∧ (m.cfgB 0x5100 0x07 = true ↔ b = 1)
         ∧ m.tables.tables.filter (fun p => p.2.restore.isSome) = [p] ∧ p.2.restore = some tabD ∧ p.2.restoreOk = true ∧ p.2.restoreLoads = []
         ∧ tabModules tabD = 1 ∧ tabNumber tabD = p.1 ∧ (m.stageTable tabD).isSome = true) := by
  refine ⟨by decide +kernel, by decide +kernel, by decide +kernel, by decide +kernel⟩

/-- A stream descriptor's header: a set, its tiles and its context. -/
def armH (id : Nat := 5) (first : Nat := 3) (last : Nat := 4) (ctx : Nat := 2) (f : Nat := 0) : Nat :=
  put id 32 0 + put first 9 32 + put last 9 41 + put ctx 3 50 + put 0xFF80000000000000 64 64 + put 0 32 128 + put 2 16 160 + put 65536 32 192
    + put 8 6 224 + put 4 6 230 + put 1 32 288 + f
/-- A STREAM_ARM value of that header. -/
def armV (h : Nat) : Bytes := toLe 64 h ++ zeros 128
/-- A set of that header. -/
def setOf (h : Nat) (st : Nat := 2) : StreamSet := { header := h, bases := List.replicate 16 0, state := st, armSfc := 100 }
/-- A module with a user region of 8 GiB and a slice reserve of 1 MiB. -/
def ss : State := cfgd (cfgd live 0x2000 0x12 (toLe 4 1048576)) 0x4000 3 (toLe 8 (2 ^ 33))
/-- It, with set 5 running on tiles 3 and 4. -/
def hold (x : StreamSet := setOf armH) : State :=
  let c : Tile := { ctxs := [(2, { setId := 5, region := 524288, bytes := 65536 })] }
  onM ss (fun m => { m with streams := { m.streams with sets := [(5, x)] }, tiles := [(3, c), (4, c)] })

/-- STREAM_ARM of the last tiles and the last context at the first open frame, and of set number 0; STREAM_DISARM of a running
set by name of its frame and at once, with an earlier disarm pending and none; STREAM_REARM of a set, and of a TOWER set. -/
theorem witness_StreamSetWritesComplete :
    Put ss (wr 0x3100 1 (armV (armH 6 510 511 7)) 101) tClient (fun _ v m => (wr 0x3100 1 []).writes 0x3100 0x01 && m.clock.firstFrame == 101
      && !m.health.unsparable && m.armReason v 101 == 0 && !m.hostFull)
    ∧ Put ss (wr 0x3100 1 (armV (armH 0))) tClient (fun _ v m => m.armReason v m.clock.firstFrame != 0)
    ∧ Put (hold { setOf armH with disarm := some 103 }) (wr 0x3100 2 (toLe 4 5) 110) tClient (fun _ v m =>
        (wr 0x3100 2 []).writes 0x3100 0x02 && !m.hostFull && (mGet m.streams.sets (leNat v)).any (fun x => x.state == 2 && x.disarm == some 103))
    ∧ Put hold (wr 0x3100 2 (toLe 4 5)) tClient (fun _ v m => (mGet m.streams.sets (leNat v)).any (fun x => x.state == 2 && x.disarm == none))
    ∧ Put hold (wr 0x3100 3 (toLe 4 5 ++ zeros 4 ++ toLe 8 101 ++ zeros 120)) tClient (fun _ v m => (wr 0x3100 3 []).writes 0x3100 0x03 && leAt v 4 4 == 0
        && leAt v 8 8 == 101 && (mGet m.streams.sets (leAt v 0 4)).any (fun x => !armTower x.header) && !m.hostFull)
    ∧ Put (hold (setOf (armH 5 3 4 2 (put 1 1 56)))) (wr 0x3100 3 (toLe 4 5 ++ zeros 4 ++ toLe 8 0 ++ zeros 120)) tClient (fun _ v m =>
        (mGet m.streams.sets (leAt v 0 4)).any (fun x => armTower x.header)) := by
  refine ⟨?_, ?_, ?_, ?_, ?_, ?_⟩ <;> exact put_of (by decide +kernel)

/-- A module with version 1 of table 1 staged at 0. -/
def tabled : State := tb [(1, { staged := some tabD })] [(0, rb, 2)] (cfgd ss 0x4300 3 (toLe 8 1048576))
/-- TABLE_SWITCH of a table to a version at a frame; TABLE_LOAD of n bytes. -/
def tsw (k ver n : Nat) : Bytes := toLe 16 (put n 64 64 + put k 6 32 + put ver 32 0)
def tld (off dest n f : Nat) : Bytes := toLe 8 off ++ toLe 8 dest ++ toLe 8 n ++ toLe 8 f

/-- TABLE_STAGE of a bad descriptor, of a second version, over a reservation, and of a good one; TABLE_UNSTAGE with none
staged, with its switch scheduled and without; TABLE_SWITCH while one is scheduled, of a version that is not staged, of the
staged one and of none, at the lead; TABLE_LOAD past the Store area, outside a staged region and up to its last byte. -/
theorem witness_TableWritesComplete :
    Put ss (wr 0x3200 2 (toLe 64 (tabD 1 1))) tClient (fun _ v m => (wr 0x3200 2 []).writes 0x3200 0x02 && !m.health.unsparable && !tabOk (leNat v))
    ∧ Put tabled (wr 0x3200 2 (toLe 64 (tabD 1 65536 2))) tClient (fun _ v m => tabOk (leNat v) && (m.table 1).staged.isSome)
    ∧ Put (tb [] [(0, 1, 256)] ss) (wr 0x3200 2 (toLe 64 tabD)) tClient (fun _ v m => tabOk (leNat v) && (m.table 1).staged.isNone
        && !m.canReserve (tabBase (leNat v)) (tabRegionBytes (leNat v)))
    ∧ Put (tb [(1, { active := some (tabD 1 65536) })] [(rb, 1, 256)] ss) (wr 0x3200 2 (toLe 64 (tabD 1 0 2))) tClient (fun _ v m => tabOk (leNat v)
        && (m.table 1).staged.isNone && m.canReserve (tabBase (leNat v)) (tabRegionBytes (leNat v)))
    ∧ Put tabled (wr 0x3200 3 [2]) tClient (fun _ v m => (wr 0x3200 3 []).writes 0x3200 0x03 && m.cistern.cmds.isEmpty && (m.table (leNat v)).staged.isNone)
    ∧ Put (onM tabled (fun m => { m with schedule := [{ kind := 6, arg := 2 ^ 32 + 1, target := 108 }] })) (wr 0x3200 3 [1]) tClient (fun _ _ m =>
        (m.table 1).staged == some tabD && m.stagedSwitching 1 tabD)
    ∧ Put tabled (wr 0x3200 3 [1]) tClient (fun _ _ m => (m.table 1).staged == some tabD && !m.stagedSwitching 1 tabD)
    ∧ Put (onM tabled (fun m => { m with schedule := [{ kind := 6, arg := 2 ^ 32 + 1, target := 108 }] })) (wr 0x3200 4 (tsw 1 1 106)) tClient (fun _ v m =>
        (wr 0x3200 4 []).writes 0x3200 0x04 && !m.inCascadeConfig && fld (leNat v) 63 38 == 0 && m.leadOk 106 (m.depthAt 106) && m.tableSwitching 1)
    ∧ Put tabled (wr 0x3200 4 (tsw 1 2 106)) tClient (fun _ v m => fld (leNat v) 31 0 == 2 && !m.tableSwitching 1 && (m.table 1).staged == some tabD)
    ∧ (∀ n ∈ [1, 0], Put tabled (wr 0x3200 4 (tsw 1 n 106)) tClient (fun _ v m => fld (leNat v) 31 0 == n && fld (leNat v) 37 32 == 1
        && m.leadOk 106 (m.depthAt 106) && !m.tableSwitching 1 && tabVersion tabD == 1 && !m.hostFull))
    ∧ Put tabled (wr 0x3200 0xE (tld (1048576 - 63) 0 64 0)) tClient (fun _ v m => (wr 0x3200 0xE []).writes 0x3200 0x0E && leAt v 24 8 == 0 && decide (m.cfg 0x4300 0x03 < leAt v 0 8 + leAt v 16 8))
    ∧ Put tabled (wr 0x3200 0xE (tld 0 (rb - 63) 64 0)) tClient (fun _ v m => (m.stagedAt (leAt v 8 8) (leAt v 16 8)).isNone)
    ∧ Put (onM tabled (fun m => { m with schedule := [{ kind := 6, arg := 2 ^ 32 + 1, target := 101 }] })) (wr 0x3200 0xE (tld 0 0 64 0)) tClient (fun _ v m =>
        (m.stagedAt (leAt v 8 8) (leAt v 16 8)).isSome && meetsRange m.protectedRanges (leAt v 8 8) (leAt v 16 8))
    ∧ Put tabled (wr 0x3200 0xE (tld (1048576 - 64) (rb - 64) 64 0)) tClient (fun _ v m => leAt v 0 8 + leAt v 16 8 == m.cfg 0x4300 0x03
        && m.stagedAt (leAt v 8 8) (leAt v 16 8) == some 1 && !meetsRange m.protectedRanges (leAt v 8 8) (leAt v 16 8) && m.cistern.cmds.isEmpty
        && (m.cistern.badIn (leAt v 0 8) (leAt v 16 8)).isNone) := by
  refine ⟨?_, ?_, ?_, ?_, ?_, ?_, ?_, ?_, ?_, ?_, ?_, ?_, ?_, ?_⟩
  case refine_10 =>
    intro b hb
    simp only [List.mem_cons, List.not_mem_nil, or_false] at hb
    rcases hb with rfl | rfl <;> exact put_of (by decide +kernel)
  all_goals exact put_of (by decide +kernel)

/-- A job configuration of one member, device 0 by default. -/
def jobB (j : Nat := 3) (dev : Nat := 0) : Bytes :=
  toLe 128 (put j 6 0 + put 1 9 399 + put 1 8 408 + put 1 8 424 + put 1 8 432 + put 20 8 440 + put 64 64 576) ++ toLe 4 dev
    ++ toLe 64 (put 0 2 196 + put 0 2 200 + put 64 64 320)
/-- A module with this job as its job 3. -/
def jb (x : Job) : State := onM ss (fun m => { m with jobs := { m.jobs with jobs := [(3, x)] } })
/-- JOB_CONFIG of staged bytes. -/
def jcfg (b : Bytes) : VReq := ws 0x3300 3 b.length

/-- JOB_CONFIG of a running job, of a bad configuration, over a reservation, and of a good one; JOB_START at the lead of no
configuration, of a running job and of one that is pending, of one that does not fit and of one that does; JOB_STOP of a
waiting and of a running job; DIGEST_CHECK of no configuration and of one; JOBS_ENABLE and SHARD_MAP at the first open frame. -/
theorem witness_JobWritesComplete :
    Put (jb { state := 2, config := jobB }) (jcfg jobB) (staged jobB) (fun _ v m => (jcfg jobB).writes 0x3300 0x03 && !m.inCascadeConfig
      && !m.health.unsparable && (m.job (jobNum v)).state == 2)
    ∧ Put ss (jcfg (jobB 3 ++ [1])) (staged (jobB 3 ++ [1])) (fun _ v m => (m.job (jobNum v)).state != 2 && !m.jobConfigOk v)
    ∧ Put (onM ss (fun m => { m with mem := { m.mem with reserved := [(0, 1, 2)] } })) (jcfg jobB) (staged jobB) (fun _ v m => m.jobConfigOk v
        && jobMembers v == 1 && jobDev v 0 == m.device && m.present m.device && !(m.unreserve (256 + 3)).canReserve (jobBase v) (m.jobBytes v))
    ∧ Put (onM ss (fun m => { m with mem := { m.mem with reserved := [(0, 1, 256 + 3)] } })) (jcfg jobB) (staged jobB) (fun _ v m => m.jobConfigOk v
        && jobMembers v == 1 && jobDev v 0 == m.device && m.present m.device && (m.unreserve (256 + 3)).canReserve (jobBase v) (m.jobBytes v))
    ∧ Put ss (wr 0x3300 4 (toLe 8 63 ++ toLe 8 106)) tClient (fun _ v m => (wr 0x3300 4 []).writes 0x3300 0x04 && leAt v 0 8 == 63 && leAt v 8 8 == 106
        && m.leadOk 106 (m.depthAt 106) && (m.job 63).config.isEmpty)
    ∧ Put (jb { state := 2, config := jobB }) (wr 0x3300 4 (toLe 8 3 ++ toLe 8 106)) tClient (fun _ _ m => (m.job 3).state == 2)
    ∧ Put (jb { state := 1, config := jobB, pending := some 110 }) (wr 0x3300 4 (toLe 8 3 ++ toLe 8 106)) tClient (fun _ _ m => (m.job 3).pending.isSome)
    ∧ Put (cfgd (jb { state := 1, config := jobB }) 0x3300 0xA [0]) (wr 0x3300 4 (toLe 8 3 ++ toLe 8 106)) tClient (fun _ _ m => (m.job 3).state == 1
        && (m.job 3).pending.isNone && !m.jobFits (m.job 3).config 106)
    ∧ Put (jb { state := 1, config := jobB }) (wr 0x3300 4 (toLe 8 3 ++ toLe 8 106)) tClient (fun _ _ m => (m.job 3).state == 1
        && (m.job 3).pending.isNone && m.jobFits (m.job 3).config 106 && (m.onJob 3 (fun x => { x with pending := some 106 })).grantsOk 106
        && jobMembers (m.job 3).config == 1 && jobDev (m.job 3).config 0 == m.device)
    ∧ Put (jb { state := 1, config := jobB }) (wr 0x3300 5 [3]) tClient (fun _ v m => (wr 0x3300 5 []).writes 0x3300 0x05 && (m.job (leNat v)).state != 2)
    ∧ Put (jb { state := 2, config := jobB, start := 110 }) (wr 0x3300 5 [3]) tClient (fun _ v m => (m.job (leNat v)).state == 2
        && (jobPos (m.job (leNat v)).config m.device).isSome)
    ∧ Put ss (wr 0x3300 9 [3]) tClient (fun _ v m => (wr 0x3300 9 []).writes 0x3300 0x09 && (m.job (leNat v)).config.isEmpty)
    ∧ Put (jb { state := 1, config := jobB }) (wr 0x3300 9 [3]) tClient (fun _ v m => !(m.job (leNat v)).config.isEmpty)
    ∧ (∀ n ∈ [0, 101], Put ss (wr 0x3300 1 [1] n) tClient (fun _ _ m => (wr 0x3300 1 [] n).writes 0x3300 0x01 && !m.hostFull
        && decide (m.clock.firstFrame ≤ if n = 0 then m.clock.firstFrame else n)))
    ∧ Put ss (wr 0x4200 0x11 (zeros 68)) tClient (fun _ _ m => (wr 0x4200 0x11 []).writes 0x4200 0x11 && !m.hostFull) := by
  refine ⟨?_, ?_, ?_, ?_, ?_, ?_, ?_, ?_, ?_, ?_, ?_, ?_, ?_, ?_, ?_⟩
  case refine_14 =>
    intro b hb
    simp only [List.mem_cons, List.not_mem_nil, or_false] at hb
    rcases hb with rfl | rfl <;> exact put_of (by decide +kernel)
  all_goals exact put_of (by decide +kernel)

/-! ## Witnesses: stream commands -/

/-- A header of set 5 with the clocks and lists the commands below need. -/
def H12 (f : Nat := 0) : Nat :=
  armH + put 8 7 242 + put 16 9 264 + put 100000 32 288 + put 4096 64 320 + put 0 64 384 + put 8192 64 448 + f
/-- Three Vat slots. -/
def slots3 : List (Nat × Nat) :=
  [(0, put 1 1 20 + put 1 1 21), (1, put 40 11 0 + put 1 3 16 + put 1 1 21), (2, put 80 11 0 + put 1 1 21)]
/-- Set 5 running on tiles 3 and 4 with word w at the front of tile 3's region, data behind it, a run of winners, job 3 running, and a
descriptor block at 8192 and an index list at 12000. -/
def st12 (w : Nat) (h : Nat := H12) (cf : Ctx → Ctx := id) (block : Bytes := []) (sst : Nat := 2) (keep : Nat := 40) : State :=
  let c : Ctx := { setId := 5, state := 1, bytes := 65536, grant := 100000 }
  onM ss (fun m =>
    let t3 : Tile := { slots := slots3, events := [(8, 5)], ctxs := [(2, cf { c with depMet := true })]
                       runs := [{ wlist := 0, wcount := 2, header := put keep 13 64, keep := keep }] }
    let m : Module := { m with mem := { m.mem with lpddr := cellsOf 0 ((List.range 8).map (fun i => BitVec.ofNat 8 (i * 7 + 1))) }
                               streams := { m.streams with sets := [(5, { setOf h sst with bytesLeft := 100000 })] }, tiles := [(3, t3), (4, { ctxs := [(2, c)] })]
                               jobs := { m.jobs with jobs := [(3, { state := 2, config := jobB, start := 100 })] } }
    let m := m.sliceWrite 3 1024 ((List.range 8).map (fun i => BitVec.ofNat 8 (i * 37 + 11)))
    let m := m.sliceWrite 3 8192 block
    let m := m.sliceWrite 3 12000 (toLe 4 0 ++ toLe 4 2 ++ toLe 4 3 ++ toLe 4 0 ++ toLe 4 1 ++ toLe 4 0)
    m.sliceWrite 3 0 (toLe 32 w))

/-- Context 2 of tile 3 is the one to run, with that word, and no common fault. -/
def readyB (m : Module) (w : Nat) : Bool :=
  [2, 3, 4, 5, 6, 7].find? (m.ctxReady 3) == some 2 && m.nextCmd 3 2 == some w && (m.streamSet (m.ctx 3 2).setId).commonFault w == 0

/-- Its command of this opcode has no fault, fits its grants and runs without a fault. -/
def endsB (s : State) (w op : Nat) (x : Module → StreamSet → Nat × Nat × CmdRun) : Bool :=
  let m := s.m
  let c := m.ctx 3 2
  let set := m.streamSet c.setId
  let (fault, figure, run) := x m set
  readyB m w && cmdOp w == op && fault == 0 && decide (figure ≤ c.grant) && decide (figure ≤ (m.setGrant c.setId set m.clock.sfc).1)
    && run.fault == 0 && run.m.ctx 3 2 == c && run.m.nextCmd 3 2 == some w

/-- An address of a tile's window. -/
def slc (t o : Nat) : Nat := 0x040000000000 + t * 0x800000 + o
/-- A DONE flag on counter 8. -/
def D8 : Nat := put 1 1 25 + put 8 6 26
/-- MOVE of n bytes. -/
def wMove (src dst n : Nat) : Nat := 1 + put src 64 64 + put dst 64 128 + put n 23 224
/-- A block of one index list. -/
def gBlock : Bytes := toLe 16 (put (1024 / 4) 21 0 + put 0 8 43 + put 2 5 51)

/-- MOVEs of LPDDR5X to a slice with DONE and between slices; GATHER; SCATTER_ACC into a Vat window; MMA; an EPI in
FP32; SKSCAN; WINS; WDRAIN that frees its run and one that does not; ARGMAX of both records; REDUCE into a running job;
POOL; SIGNAL that adds and that sets; WAIT for a tick before and after; REARM of a persistent set; HALT. -/
theorem witness_StreamCommandsComplete :
    (∀ w ∈ [wMove 0 (slc 3 4096) 16 + D8, wMove (slc 3 1024) (slc 4 1040) 16],
      endsB (st12 w) w 0x01 (fun m set => (m.moveCheck set 3 2 w, 0, m.moveRun 0 set 3 2 w)) = true)
    ∧ (let w := 2 + put 0 64 64 + put 12000 21 128 + put 1024 21 149 + put 4 20 170 + put 32 20 192 + put 64 32 212
       endsB (st12 w) w 0x02 (fun m set => (m.gatherCheck set 3 2 w, 0, m.gatherRun 0 set 3 2 w)) = true)
    ∧ (let w := 3 + put (slc 3 0x600000) 64 64 + put 512 21 128 + put 256 21 149 + put 4 20 170 + put 1 1 190 + put 80 20 192 + put 80 32 212
       endsB (st12 w) w 0x03 (fun m set => (m.scatterCheck set 3 2 w, 0, m.scatterRun 0 set 3 2 w)) = true)
    ∧ (let w := 0x10 + D8 + put (1024 / 4) 21 64 + put (2048 / 4) 21 85 + put 1 12 106 + put 1 12 118 + put 2 16 130 + put 0 6 146 + put 2 2 152 + put 1 3 156
       endsB (st12 w) w 0x10 (fun m set => (m.mmaCheck set 3 2 w, (m.mmaFig 3 2 w).getD 0, m.mmaRun set 3 2 w)) = true)
    ∧ (let w := 0x11 + put (put 1 7 6) 64 64 + put (4096 / 4) 21 128 + put 5000 21 149 + put 128 20 170
       endsB (st12 w) w 0x11 (fun m set => (m.epiCheck set 3 2 w, (m.epiFig 3 2 w).getD 0, m.epiRun set 3 2 w)) = true
         ∧ epiFmt (epiCtl w) = 0 ∧ 4 * (st12 w).m.epiWidth 3 w ≤ fld w 189 170)
    ∧ (let w := 0x20 + put (1024 / 4) 21 64 + put 20 28 85 + put 0 3 113 + put (8192 / 4) 21 128 + put 1 9 149
       endsB (st12 w H12 id gBlock 2 64) w 0x20 (fun m set => (m.skCheck set 3 2 w, 16 + skRecs w, m.skRun set 3 2 w)) = true)
    ∧ (let w := 0x21 + put (8192 / 4) 21 64 + put 10 20 85 + put 0 8 105 + put 2 8 113
       endsB (st12 w H12 id (toLe 16 (put 40 13 64) ++ toLe 16 (put 77 64 32))) w 0x21
         (fun m set => (m.winsCheck set 3 2 w, 8 + ceilDiv (winsCount w) 32 + winsLists w, m.winsRun set 3 2 w)) = true)
    ∧ (∀ w ∈ [0x22 + put (4096 / 4) 21 64 + put 0 8 85 + put 2 8 93 + put 1 1 101 + put 1 1 102, 0x22 + put (4096 / 4) 21 64 + put 0 8 85 + put 2 8 93],
       endsB (st12 w) w 0x22 (fun m set => (m.drainCheck set 3 2 w, m.drainClocks 3 w, m.drainRun set 3 2 w)) = true)
    ∧ (∀ op ∈ [0, 1], let w := 0x23 + put (1024 / 4) 21 64 + put (4096 / 4) 21 85 + put 3 20 106 + put op 2 126 + put 5 32 128 + put op 3 160
       endsB (st12 w) w 0x23 (fun m set => (m.argCheck set 3 2 w, argClocks w, m.argRun 0 set 3 2 w)) = true ∧ argColl w = false ∧ (argOp w = 0 ↔ op = 0))
    ∧ (let w := 0x24 + put 0 6 64 + put 1 7 70 + put 3 6 77 + put 0 64 128
       endsB (st12 w) w 0x24 (fun m set => (m.redCheck set 3 2 w, m.redClocks 3 w, m.redRun 0 set 3 2 w)) = true)
    ∧ (let w := 0x25 + put (1024 / 4) 21 64 + put (12000 / 4) 21 85 + put 2 20 106 + put (16384 / 4) 21 128 + put 1 8 149 + put 0 3 157
       endsB (st12 w) w 0x25 (fun m set => (m.poolCheck set 3 2 w, m.poolClocks 3 2 w, m.poolRun set 3 2 w)) = true)
    ∧ (∀ f ∈ [0, 1], let w := 0x30 + put (slc 3 0x700000) 64 64 + put 9 32 128 + put 8 6 160 + put f 2 166
       endsB (st12 w) w 0x30 (fun m set => (m.signalCheck set 3 2 w, 0, m.signalRun 0 set 3 2 w)) = true
         ∧ cmdDone w = false)
    ∧ (let w := 0x31 + put 1 1 64
       readyB (st12 w).m w = true ∧ w.testBit 64 = true ∧ ((st12 w).m.ctx 3 2).waitTick = none ∧ cmdOp w = 0x31)
    ∧ (∀ w ∈ [0x31, 0x31 + put 1 1 64], let s := st12 w H12 (fun c => if w = 0x31 then c else { c with waitTick := some 3 })
       (w.testBit 64 = false ∨ (s.m.ctx 3 2).waitTick ≠ none)
         ∧ endsB s w 0x31 (fun m _ => (0, 0, { m := m, clocks := if (s.m.ctx 3 2).waitTick.isSome then 0 else 1 })) = true)
    ∧ (let w := 0x32
       endsB (st12 w (H12 (put 1 1 53))) w 0x32 (fun m set => (if armPersistent set.header then 0 else 1, 0, { m := m })) = true)
    ∧ (let w := 0x3F
       endsB (st12 w) w 0x3F (fun m _ => (0, 0, { m := m })) = true) := by
  refine ⟨by decide +kernel, by decide +kernel, by decide +kernel, by decide +kernel, by decide +kernel, by decide +kernel,
    by decide +kernel, by decide +kernel, by decide +kernel, by decide +kernel, by decide +kernel, by decide +kernel,
    by decide +kernel, by decide +kernel, by decide +kernel, by decide +kernel⟩

/-- Set 5 with a word that its checks fault: of each opcode, with a reserved bit set; and a context held for the limit. -/
theorem witness_StreamFaultsStopTheSet :
    (∀ w ∈ [0x101, 0x110, 0x111, 0x120, 0x122, 0x13F], let m := (st12 w).m
      [2, 3, 4, 5, 6, 7].find? (m.ctxReady 3) = some 2 ∧ m.nextCmd 3 2 = some w ∧ (m.streamSet (m.ctx 3 2).setId).commonFault w ≠ 0
        ∧ (mGet m.streams.sets (m.ctx 3 2).setId).isSome = true)
    ∧ (let m := (cfgd (st12 (1 + put 1 1 17) H12 (fun c => { c with depMet := false, held := 4 })) 0x3100 9 [4, 0, 0, 0]).m
       let c := m.ctx 3 2
       m.cfg 0x3100 0x09 ≠ 0 ∧ c.state = 1 ∧ c.depMet = false ∧ m.cfg 0x3100 0x09 ≤ c.held ∧ (mGet m.streams.sets c.setId).isSome = true) := by
  decide +kernel

/-- A combine area's header. -/
def area (coll rows op fmt : Nat) : Nat := put coll 32 96 + put rows 32 64 + put 3 32 32 + put op 2 6 + put fmt 3 3
/-- A job of one keyed tensor. -/
def keyedB : Bytes :=
  toLe 128 (put 3 6 0 + put 1 9 399 + put 1 8 408 + put 1 8 424 + put 1 8 432 + put 20 8 440 + put 64 64 576) ++ toLe 4 0
    ++ toLe 64 (put 2 2 196 + put 0 2 200 + put 64 64 320)

/-- A reserved counter and one that is not; the last Vat operand of a file; a winner write that its area matches and one
that it does not; a GFX64 operand at the last word; a keyed tensor of a running job; and a line of its port and none. -/
theorem witness_OperandRowsComplete :
    (st12 1).m.evtReserved 3 8 = true ∧ live.m.evtReserved 3 8 = false ∧ (toLe 40 7).length = 40 ∧ 0x40000 - 40 + 40 ≤ 0x40000
    ∧ (let m := (onM ss (fun m => m.sliceWrite 3 (sliceBytes - 48) (toLe 16 (area 9 2 1 0)))).m
       (Instr.winnerWrite 3 (sliceBytes - 48) 9 2 1 0 8 (zeros 32)).wellFormed = true ∧ sliceBytes - 48 + 16 + 16 * 2 ≤ sliceBytes
         ∧ areaMatches (leNat (m.sliceRead 3 (sliceBytes - 48) 16)) 9 2 1 0 = true ∧ areaMatches (leNat (m.sliceRead 3 (sliceBytes - 48) 16)) 9 2 0 0 = false)
    ∧ (live.m.lpddrUsable - 8) % 8 = 0 ∧ live.m.lpddrUsable - 8 + 8 ≤ live.m.lpddrUsable ∧ live.m.poisonIn (live.m.lpddrUsable - 8) 8 = []
    ∧ (let m := (jb { state := 2, config := keyedB }).m
       (m.job 3).state = 2 ∧ 0 < jobTensors (m.job 3).config ∧ tenKind (jobTensor (m.job 3).config 0) = 2)
    ∧ (let l : Line := { port := 1, job := 3, device := 4, addr := 512, lane := 0, values := [(0, 7)] }
       let m := (jb { state := 2, config := jobB }).m
       let m' := (onM (jb { state := 2, config := jobB }) (fun m => { m with jobs := { m.jobs with lines := [l] } })).m
       (m.job 3).state = 2 ∧ (∀ x ∈ m.jobs.lines, x.sameAs l = false) ∧ (m.jobs.lines.filter (fun x => x.port == 1)).length < 4096
         ∧ ∃ x ∈ m'.jobs.lines, x.sameAs { port := 1, job := 3, device := 4, addr := 760 / 256 * 256, lane := 0, values := [(760 % 256 / 8, 9)] } = true) := by
  decide +kernel

/-! ## Witnesses: look-ups and deadlines -/

/-- A descriptor of table 2, with its combine at the requester. -/
def TD : Nat := tabD 2 4096 + put 1 1 43 + put 1 3 48
/-- A look-up record of two bags, and its look-up. -/
def lkH : Nat := put 2 6 0 + put 9 6 18 + put 2 20 24 + put (1024 / 4) 21 44 + put (4096 / 4) 21 65 + put (2048 / 4) 21 86
def lk : Lookup := { tile := 3, ctx := 2, addr := 8192, frame := 100, table := 2, desc := TD, valid := 2, want := [(0, 0, 0)] }
/-- Tables with these look-ups and routes. -/
def looked (lks : List Lookup) (rs : List Route := []) : State :=
  onM (st12 1 H12 id (toLe 64 lkH)) (fun m => { m with tables := { m.tables with tables := [(2, { active := some TD })], lookups := lks, routes := rs } })
/-- A route that has arrived whole. -/
def rt0 : Route :=
  { device := 0, tile := 3, request := 2 * 2 ^ 23 + 8192, ownDev := 0, owner := 0, pool := 3, table := 2
    occ := [(0, 1, 0x3F800000), (1, 4, 0x40000000), (0, 2, 0x3F800000)] }

/-- A quarantined tile; a whole route of the own module; a look-up whose partials are there, one that is late with one
missing, and one with none missing; no late look-up; the refresh before a tick that is due and before one that is not. -/
theorem witness_LookupRowsComplete :
    ((hl (fun h => { h with tiles := [(511, { state := 1 })] })).m.tileHealth 511).state = 1
    ∧ (let m := (looked [lk] [rt0]).m
       (m.tileHealth 3).state ≠ 1 ∧ m.tables.routes = [rt0] ∧ rt0.pool = 3 ∧ rt0.whole = true ∧ (m.table rt0.table).active = some TD
         ∧ (∀ o ∈ rt0.occ, m.rowPoison 3 TD o.2.1 = false) ∧ rt0.device = m.device ∧ rt0.ownDev = m.device ∧ m.tables.lookups = [lk]
         ∧ lk.tile = rt0.tile ∧ lk.ctx * 2 ^ 23 + lk.addr = rt0.request ∧ lk.frame = m.clock.sfc ∧ lk.parts = [] ∧ tabCombine TD = true)
    ∧ (let l : Lookup := { lk with want := [] }
       let m := (looked [l]).m
       (m.tileHealth 3).state ≠ 1 ∧ m.tables.lookups.filter (fun l => l.tile == 3 && l.full) = [l])
    ∧ (∀ ws ∈ [[], [(0, 0, 0)]], let l : Lookup := { lk with want := ws, frame := 99 }
       let m := (looked [l]).m
       m.tables.lookups.filter (fun l => decide (l.frame < m.clock.sfc)) = [l]
         ∧ (l.want.filter (fun w => !l.arrived.any (fun q => (q.1, q.2.1, q.2.2.1) == w))).length = ws.length
         ∧ let h := leNat (m.sliceRead 3 8192 64)
           (m.ctx 3 2).at (lkOut h) + 128 ≤ 8192 ∧ m.evtReserved 3 (lkEvt h) = true)
    ∧ live.m.tables.lookups = []
    ∧ (100 + 1) % max 1 ((cfgd live 0x3200 0x0A (toLe 4 101)).m.cfg 0x3200 0x0A) = 0 ∧ live.m.schedule = []
    ∧ (100 + 1) % max 1 ((cfgd live 0x3200 0x0A (toLe 4 100)).m.cfg 0x3200 0x0A) ≠ 0 := by
  refine ⟨by decide +kernel, by decide +kernel, by decide +kernel, by decide +kernel, by decide +kernel, by decide +kernel, by decide +kernel, by decide +kernel⟩

/-- A job whose deadline is frame 100, with its STATUS_ADDR, notify tile and counter, as changed by f. -/
def due (f : Job → Job := id) : State :=
  let cfg := toLe 128 (leNat (sub jobB 0 128) + put 2048 64 704 + put 9 6 450 + put 3 9 456) ++ sub jobB 128 68
  let span := jobSpan cfg
  onM (st12 1) (fun m => { m with jobs := { m.jobs with jobs := [(3, f { state := 2, config := cfg, start := 100 - span, step := 7 })] } })
/-- A verdict of its step. -/
def vd (o : Nat) : Verdict := { step := 7, start := (due.m.job 3).start, outcome := o }
/-- The record of a late verdict of step 7. -/
def lateRec (o : Nat) : Bytes := toLe 64 (put 3 6 0 + put o 8 64 + put 7 32 160 + put 110 64 192)

/-- A job that is not running, one that has acted, and one at its deadline with each verdict and with none; and a late verdict
of the step that the job noted and of another. -/
theorem witness_DeadlineRowsComplete :
    ((due (fun x => { x with state := 1 })).m.job 3).state ≠ 2
    ∧ (let x := due.m.job 3
       x.state = 2 ∧ x.acted = false ∧ due.m.clock.sfc = x.deadline ∧ x.verdictNow = none)
    ∧ (∀ o ∈ [0, 1, 2], ((due (fun x => { x with verdicts := [vd o] })).m.job 3).verdictNow = some (vd o))
    ∧ due.m.clock.now ≤ T ∧ (∀ o ∈ [0, 2], (Instr.lateVerdict T 3 (lateRec o)).wellFormed = true)
    ∧ (let x := (due (fun x => { x with acted := true, lateStep := some 7 })).m.job 3
       x.state = 2 ∧ x.lateStep = some (verdictOf x.config (lateRec 0)).step)
    ∧ ((due (fun x => { x with acted := true, lateStep := some 6 })).m.job 3).lateStep ≠ some (verdictOf (due.m.job 3).config (lateRec 0)).step := by
  refine ⟨by decide +kernel, by decide +kernel, by decide +kernel, by decide +kernel, by decide +kernel, by decide +kernel, by decide +kernel⟩

/-! ## Witnesses: cascade links -/

/-- A link that is UP, to device d. -/
def lp0 (d : Nat) : LinkPort :=
  { state := 3, lanes := 15, neighDev := d, neighPort := 0, neighCascade := 7, neighSerial := 50 + d, txSeq := 9, rxNext := 5, exchange := 4 }
/-- Device dev of a cascade of three, its ports 0 and 1 linked to devices 0 and 1. -/
def cs (f : Cascade → Cascade := id) (dev : Nat := 2) (s : State := live) : State :=
  onM (cfgd (cfgd s 0x4200 2 (toLe 4 7)) 0x4200 1 [BitVec.ofNat 8 dev]) (fun m =>
    let a0 : NodeState := { version := 1, serial := 50, inCascade := true, adj := [(0, 2, 0), (1, 1, 1)] }
    let a1 : NodeState := { version := 1, serial := 51, inCascade := true, adj := [(0, 2, 1), (1, 0, 1)] }
    let a2 : NodeState := { version := 1, serial := 77, inCascade := true, adj := [(0, 0, 0), (1, 1, 0)] }
    let c : Cascade := { m.cascade with ports := [(0, lp0 0), (1, lp0 1)], nodes := [(0, a0), (1, a1), (2, a2)]
                                        known := [(0, a0), (1, a1), (2, a2)], state := 2, outReason := 0 }
    { m with cascade := f c })
/-- Change port p. -/
def onP (p : Nat) (f : LinkPort → LinkPort) (c : Cascade) : Cascade := { c with ports := mMod c.ports p f }
/-- A cell to this device. -/
def cl (typ arg : Nat) (pay : Bytes := []) (dst : Nat := 2) (src : Nat := 0) (seq : Nat := 5) (ack : Nat := 9) : Bytes := mkCell dst src typ seq ack arg pay

/-- Arrives as a check that runs. -/
def arrivesB (m : Module) (p typ : Nat) (c : Bytes) : Bool :=
  c.length == 272 && cellTyp c == typ && (m.linkPort p).state == 3 && cellSeq c == (m.linkPort p).rxNext
    && (m.linkPort p).window.isEmpty && (m.linkPort p).waiting.isEmpty
    && cellAck c == (match (m.linkPort p).replay with
      | e :: _ => e.1
      | [] => (m.linkPort p).txSeq) && !m.health.armed

theorem arrives_of {m : Module} {p typ : Nat} {c : Bytes} (k : cellCrcOk c = true) (h : arrivesB m p typ c = true) : Arrives m p typ c := by
  simp only [arrivesB, Bool.and_eq_true, beq_iff_eq, List.isEmpty_iff, Bool.not_eq_true'] at h
  obtain ⟨⟨⟨⟨⟨⟨⟨h1, h3⟩, h4⟩, h5⟩, h6⟩, h7⟩, h8⟩, h9⟩ := h
  exact ⟨h1, k, h3, h4, h5, h6, h7, h8, h9⟩

/-- A cell whose CRC field is one too high. -/
def badCell (typ : Nat) : Bytes := let b := (cl typ 0).take 268; b ++ toLe 4 (crc32c b + 1)

theorem badCell_crc (typ : Nat) : cellCrcOk (badCell typ) = false := Laws.cellCrcOk_wrong _ (by simp [cl])

theorem cl_crc (typ arg : Nat) (pay : Bytes) (dst src seq ack : Nat) : cellCrcOk (cl typ arg pay dst src seq ack) = true := Laws.cellCrcOk_mkCell ..

/-- CanSend as a check that runs. -/
def canSendB (m : Module) (p n : Nat) : Bool :=
  (m.linkPort p).state == 3 && (m.linkPort p).waiting.isEmpty && (List.range 4).all (fun k => decide (n ≤ mGetD (m.linkPort p).credits k 0))
    && decide ((m.linkPort p).replay.length + n ≤ 1024)

theorem canSend_of {m : Module} {p n : Nat} (h : canSendB m p n = true) : CanSend m p n := by
  simp only [canSendB, Bool.and_eq_true, beq_iff_eq, List.isEmpty_iff, List.all_eq_true, List.mem_range, decide_eq_true_eq] at h
  exact ⟨h.1.1.1, h.1.1.2, h.1.2, h.2⟩

/-- (Every cell that cl makes has a CRC that holds: cl_crc.) Cells with a bad CRC; an IDLE that acknowledges none, one and both of two cells; the lowest reserved TYPE; a DELAY request
and a response of this exchange; LINK cells that a port in HELLO takes to UP and to MISMATCH, and one with credits at UP. -/
theorem witness_LinkCellsComplete :
    (live.m.clock.now ≤ T ∧ live.m.health.armed = false)
    ∧ (∀ typ ∈ [0, 4], (badCell typ).length = 272 ∧ cellCrcOk (badCell typ) = false ∧ cellTyp (badCell typ) = typ)
    ∧ (∀ a ∈ [9, 10, 11], let c := cl 0 0 [] 0 0 0 a
       let l := (cs (onP 0 (fun l => { l with replay := [(9, [], 10, 0), (10, [], 15, 3)], txSeq := 11 }))).m.linkPort 0
       c.length = 272 ∧ cellTyp c = 0 ∧ l.state = 3 ∧ l.waiting = []
         ∧ (cellAck c + 4096 - (match l.replay with
           | e :: _ => e.1
           | [] => l.txSeq)) % 4096 ≤ l.replay.length)
    ∧ Arrives (cs).m 0 21 (cl 21 0)
    ∧ (let c := cl 2 0 (toLe 8 77 ++ zeros 16 ++ toLe 4 4)
       Arrives (cs).m 0 2 c ∧ cellArg c = 0 ∧ CanSend (cs).m 0 1)
    ∧ (let c := cl 2 1 (toLe 8 77 ++ toLe 8 100 ++ toLe 8 200 ++ toLe 4 4)
       Arrives (cs).m 0 2 c ∧ cellArg c ≠ 0 ∧ leAt (cellPay c) 24 4 = ((cs).m.linkPort 0).exchange)
    ∧ (∀ n ∈ [7, 8], let c := cl 1 0 (toLe 1 0 ++ toLe 1 3 ++ zeros 2 ++ toLe 4 n ++ toLe 8 9)
       let m := (cs (onP 0 (fun l => { l with state := 2 }))).m
       c.length = 272 ∧ cellTyp c = 1 ∧ (m.linkPort 0).state = 2 ∧ (m.linkVerdict ((m.linkPort 0).hello (cellPay c)) = 3 ↔ n = 7))
    ∧ (let c := cl 1 0 (toLe 1 0 ++ toLe 1 3 ++ zeros 2 ++ toLe 4 7 ++ toLe 8 9 ++ zeros 16 ++ toLe 4 5)
       let m := (cs).m
       (m.linkPort 0).state = 3 ∧ m.linkVerdict ((m.linkPort 0).hello (cellPay c)) = 3 ∧ (m.linkPort 0).waiting = [] ∧ leAt (cellPay c) 48 4 = 0
         ∧ leAt (cellPay c) 180 4 = 0 ∧ leAt (cellPay c) 32 4 = 5) := by
  refine ⟨by decide +kernel, ?_, by decide +kernel, arrives_of (cl_crc ..) (by decide +kernel),
    ⟨arrives_of (cl_crc ..) (by decide +kernel), by decide +kernel, canSend_of (by decide +kernel)⟩,
    ⟨arrives_of (cl_crc ..) (by decide +kernel), by decide +kernel, by decide +kernel⟩, by decide +kernel, by decide +kernel⟩
  intro typ h
  simp only [List.mem_cons, List.not_mem_nil, or_false] at h
  rcases h with rfl | rfl <;> exact ⟨by decide +kernel, badCell_crc _, by decide +kernel⟩

/-- A gap that is 499 ns old and one of 500 ns; a cell due once with retries left and with none; a lane that locks on a
training port, one of two that is lost, and the last; a FAILED port after 1 s and before; eight missed beacons; the second of
the state; a timed-out operation of the supervisor and of a stream; and a placement that is 100 us old. -/
theorem witness_LinkTimersComplete :
    (∀ g ∈ [T - 499, T - 500], let l := (cs (onP 0 (fun l => { l with window := [(7, [])], gapSince := some g }))).m.linkPort 0
      l.gapSince = some g ∧ missingSeqs l.rxNext l.window ≠ [] ∧ (T < g + 500 ↔ g = T - 499))
    ∧ (∀ k ∈ [((cs).m.cfg 0x4200 0x16) - 1, (cs).m.cfg 0x4200 0x16], let m := (cs (onP 0 (fun l => { l with replay := [(9, [], 10, k)], txSeq := 10 }))).m
       (m.linkPort 0).state = 3 ∧ (m.linkPort 0).replay.filter (fun e => decide (e.2.2.1 + m.cfg 0x4200 0x15 ≤ T)) = [(9, [], 10, k)]
         ∧ 0 < m.cfg 0x4200 0x16 ∧ (k < m.cfg 0x4200 0x16 ∨ m.cfg 0x4200 0x16 ≤ k))
    ∧ (let l := (cs (onP 0 (fun l => { l with state := 1, lanes := 0 }))).m.linkPort 0
       l.state ≠ 0 ∧ l.state ≠ 5 ∧ l.failedLanes.testBit 3 = false)
    ∧ (∀ n ∈ [1, 3], let l := (cs (onP 0 (fun l => { l with lanes := n }))).m.linkPort 0
       l.lanes.testBit 0 = true ∧ l.lanes.testBit 3 = false ∧ (setBit l.lanes 0 false = 0 ↔ n = 1))
    ∧ (let m := (cs (onP 0 (fun l => { l with state := 5, lanes := 0, since := T }))).m
       m.cfgI 0x4200 0x08 0 ≠ 0 ∧ (m.linkPort 0).state = 5 ∧ (m.linkPort 0).since + 1000000000 ≤ T + 1000000000 ∧ T + 999999999 < (m.linkPort 0).since + 1000000000)
    ∧ (let m := (onM cs (fun m => { m with clock := { m.clock with beaconMiss := 8 } })).m
       m.device ≠ 0 ∧ m.inCascadeConfig = true ∧ 8 ≤ m.clock.beaconMiss)
    ∧ (cs).m.cascade.stateSent + 1000000000 ≤ 1000000000 + T
    ∧ (∀ sid ∈ [0, 5], let m := (cs (fun c => { c with ops := [{ kind := 0, device := 0, issued := 5, tag := 4, tile := 3, ctx := 2, streamId := sid }] }) 2 hold).m
       (∃ o, m.cascade.ops = [o] ∧ o.kind ≠ 6 ∧ o.issued + 1000 * m.cfg 0x4200 0x14 ≤ T ∧ o.streamId = sid)
         ∧ (mGet m.streams.sets (m.ctx 3 2).setId).isSome = true)
    ∧ (let m := (onM (cs (fun c => { c with placements := [{ tag := 1, sent := T - 100000, reply := some (rq 1), action := { seq := 3, kind := 0, target := 110 }
                                                           , targets := [0, 1] }] })) (fun m => { m with vilur := { m.vilur with clients := [tClient] } })).m
       ∃ x, m.cascade.placements = [x] ∧ x.reply = some (rq 1) ∧ m.client (rq 1) = some tClient ∧ x.action.kind ≠ 8 ∧ x.sent + 100000 ≤ T) := by
  refine ⟨by decide +kernel, by decide +kernel, by decide +kernel, by decide +kernel, by decide +kernel, by decide +kernel, by decide +kernel, ?_,
    ⟨_, rfl, rfl, by decide +kernel, by decide, by decide +kernel⟩⟩
  intro sid h
  simp only [List.mem_cons, List.not_mem_nil, or_false] at h
  rcases h with rfl | rfl <;> exact ⟨⟨_, rfl, by decide, by decide +kernel, rfl⟩, by decide +kernel⟩

/-! ## Witnesses: remote memory, jobs and state -/

/-- The cascade's device 2 with streams and data. -/
def cw (f : Cascade → Cascade := id) : State := cs f 2 (hold (setOf H12))
/-- Its address of an offset. -/
def A (x : Nat) : Bytes := toLe 8 (2 * 2 ^ 55 + x)
/-- A SCHED payload's action. -/
def actB (n : Nat) : Bytes := toLe 32 (put n 64 0 + put 9 64 64 + put 0x1010 16 128 + put 4 8 144 + put 0 8 152 + put 5 32 160)
/-- Some bytes. -/
def some16 : Bytes := toLe 16 (2 ^ 127 + 99)
/-- An ACC cell of KIND 0 from a set. -/
def accC (sid : Nat) : Bytes := cl 9 4 (A (slc 3 0x600028) ++ toLe 4 sid ++ toLe 1 0 ++ toLe 1 0 ++ toLe 2 1 ++ toLe 40 (2 ^ 319 + 99))
/-- An operation of tile 3's context 2. -/
def opn (kind tag sid : Nat) : RemoteOp := { kind := kind, device := 0, issued := 5, tag := tag, tile := 3, ctx := 2, streamId := sid, cell := toLe 4 200, dest := 4096 }

/-- SCHED that cancels, that places at the first open frame and one frame before it; READ_REQ of 15, 16 and 4,096 bytes, and
4,097; READ_DATA for a tile; WRITE of 16 and 240 bytes to LPDDR5X, to a slice and to no memory; ACC where the sender may and
where it may not; SIGNAL that adds, sets and neither; DONE with status 0 and another. -/
theorem witness_RemoteMemoryCellsComplete :
    (cw).m.clock.now ≤ T ∧ cellDst (cl 5 3) = (cw).m.device
    ∧ (∀ n ∈ [101, 100], let c := cl 5 3 (actB n)
       Arrives (cw).m 0 5 c ∧ (schedAction (cellPay c)).kind ≠ 8 ∧ leAt (cellPay c) 32 1 ≠ 1 ∧ (schedAction (cellPay c)).target = n
         ∧ (((cw).m.at T).clock.firstFrame ≤ n ↔ n = 101) ∧ (cw).m.hostFull = false ∧ (cw).m.cascade.route 2 2 0 = some 0 ∧ CanSend (cw).m 0 1)
    ∧ (let c := cl 5 3 (actB 110 ++ [1])
       Arrives (cw).m 0 5 c ∧ leAt (cellPay c) 32 1 = 1)
    ∧ (∀ n ∈ [15, 16, 4096, 4097], let c := cl 6 4 (A 64 ++ toLe 4 n)
       Arrives (cw).m 0 6 c ∧ leAt (cellPay c) 8 4 = n ∧ leAt (cellPay c) 12 4 = 0
         ∧ (16 ≤ n → n ≤ 4096 → (cw).m.locateN (leAt (cellPay c) 0 8) n = .lpddr 64 ∧ (cw).m.poisonIn 64 n = []) ∧ CanSend (cw).m 0 16)
    ∧ (let c := cl 7 4 some16
       let m := (cw (fun c => { c with ops := [opn 3 4 5] })).m
       Arrives m 0 7 c ∧ m.opOf 0 4 = some (opn 3 4 5) ∧ (opn 3 4 5).kind = 3 ∧ leNat (opn 3 4 5).cell ≤ 256)
    ∧ (∀ n ∈ [16, 240], ∀ x ∈ [(64, Loc.lpddr 64), (slc 3 4096, Loc.slice 3 4096), (0x700000000000, Loc.unmapped)],
       let c := cl 8 4 (A x.1 ++ zeros 4 ++ toLe 2 n ++ zeros 2 ++ some16)
       let pay := cellPay c
       Arrives (cw).m 0 8 c ∧ n = leAt pay 12 2 ∧ leAt pay 8 4 = 0
         ∧ (leAt pay 0 8 % 2 ^ 55 < serviceJob ∨ serviceJob + 64 * 8192 ≤ leAt pay 0 8 % 2 ^ 55) ∧ (cw).m.locateN (leAt pay 0 8) n = x.2)
    ∧ (∀ sid ∈ [5, 77], let c := accC sid
       let pay := cellPay c
       Arrives (cw).m 0 9 c ∧ leAt pay 12 1 = 0 ∧ leAt pay 14 2 = 1 ∧ (cw).m.locateN (leAt pay 0 8) 40 = .vat 3 0x28
         ∧ (cw).m.remoteMayAcc (leAt pay 8 4) (.vat 3 0x28) 40 = decide (sid = 5) ∧ 0x28 + 40 ≤ 0x40000)
    ∧ (∀ k ∈ [0, 1, 2], let c := cl 10 4 (A (slc 3 0x700000) ++ toLe 4 5 ++ toLe 1 k ++ toLe 1 9 ++ zeros 2 ++ toLe 4 77)
       Arrives (cw).m 0 10 c ∧ (cw).m.locate (leAt (cellPay c) 0 8) = .ctl 3 0 ∧ leAt (cellPay c) 12 1 = k ∧ leAt (cellPay c) 13 1 % 64 = 9
         ∧ (cw).m.evtReserved 3 9 = true)
    ∧ (∀ st ∈ [0, 2], let c := cl 11 6 [BitVec.ofNat 8 st]
       let m := (cw (fun c => { c with ops := [opn 0 6 5] })).m
       Arrives m 0 11 c ∧ leAt (cellPay c) 1 1 ≠ 1 ∧ m.cascade.placements = [] ∧ m.opOf 0 6 = some (opn 0 6 5) ∧ leAt (cellPay c) 0 1 = st
         ∧ (opn 0 6 5).streamId ≠ 0 ∧ (mGet m.streams.sets (m.ctx 3 2).setId).isSome = true) := by
  refine ⟨by decide +kernel, by decide +kernel, ?_, ⟨arrives_of (cl_crc ..) (by decide +kernel), by decide +kernel⟩, ?_,
    ⟨arrives_of (cl_crc ..) (by decide +kernel), by decide +kernel⟩, ?_, ?_, ?_, ?_⟩
  · intro n h
    simp only [List.mem_cons, List.not_mem_nil, or_false] at h
    rcases h with rfl | rfl <;> exact ⟨arrives_of (cl_crc ..) (by decide +kernel), by decide +kernel, by decide +kernel, by decide +kernel,
      by decide +kernel, by decide +kernel, by decide +kernel, canSend_of (by decide +kernel)⟩
  · intro n h
    simp only [List.mem_cons, List.not_mem_nil, or_false] at h
    rcases h with rfl | rfl | rfl | rfl <;> exact ⟨arrives_of (cl_crc ..) (by decide +kernel), by decide +kernel, by decide +kernel,
      by decide +kernel, canSend_of (by decide +kernel)⟩
  · intro n h x g
    simp only [List.mem_cons, List.not_mem_nil, or_false] at h g
    rcases h with rfl | rfl <;> rcases g with rfl | rfl | rfl <;> exact ⟨arrives_of (cl_crc ..) (by decide +kernel), by decide +kernel⟩
  all_goals
    intro n h
    simp only [List.mem_cons, List.not_mem_nil, or_false] at h
  · rcases h with rfl | rfl <;> exact ⟨arrives_of (cl_crc ..) (by decide +kernel), by decide +kernel⟩
  · rcases h with rfl | rfl | rfl <;> exact ⟨arrives_of (cl_crc ..) (by decide +kernel), by decide +kernel⟩
  · rcases h with rfl | rfl <;> exact ⟨arrives_of (cl_crc ..) (by decide +kernel), by decide +kernel⟩

/-- Job 3 on the cascade's device 2, as changed by f. -/
def jcs (f : Job → Job := id) : State :=
  onM (cs) (fun m => { m with jobs := { m.jobs with jobs := [(3, f { state := 2, config := jobB 3 2, start := 98, step := 7 })] } })
/-- A step token. -/
def tokn : StepToken := { bits1 := 5, bits2 := 9, left := 1, saturated := 4, nonfinite := 2, overflow := true }
/-- A LOOKUP cell of a kind. -/
def lkC (kind : Nat) : Bytes :=
  cl 17 0 (toLe 1 kind ++ toLe 1 1 ++ toLe 2 2 ++ toLe 1 2 ++ toLe 1 0 ++ toLe 2 3 ++ toLe 4 77 ++ toLe 2 4 ++ zeros 18 ++ some16)
/-- A beacon from device 0. -/
def bcn (f : Bytes → Bytes := id) : Bytes := cl 3 0 (f (cs).m.beacon ++ toLe 8 5 ++ toLe 1 1)
/-- A STATE cell of device d. -/
def stC (d serial : Nat) : Bytes := cl 4 8 (toLe 1 d ++ toLe 1 1 ++ zeros 2 ++ toLe 8 serial ++ toLe 8 102)

/-- LOOKUP cells of the three kinds; RING with no job running and a line at the last of the job's buffer; TOKENs of another
step, of a phase that has not begun, of phase 1's last lap and phase 2's; an ABORT seen and a new one; STATE of this module and
of a new device; and a BEACON that agrees and one that does not. -/
theorem witness_JobAndStateCellsComplete :
    (∀ k ∈ [0, 2, 3], Arrives (cs).m 0 17 (lkC k) ∧ cellDst (lkC k) = (cs).m.device ∧ leAt (cellPay (lkC k)) 0 1 = k ∧ (cs).m.tables.routes = []
      ∧ leAt (cellPay (lkC k)) 20 4 = 0)
    ∧ (let c := cl 18 (3 + 64 * (put 2 8 33 + 1)) some16
       let m := (jcs).m
       Arrives m 0 18 c ∧ cellDst c = m.device ∧ fld (cellArg c) 5 0 = 3 ∧ (m.job 3).state = 2 ∧ (fld (cellArg c) 47 6).testBit 41 = false
         ∧ fld (fld (cellArg c) 47 6) 40 33 = m.device ∧ fld (fld (cellArg c) 47 6) 32 0 = 1 ∧ m.poisonIn 256 256 = [] ∧ ((cs).m.job 3).state ≠ 2)
    ∧ (∀ x ∈ [(2, 2, 6), (2, 1, 7), (1, 2, 7), (2, 2, 7)], let c := cl 19 3 (tokenPayload x.1 x.2.1 x.2.2 (if x.2.1 = 1 then 110 else 60) tokn)
       let m := (jcs (fun j => { j with start := if x.2.1 = 1 then 110 else 60 })).m
       Arrives m 0 19 c ∧ cellDst c = m.device ∧ tokenOf (cellPay c) = (x.1, x.2.1, x.2.2, tokn) ∧ (m.job 3).state = 2
         ∧ leAt (cellPay c) 112 8 = (m.job 3).start ∧ (m.job 3).step = 7 ∧ ((m.job 3).phaseBegun x.1 m.clock.sfc = decide (x.2.1 = 2)))
    ∧ (let c := cl 20 3 (toLe 4 7 ++ toLe 2 1)
       let m := (jcs).m
       Arrives m 0 20 c ∧ (0, 3, leAt (cellPay c) 0 4) = (0, 3, 7) ∧ m.cascade.aborts = [] ∧ (m.job 3).state = 2 ∧ leAt (cellPay c) 0 4 = (m.job 3).step
         ∧ (m.job 3).acted = false)
    ∧ (Arrives (cs).m 0 4 (stC 2 (cs).m.boot.serial) ∧ leAt (cellPay (stC 2 (cs).m.boot.serial)) 0 1 = (cs).m.device
        ∧ (stateOf (fld (cellArg (stC 2 (cs).m.boot.serial)) 31 0) (cellPay (stC 2 (cs).m.boot.serial))).serial = (cs).m.boot.serial)
    ∧ (Arrives (cs).m 0 4 (stC 9 79) ∧ leAt (cellPay (stC 9 79)) 0 1 = 9 ∧ 9 ≠ (cs).m.device ∧ mGet (cs).m.cascade.nodes 9 = none ∧ (cs).m.clock.ticked = true)
    ∧ (let m := (cs).m
       m.inCascadeConfig = true ∧ m.device ≠ 0 ∧ m.cascade.parent 0 m.device = some (m.linkPort 0).neighDev ∧ m.cfg 0x1100 0x07 ≠ 1 ∧ m.clock.ticked = true
         ∧ m.clock.adoptNext = false ∧ m.clock.beaconHere = none)
    ∧ (∀ ok ∈ [true, false], let c := bcn (fun b => if ok then b else splice b 40 [9])
       let m := (cs).m
       let b := (cellPay c).take 64
       Arrives m 0 3 c ∧ (ok = true ↔ leAt b 0 8 = m.clock.sfc + 1
         ∧ (leAt b 16 8, leAt b 24 8, leAt b 40 4, leAt b 48 1) = (m.clock.baseSfc, m.clock.baseNs, m.clock.period, m.clock.depth) ∧ leAt b 32 8 = m.schedDigest)) := by
  refine ⟨?_, ⟨arrives_of (cl_crc ..) (by decide +kernel), by decide +kernel⟩, ?_, ⟨arrives_of (cl_crc ..) (by decide +kernel), by decide +kernel⟩,
    ⟨arrives_of (cl_crc ..) (by decide +kernel), by decide +kernel⟩, ⟨arrives_of (cl_crc ..) (by decide +kernel), by decide +kernel⟩, by decide +kernel, ?_⟩
  all_goals
    intro n h
    simp only [List.mem_cons, List.not_mem_nil, or_false] at h
  · rcases h with rfl | rfl | rfl <;> exact ⟨arrives_of (cl_crc ..) (by decide +kernel), by decide +kernel⟩
  · rcases h with rfl | rfl | rfl | rfl <;> exact ⟨arrives_of (cl_crc ..) (by decide +kernel), by decide +kernel⟩
  · rcases h with rfl | rfl <;> exact ⟨arrives_of (cl_crc ..) (by decide +kernel), by decide +kernel⟩

/-! ## Witnesses: multicasts and the merge -/

/-- An entry's record of a batch of n queries, and a query's record. -/
def erec (sfc e g n : Nat) : Bytes := toLe 64 (put sfc 64 448 + put n 32 416 + put 64 32 224 + put g 8 216 + put e 8 208)
def qrec (tag e g : Nat) : Bytes := toLe 64 (put tag 32 416 + put 64 32 384 + put g 8 192 + put e 8 184)
/-- A whole batch of one query with tag 3. -/
def btch (g : Nat := 1) (sfc : Nat := 100) : Batch :=
  { entry := 0, group := g, sfc := sfc, members := 7, ends := [(0, erec sfc 0 g 1)], frags := [(3, 0, qrec 3 0 g)] }
/-- A module with this search state. -/
def se (f : Search → Search) (s : State) : State := onM s (fun m => { m with search := f m.search })
/-- A query of the entry that awaits its merge, and answers of two devices. -/
def q1 : Query := { id := 4, role := 1, tag := 3, admSfc := 97, lot := 1, mergeSfc := 99, session := 0, slot := 1, group := 1, stage := 3, params := { k := 2 } }
/-- A cascade module whose active Lot is 1. -/
def mlots (f : Cascade → Cascade := id) : State := lo (fun l => { l with active := some { number := 1, bytes := zeros 64 } }) (cs f)

/-- A cell of each type for its batch or query; a batch at its cut-off that is whole and one that is not, with gate 1 met, with
another undecided, and as the last one; a staged query without its tower outputs in its probe frame; and a query past its
merge's cut-off. -/
theorem witness_MulticastsComplete :
    Arrives (cs).m 0 12 (cl 12 (put 1 8 40) (toLe 8 101 ++ toLe 32 7))
    ∧ (let c := cl 13 (put 1 8 40 + put 4 32 8) (qrec 4 0 1)
       let m := (cs (fun c => { c with batches := [{ btch with frags := [] }] })).m
       Arrives m 0 13 c ∧ m.batchOfQuery c = some { btch with frags := [] })
    ∧ (let c := cl 14 (put 1 8 40) (erec 100 0 1 1)
       let m := (cs (fun c => { c with batches := [{ btch with ends := [] }] })).m
       Arrives m 0 14 c ∧ fld (cellArg c) 7 0 = 0
         ∧ (m.batchesOf (cellSrc c) (fld (cellArg c) 47 40)).find? (fun b => b.sfc == leAt (cellPay c) 56 8) = some { btch with ends := [] })
    ∧ (let c := cl 15 (put 1 8 40 + put 3 32 8) some16
       let m := (cs (fun c => { c with batches := [btch] })).m
       Arrives m 0 15 c ∧ (m.batchesOf (cellSrc c) (fld (cellArg c) 47 40)).reverse.find? (fun b => decide (b.sfc ≤ m.clock.sfc)
         && b.tags.contains (fld (cellArg c) 39 8) && !b.towers.any (fun f => f.1 == fld (cellArg c) 39 8 && f.2.1 == fld (cellArg c) 7 0)) = some btch)
    ∧ (let c := cl 16 (put 3 32 8 + put 1 8 40) (toLe 10 3 ++ toLe 2 8 ++ zeros 52)
       let m := (se (fun x => { x with live := [q1] }) cs).m
       Arrives m 0 16 c ∧ cellDst c = m.device ∧ fld (cellArg c) 7 0 = 0 ∧ 64 + 24 * leAt (cellPay c) 10 2 ≤ 256 ∧ m.search.live = [q1] ∧ q1.role = 1
         ∧ q1.tag = fld (cellArg c) 39 8 ∧ m.search.answers = [])
    ∧ (∀ b ∈ [btch, { btch with ends := [] }], let m := (cs (fun c => { c with batches := [b] })).m
       m.clock.now ≤ T ∧ m.batchOf 0 1 m.clock.sfc = some b ∧ m.receives b = true ∧ b.verdict = 0 ∧ (b.whole = true ↔ b.ends ≠ []) ∧ m.inFrames = true
         ∧ m.cascade.route m.device m.device 0 = some 0 ∧ m.health.armed = false)
    ∧ (se (fun x => { x with gate1 := true }) cs).m.search.gate1 = true
    ∧ (let m := (se (fun x => { x with gate1 := false }) (cs (fun c => { c with batches := [btch, btch 2] }))).m
       m.search.gate1 = false ∧ ∃ x ∈ m.cascade.batches, x.sfc = m.clock.sfc ∧ m.receives x = true ∧ x.verdict = 0 ∧ (x.entry ≠ 0 ∨ x.group ≠ 1))
    ∧ (let m := (se (fun x => { x with gate1 := false }) (cs (fun c => { c with batches := [btch] }))).m
       m.search.gate1 = false ∧ ∀ x ∈ m.cascade.batches, x.entry = 0 ∧ x.group = 1)
    ∧ (let q : Query := { q1 with staged := true, start := 97, role := 2 }
       let m := (se (fun x => { x with live := [q] }) cs).m
       m.search.live.filter (fun q => q.staged && q.towerOut.isNone && decide (probeFrame q.start q.depth ≤ m.clock.sfc)
          && decide (m.clock.tickTime (probeFrame q.start q.depth) + m.cfg 0x4200 0x13 ≤ T + 240000)) = [q])
    ∧ (let m := (se (fun x => { x with live := [q1] }) (mlots (fun c => { c with own := [{ group := 1, sfc := 97, set_ := 7, accepted := [0, 1] }] }))).m
       m.search.live.filter (fun q => q.role == 1 && (decide (q.mergeSfc < m.clock.sfc)
          || (q.mergeSfc == m.clock.sfc && decide (m.clock.tickTime m.clock.sfc + m.cfg 0x4200 0x13 ≤ T)))) = [q1]
         ∧ (m.lotOf q1.lot).isSome = true) := by
  refine ⟨arrives_of (cl_crc ..) (by decide +kernel), ⟨arrives_of (cl_crc ..) (by decide +kernel), by decide +kernel⟩,
    ⟨arrives_of (cl_crc ..) (by decide +kernel), by decide +kernel⟩, ⟨arrives_of (cl_crc ..) (by decide +kernel), by decide +kernel⟩,
    ⟨arrives_of (cl_crc ..) (by decide +kernel), by decide +kernel⟩, by decide +kernel, by decide +kernel, by decide +kernel, by decide +kernel,
    by decide +kernel, by decide +kernel⟩

/-! ## Witnesses: host ports -/

/-- A session of type 1 on port 0. -/
def X0 : Session := { typ := 1, port := 0, state := 2, slots := 4, slotBytes := 1024, rxPsn := 5, txPsn := 3, resultAddr := 4096 }
/-- A window of 8 KiB at 4,096 for session 0. -/
def W1 : Window := { len := 8192, base := 4096, rkey := 9, session := 0, ports := 15, canWrite := true, canRead := true }
/-- A module with X0, as changed by f, as its session 0, and the window. -/
def sx (f : Session → Session := id) (s : State := ss) : State :=
  onM s (fun m => { m with ports := { m.ports with sessions := [(0, f X0)], windows := [(1, W1)] } })
/-- A packet of three bytes. -/
def pk (op : RoceOp) (psn addr : Nat) : RocePacket :=
  { port := 0, op := op, psn := BitVec.ofNat 24 psn, ackReq := true, ce := false, addr := addr, rkey := 9, len := 3, payload := [1, 2, 3] }
/-- Operations of the module that are not acknowledged. -/
def txl : List (Nat × Nat × Out) := [(2, 3, .completion 0 1 4096 [1]), (3, 3, .completion 0 2 4096 [4])]

/-- A SEND with room and with none; a WRITE up to the window's last byte and one past it; a packet one past the expected PSN,
before and after its NAK; an ACK; an RDMA write and read of two packets; an ACK that is owed and none; a retry below
RETRY_COUNT and at it; and an RNR retry below the host's count and at it. -/
theorem witness_RocePacketsComplete :
    (let m := (sx).m
     m.clock.now ≤ T ∧ m.health.armed = false ∧ m.session 0 = some X0 ∧ X0.state = 2 ∧ X0.closing = false ∧ X0.rxPsn < 2 ^ 24
       ∧ X0.unparsed.length < m.cfg 0x4100 0x19 ∧ X0.partMsg = [] ∧ X0.writeAt = none ∧ X0.nakSent = false ∧ X0.unacked = 0)
    ∧ (let p := pk (.send true true) 5 0
       p.port.val = X0.port ∧ p.ce = false ∧ p.payload.length ≤ 4096 ∧ p.psn.toNat = X0.rxPsn ∧ p.op = .send true true)
    ∧ (let n := ss.m.cfg 0x4100 0x19
       n ≤ (((sx (fun x => { x with unparsed := List.replicate n (3, [1]) })).m.session 0).getD X0).unparsed.length)
    ∧ (let p := pk (.write true true) 5 12285
       p.op = .write true true ∧ p.len = p.payload.length ∧ p.payload ≠ [] ∧ ((sx).m.hostAccess 0 0 p.addr p.len p.rkey true).isSome = true)
    ∧ (sx).m.hostAccess 0 0 12286 3 9 true = none
    ∧ (let p := pk (.send true true) 6 0
       p.op ≠ .ack ∧ p.op ≠ .rnr ∧ 0 < (p.psn.toNat + 2 ^ 24 - X0.rxPsn) % 2 ^ 24 ∧ (p.psn.toNat + 2 ^ 24 - X0.rxPsn) % 2 ^ 24 < 2 ^ 23)
    ∧ (sx (fun x => { x with nakSent := true })).m.session 0 = some { X0 with nakSent := true }
    ∧ (pk .ack 3 0).op = .ack
    ∧ (X0.port < 4 ∧ ((sx).m.hostAccess 0 0 7288 5000 9 true).isSome = true
        ∧ ∃ o, (sx).m.hostAccess 0 0 7288 5000 9 false = some o ∧ o < (sx).m.lpddrUsable ∧ o + 5000 ≤ (sx).m.lpddrUsable ∧ (sx).m.poisonIn o 5000 = [])
    ∧ (sx (fun x => { x with unacked := 1 })).m.session 0 = some { X0 with unacked := 1 }
    ∧ (∀ n ∈ [ss.m.cfg 0x4100 0x16 - 1, ss.m.cfg 0x4100 0x16], (sx (fun x => { x with txList := txl, retries := n })).m.session 0 = some { X0 with txList := txl, retries := n }
        ∧ 0 < ss.m.cfg 0x4100 0x16)
    ∧ (∀ n ∈ [2, 3, 7], (sx (fun x => { x with txList := txl, rnrTries := 3, rnrCount := n })).m.session 0 = some { X0 with txList := txl, rnrTries := 3, rnrCount := n }
        ∧ (n = 7 ∨ 3 ≤ n ∨ n ≠ 7 ∧ n < 3)) := by
  refine ⟨by decide +kernel, by decide +kernel, by decide +kernel, by decide +kernel, by decide +kernel, by decide +kernel, by decide +kernel,
    by decide +kernel, ⟨by decide +kernel, by decide +kernel, ⟨_, Option.eq_some_of_isSome (by decide +kernel), by decide +kernel, by decide +kernel, by decide +kernel⟩⟩,
    by decide +kernel, by decide +kernel, by decide +kernel⟩

/-- The private data of a REQ. -/
def reqB (typ slots sb : Nat) : Bytes := toLe 56 (put typ 8 0 + put 4096 64 256 + put 9 32 224 + put slots 32 192 + put sb 32 160)
/-- A module with an address on port 0. -/
def addr0 (s : State := sx) : State := cfgd s 0x4100 6 (toLe 4 0x0A140005)
/-- A WINDOW value, and a client that has selected window i. -/
def wv (len base : Nat) (v : Nat := 7) : Bytes := toLe 32 (v + put len 64 192 + put base 64 128 + put 0xFFFFFFFF 32 64 + put 15 4 4)
def selC (i : Nat) : Client := { tClient with selectors := [(let k := selectorOf 0x4100 0x1C; odKey k.1 k.2 0, i)] }

/-- REQ that is accepted and one that is rejected; RTU of a connecting session; CNP; a rate due to recover; DREQ of a session
without commands; SESSION_RESET; WINDOW 0; a window removed, one a byte past the user region, and one that ends with it. -/
theorem witness_SessionRowsComplete :
    (∃ b ∈ [reqB 1 4 80, reqB 3 4 64], (addr0).m.reqCode 0 0xFFFF0A140005 b = 0) ∧ (addr0).m.reqCode 0 0xFFFF0A140005 (reqB 1 0 80) ≠ 0
    ∧ (sx (fun x => { x with state := 1 })).m.session 0 = some { X0 with state := 1 }
    ∧ ((sx).m.session 0 = some X0 ∧ (cfgd sx 0x4100 0x10 [1]).m.cfgB 0x4100 0x10 = true)
    ∧ X0.cnpSeen + ss.m.cfg 0x4100 0x13 * 1000 ≤ T ∧ ss.m.cistern.cmds = [] ∧ X0.typ ≠ 2
    ∧ Put sx (wr 0x4100 0x1E (toLe 4 0)) tClient (fun _ _ m => (wr 0x4100 0x1E []).writes 0x4100 0x1E && m.cistern.cmds.isEmpty)
    ∧ Put sx (wr 0x4100 0x1C (wv 4096 4096)) (selC 0) (fun o _ _ => (wr 0x4100 0x1C []).writes 0x4100 0x1C && (selC 0).inst o == 0)
    ∧ Put sx (wr 0x4100 0x1C (wv 4096 4096 0)) (selC 1) (fun o v _ => (selC 1).inst o == 1 && (recordWindow v).isNone)
    ∧ Put sx (wr 0x4100 0x1C (wv 4096 (2 ^ 33))) (selC 31) (fun o v m => (selC 31).inst o == 31
        && (recordWindow v).any (fun w => decide (m.userRegion < w.base + w.len)))
    ∧ Put sx (wr 0x4100 0x1C (wv 4096 (2 ^ 33 - 4096))) (selC 31) (fun o v m => (selC 31).inst o == 31
        && (recordWindow v).any (fun w => decide (w.base + w.len = m.userRegion) && w.len % 4096 == 0 && w.base % 4096 == 0)) := by
  refine ⟨by decide +kernel, by decide +kernel, by decide +kernel, by decide +kernel, by decide +kernel, by decide +kernel, by decide +kernel, ?_, ?_, ?_, ?_, ?_⟩
  all_goals exact put_of (by decide +kernel)

/-- A module with PFC for priority 2 of port 0, and its port 0 as changed by f. -/
def hp (f : HostPort → HostPort := id) : State :=
  onM (cfgd (addr0) 0x4100 0x0F [4]) (fun m => { m with ports := { m.ports with host := [(0, f { linkUp := true })] } })

/-- PFC bytes above 3 MiB, below 2 MiB and between; a paused priority and one without PFC; links that change and do not; one
that has been down for the hold and one that has not; an own address and another; and injectors that hold on each path. -/
theorem witness_HostLinkRowsComplete :
    ss.m.clock.now ≤ T
    ∧ (let m := (hp).m
       (m.cfgI 0x4100 0x0F 0).testBit 2 = true ∧ (m.cfgI 0x4100 0x0F 0).testBit 3 = false ∧ 3145728 < 3145729 ∧ 2 ∉ (m.hostPort 0).xoff
         ∧ (m.hostPort 0).linkUp = true)
    ∧ 2 ∈ ((hp (fun h => { h with xoff := [2] })).m.hostPort 0).xoff ∧ 2097151 < 2097152
    ∧ (∀ a ∈ [0, T], let m := (hp (fun h => { h with linkUp := false, downSince := some a })).m
       (m.hostPort 0).linkUp = false ∧ (m.hostPort 0).downSince = some a ∧ (a + m.cfg 0x4100 0x18 * 1000000 ≤ 10 ^ 10 + a) ∧ ¬ T + m.cfg 0x4100 0x18 * 1000000 ≤ T)
    ∧ ((hp).m.ownAddress 0 0xFFFF0A140005 = true ∧ (hp).m.ownAddress 0 0xFFFF0A140006 = false)
    ∧ ss.m.ports.inject = []
    ∧ (∀ fl ∈ [0, 128], let m := (cfgd (onM ss (fun m => { m with ports := { m.ports with inject := [(64, { held := some (badCell 0, 0) })] } }))
         0x6100 3 (toLe 1536 fl)).m
       mGetD m.ports.inject 64 {} = { held := some (badCell 0, 0) } ∧ ((m.injRecord true 0 0).testBit 7 = true ↔ fl = 128) ∧ cellCrcOk (badCell 0) = false) := by
  refine ⟨by decide +kernel, by decide +kernel, by decide +kernel, by decide +kernel, by decide +kernel, by decide +kernel, by decide +kernel, ?_⟩
  intro fl h
  simp only [List.mem_cons, List.not_mem_nil, or_false] at h
  rcases h with rfl | rfl <;> exact ⟨rfl, by decide +kernel, badCell_crc _⟩

/-- Both sets of hypotheses are met. -/
theorem witness_HostPortRowsComplete : ss.m.clock.now ≤ T := by decide +kernel

/-! ## Witnesses: queries -/

/-- n bytes with these values at these offsets. -/
def by_ (l : List (Nat × Nat)) (n : Nat) : Bytes := l.foldl (fun b p => setAt b p.1 (BitVec.ofNat 8 p.2)) (zeros n)
/-- Lot 4. -/
def ld4 : LotData := { number := 4, bytes := by_ [(36, 9), (24, 32)] 256, interval := 5, owner := [3], resident := [true] }
/-- A module with Lot 4 active and session 0 of this type, with b the oldest of its messages. -/
def msgd (typ : Nat) (b : Bytes) (s : State := ss) : State :=
  onM s (fun m => { m with lots := { m.lots with active := some ld4, library := [(4, {})] }
                           ports := { m.ports with sessions := [(0, { X0 with typ := typ, unparsed := [(77, b), (5, [1])], filter := some [3] })] } })
/-- A cascade module whose port 0 serves group 1, with its batch of the next tick open. -/
def grouped : State :=
  onM (cfgd (cfgd cs 0x4200 0x12 (toLe 4 0x01010101)) 0x4200 0x11 (by_ [(0, 1), (30, 1)] 1088) 1)
    (fun m => { m with cascade := { m.cascade with own := [{ group := 1, sfc := 101, set_ := 7 }] } })
/-- A QUERY, a SET_DEFAULTS that is valid with each filter, and one that is not; an ATTR_WRITE. -/
def qMsg : Bytes := by_ [(0, 1), (4, 1), (28, 2)] 64
def dMsg (sel : Nat) : Bytes := if sel = 2 then by_ [(0, 2), (28, 1), (7, 2), (20, 24), (64, 1), (65, 1), (72, 1), (73, 2)] 128 else by_ [(0, 2), (28, 1), (7, sel)] 64
def aMsg (ord : Nat) : Bytes := by_ [(0, 0x10), (8, 1), (4, 4), (12, 2), (64, ord)] 80

/-- A QUERY alone and for an open batch; a SET_DEFAULTS with each FILTER_SEL, and one that names a slot past the last; an
ATTR_WRITE of the last ordinal of its Lot, of one past it, and one that is too short. -/
theorem witness_SessionMessagesComplete :
    (let m := (msgd 1 qMsg).m
     let x := (m.session 0).getD X0
     m.clock.now ≤ T ∧ m.session 0 = some x ∧ x.state = 2 ∧ x.unparsed = (77, qMsg) :: [(5, [1])] ∧ x.typ = 1 ∧ msgOp qMsg ≠ 2
       ∧ msgDiscarded qMsg x.slots = false ∧ m.portGroup 0 = none)
    ∧ (let m := (msgd 1 qMsg grouped).m
       m.portGroup 0 = some 1 ∧ m.inFrames = true ∧ msgMalformed qMsg false = false ∧ ∃ o ∈ m.cascade.own, some o.group = m.portGroup 0 ∧ o.sfc = m.clock.sfc + 1)
    ∧ msgDiscarded (zeros 63) 4 = true ∧ msgDiscarded (by_ [(0, 1), (4, 1), (28, 3)] 64) 4 = false
    ∧ (∀ n ∈ [0, 1, 2], msgOp (dMsg n) = 2 ∧ 64 ≤ (dMsg n).length ∧ msgDiscarded (dMsg n) 4 = false ∧ msgFilterSel (dMsg n) = n
        ∧ defaultsInvalid (dMsg n) X0.kMax = false)
    ∧ defaultsInvalid (by_ [(0, 2), (28, 1), (7, 3)] 64) X0.kMax = true ∧ msgDiscarded (by_ [(0, 2), (28, 9)] 64) 4 = true
    ∧ (let m := (msgd 3 (aMsg 8)).m
       64 ≤ (aMsg 8).length ∧ attrSlot (aMsg 8) < 4 ∧ m.attrStatus (aMsg 8) = (0, 0) ∧ (m.attrStatus (aMsg 9)).1 ≠ 0)
    ∧ (zeros 63).length < 64 := by decide +kernel

/-- Query 4 of Lot 4. -/
def q4 : Query :=
  { id := 4, tag := 3, admSfc := 97, start := 100, depth := 3, lot := 4, session := 0, slot := 1, group := 1, q := [1, 2], params := { k := 2, c := 10, p := 1 } }
/-- A module with this query in flight in Lot 4. -/
def flown (q : Query) (f : Search → Search := id) (s : State := ss) : State :=
  onM s (fun m => { m with lots := { m.lots with active := some ld4 }, search := f { m.search with live := [q], gate1 := true } })
/-- An ledger with nothing left in frame 101. -/
def spent (x : Search) : Search := { x with ledger := [(101, { clocks := (List.range 512).map (fun t => (t, 10 ^ 12)), lpddr := 10 ^ 15 })] }
/-- Query 4 as gate 2 charges it. -/
def charged (m : Module) : Option Module :=
  let f := scanFrame q4.start q4.depth
  let y := m.openLedger f
  y.tryCharge (y.scanCharge ld4 q4.visit q4.attrFrame f :: rerankCharges ld4 q4.params q4.home q4.start q4.depth q4.role q4.port q4.share)

/-- Gate 2 for a query whose charges fit and one whose charges do not, and after it has run; the last contribution that is due,
one that is not, and one that meets poison; the re-rank of each role, and of a query that reads poison; a query at
DEFER_LIMIT_FRAMES; and a cost interval that ends now and one that does not. -/
theorem witness_PipelineRowsComplete :
    (let m := (flown q4).m
     m.search.gate1 = true ∧ m.search.gate2 = false ∧ m.search.live = [q4] ∧ q4.stage = 0 ∧ q4.depth ≤ 3 ∧ q4.start = m.clock.sfc ∧ q4.q ≠ []
       ∧ m.lotOf q4.lot = some ld4 ∧ q4.deferred = false ∧ m.busyBefore q4 = false ∧ (charged m).isSome = true ∧ q4.role ≠ 2)
    ∧ (charged (flown q4 spent).m).isNone = true
    ∧ (let m := (flown q4 (fun x => { x with gate2 := true })).m
       m.search.gate2 = true ∧ ∀ q ∈ m.search.live, q.q ≠ [])
    ∧ (∀ d ∈ [[3, 511], [511]], let q : Query := { q4 with stage := 1, start := 99, due := d }
       let m := (flown q).m
       m.query 4 = some q ∧ m.lotOf q.lot = some ld4 ∧ q.stage = 1 ∧ scanFrame q.start q.depth = m.clock.sfc ∧ 511 ∈ q.due ∧ (m.tileHealth 511).state ≠ 1
         ∧ m.stagedPoison ld4 q 511 = false ∧ 4 ∉ q.due)
    ∧ (∀ role ∈ [0, 1, 2], let q : Query := { q4 with stage := 2, start := 98, role := role }
       let m := (flown q).m
       m.query 4 = some q ∧ m.lotOf q.lot = some ld4 ∧ q.stage = 2 ∧ rerankFrame q.start q.depth = m.clock.sfc ∧ q.rerankSet.1 = [])
    ∧ (let q : Query := { q4 with stage := 2, start := 98, base := [0] }
       let y := (imgOff ld4.bytes 11, 8)
       let m := (onM (flown q) (fun m => { m with mem := { m.mem with lotPoison := [(4, y.1)] } })).m
       m.query 4 = some q ∧ q.role = 0 ∧ 0 ∈ q.rerankSet.1 ∧ y ∈ rerankReads ld4.bytes 0 ∧ m.lotPoisoned q.lot y.1 y.2 = true)
    ∧ (let m := (flown q4).m
       let q : Query := { q4 with stage := 4, admSfc := 100 - m.cfg 0x1100 0x17 }
       m.cfg 0x1100 0x17 ≤ 100 ∧ (flown q).m.search.live.filter (fun q => (q.stage == 4 || q.deferred) && decide (q.admSfc + m.cfg 0x1100 0x17 ≤ 100)) = [q])
    ∧ ss.m.lots.active = none
    ∧ (∀ n ∈ [95, 96], let m := (cfgd (flown q4) 0x1200 5 (toLe 4 n)).m
       m.lots.active = some ld4 ∧ (ld4.interval + m.cfg 0x1200 0x05 ≤ m.clock.sfc ↔ n = 95)) := by
  refine ⟨by decide +kernel, by decide +kernel, by decide +kernel, by decide +kernel, by decide +kernel, by decide +kernel, by decide +kernel,
    by decide +kernel, by decide +kernel⟩

/-! ## Witnesses: the tick and rules of the whole machine -/

/-- A device of a cascade with two writes of one object and other actions due at the next tick. -/
def dueTick : State :=
  onM (cs) (fun m => { m with schedule := [
    { seq := 1, kind := 0, key := odKey 0x1010 4 0, value := [9, 0], target := 101 }, { seq := 9, kind := 0, key := odKey 0x1010 4 0, value := [7, 0], target := 101 },
    { seq := 3, kind := 5, arg := 4, target := 101 }, { seq := 6, kind := 7, target := 101 }] })

/-- The write that governs. -/
def lastW : Action := { seq := 9, kind := 0, key := odKey 0x1010 4 0, value := [7, 0], target := 101 }

/-- A module after reset, which does not serve time; one that does, with the last of two writes of an object. -/
theorem witness_TickCompletes :
    State.reset.m.mayTick = false ∧ dueTick.m.mayTick = true ∧ dueTick.m.clock.adopt = none ∧ dueTick.m.clock.drainEnd = none
    ∧ lastW ∈ dueTick.m.schedule ∧ lastW.kind = 0 ∧ lastW.target = dueTick.m.clock.next
    ∧ (findObj (lastW.key / 2 ^ 24) (lastW.key / 2 ^ 16 % 256)).any (fun o => o.access != 3) = true ∧ lastW.key / 2 ^ 24 ≠ 0x6100
    ∧ ∀ b ∈ dueTick.m.schedule, b.kind = 0 → b.key = lastW.key → b.target ≤ dueTick.m.clock.next → b ≠ lastW →
        b.target < dueTick.m.clock.next ∨ b.seq < lastW.seq := by decide +kernel

/-- Differences just below 2^31 and of 2^31; a tile whose contexts' markers are unsatisfied; a running context with a marker; and
one whose WAIT is followed by a command with a marker. -/
theorem witness_MarkersHoldCommands :
    evtReached (2 ^ 31 - 1) 0 = true ∧ evtReached (2 ^ 31) 0 = false ∧ evtReached 0 (2 ^ 32 - 1) = true
    ∧ (let m := (st12 (0x31 + put 1 1 17 + put 8 6 18 + put 6 32 32) H12 (fun c => { c with depMet := false })).m
       (∀ k, k < 8 → (m.ctx 3 k).state = 1 → (m.ctx 3 k).depMet = false) ∧ (m.ctx 3 2).state = 1
         ∧ m.nextCmd 3 2 = some (0x31 + put 1 1 17 + put 8 6 18 + put 6 32 32))
    ∧ (let m := (onM (st12 0x31) (fun m => m.sliceWrite 3 32 (toLe 32 (0x31 + put 1 1 17 + put 8 6 18 + put 6 32 32)))).m
       readyB m 0x31 = true ∧ cmdOp 0x31 = 0x31 ∧ (0x31 : Nat).testBit 64 = false ∧ (m.ctx 3 2).waitTick = none
         ∧ leNat (m.sliceRead 3 32 32) = 0x31 + put 1 1 17 + put 8 6 18 + put 6 32 32) := by
  refine ⟨by decide, by decide, by decide, by decide +kernel, by decide +kernel⟩

/-- Two tiles that are due, the first and the last. -/
theorem witness_ContributionsCommute :
    let q : Query := { q4 with stage := 1, start := 99, due := [0, 511] }
    let m := (flown q).m
    m.query 4 = some q ∧ m.lotOf q.lot = some ld4 ∧ (0 : Fin 512) ≠ 511 ∧ q.stage = 1 ∧ scanFrame q.start q.depth = m.clock.sfc
      ∧ ∀ x ∈ [0, 511], x ∈ q.due ∧ (m.tileHealth x).state ≠ 1 ∧ m.stagedPoison ld4 q x = false := by decide +kernel

/-- A query that widens and one that has k entries in the base tier. -/
theorem witness_RerankSetWidens :
    (let q : Query := { q4 with params := { k := 2, c := 3, pw := 8 }, base := [7], wide := [5, 9, 11] }
     q.base = mergeKeys 3 [7] [] ∧ q.wide = mergeKeys 3 [5, 9] [11, 5] ∧ q.params.pw ≠ 0 ∧ q.base.length < q.params.k
       ∧ ∀ j ∈ q.base ++ q.wide, ∀ k ∈ q.base ++ q.wide, j % 2 ^ 35 = k % 2 ^ 35 → j = k)
    ∧ (let q : Query := { q4 with params := { k := 2, c := 3, pw := 8 }, base := [7, 8] }
       q.params.k ≤ q.base.length) := by decide +kernel

/-- Reset, and a step from it. -/
theorem witness_MemoryStaysCanonical :
    State.reset.m.memoryCanonical = true ∧ isNext (step { State.reset with pending := [.tick []] }) = true
      ∧ ({ State.reset with pending := [.tick []] } : State).m.memoryCanonical = true := by decide +kernel

/-- Nothing is assumed of reset. -/
theorem witness_ResetMemoryIsCanonical : State.reset.m.cistern.nand = [] := rfl

/-! ## Ill-formed commands -/

/-- That command is refused under that name. -/
def refusedAs (x : Instr × String) : Bool :=
  !x.1.wellFormed && (match exec x.1 State.reset with
    | .refused r => decide (r = .illFormed x.2)
    | _ => false)

/-- Cells of 271 bytes, in every row that carries a cell (14 R389). -/
def shortCells : List (Instr × String) :=
  [(.beacon 0 T (zeros 271), "BEACON"),
   (.tokenCell 0 T (zeros 271), "TOKEN"),
   (.ring 0 T (zeros 271), "RING"),
   (.abort 0 T (zeros 271), "ABORT"),
   (.batchOpen 0 T (zeros 271), "BATCH_OPEN"),
   (.queryRecord 0 T (zeros 271), "QUERY_RECORD"),
   (.batchEnd 0 T (zeros 271), "BATCH_END"),
   (.towerOut 0 T (zeros 271), "TOWER_OUT"),
   (.answer 0 T (zeros 271), "ANSWER"),
   (.sched 0 T (zeros 271), "SCHED"),
   (.doneCell 0 T (zeros 271), "DONE"),
   (.stateCell 0 T (zeros 271), "STATE"),
   (.link 0 T (zeros 271), "LINK"),
   (.delay 0 T (zeros 271), "DELAY"),
   (.readReq 0 T (zeros 271), "READ_REQ"),
   (.readData 0 T (zeros 271), "READ_DATA"),
   (.writeCell 0 T (zeros 271), "WRITE"),
   (.acc 0 T (zeros 271), "ACC"),
   (.remoteSignal 0 T (zeros 271), "REMOTE_SIGNAL"),
   (.lookup 0 T (zeros 271), "LOOKUP"),
   (.idle 0 T (zeros 271), "IDLE"),
   (.reservedTypeCell 0 T (zeros 271), "RESERVED_TYPE_CELL")]

/-- Cells of 272 bytes whose TYPE is not the row's (14 Table 14-2): a TYPE 63 in every typed row, and a TYPE 20 as a reserved one. -/
def strangeCells : List (Instr × String) :=
  let c := zeros 9 ++ [252] ++ zeros 262
  [(.beacon 0 T c, "BEACON"),
   (.tokenCell 0 T c, "TOKEN"),
   (.ring 0 T c, "RING"),
   (.abort 0 T c, "ABORT"),
   (.batchOpen 0 T c, "BATCH_OPEN"),
   (.queryRecord 0 T c, "QUERY_RECORD"),
   (.batchEnd 0 T c, "BATCH_END"),
   (.towerOut 0 T c, "TOWER_OUT"),
   (.answer 0 T c, "ANSWER"),
   (.sched 0 T c, "SCHED"),
   (.doneCell 0 T c, "DONE"),
   (.stateCell 0 T c, "STATE"),
   (.link 0 T c, "LINK"),
   (.delay 0 T c, "DELAY"),
   (.readReq 0 T c, "READ_REQ"),
   (.readData 0 T c, "READ_DATA"),
   (.writeCell 0 T c, "WRITE"),
   (.acc 0 T c, "ACC"),
   (.remoteSignal 0 T c, "REMOTE_SIGNAL"),
   (.lookup 0 T c, "LOOKUP"),
   (.idle 0 T c, "IDLE"),
   (.reservedTypeCell 0 T (zeros 9 ++ [80] ++ zeros 262), "RESERVED_TYPE_CELL")]

/-- Operands of a length that the row's event cannot have. -/
def shortOperands : List (Instr × String) :=
  [(.journalLimitUpdate T 30000 (List.replicate 12 0), "JOURNAL_LIMIT_UPDATE"),
   (.thermalAlert T (List.replicate 19 0), "THERMAL_ALERT"),
   (.thermalTrip T (List.replicate 21 0) 0, "THERMAL_TRIP"),
   (.thermalAlertEnd T [], "THERMAL_ALERT_END"),
   (.capacitanceTest T (List.replicate 13 0) (List.replicate 12 0) 0, "CAPACITANCE_TEST"),
   (.vatAccumulateWrite 0 0 (zeros 39), "VAT_ACCUMULATE_WRITE"),
   (.winnerWrite 0 0 0 1 0 0 0 (zeros 17), "WINNER_WRITE"),
   (.rocePacket T 1 { pk (.send true true) 0 0 with payload := zeros 4097 }, "ROCE_PACKET"),
   (.lateVerdict T 0 (zeros 65), "LATE_VERDICT"),
   (.ownerKeyChunk T (zeros 256), "OWNER_KEY_CHUNK"),
   (.ownerKeyCommit T (zeros 256), "OWNER_KEY_COMMIT")]

theorem test_short_cells_refused : shortCells.all refusedAs = true := by decide +kernel
theorem test_strange_cells_refused : strangeCells.all refusedAs = true := by decide +kernel
theorem test_short_operands_refused : shortOperands.all refusedAs = true := by decide +kernel

/-! ## The spec's worked examples -/

/-- FP32 bits of a fraction. -/
def f32 (r : Rat) : Nat := round32 r

/-- CRC-32C of "123456789" (14 R392). -/
theorem test_crc32c : crc32c (ascii "123456789") = 0xE3069283 := by decide +kernel
/-- CRC-64 of "123456789" (11 R336). -/
theorem test_crc64 : crc64 0 (ascii "123456789") = 0x6C40DF5F0B497347 := by decide +kernel

/-- The example after 12 R342: an address of module 7. -/
theorem test_locate_vat : State.reset.m.locate 0xFF8004000A600040 = .vat 20 64 := by decide +kernel
/-- The example after 13 R378: K_MAX of 1,664-byte slots. -/
theorem test_kMax : ({ typ := 1, slotBytes := 1664 } : Session).kMax = 100 := by decide +kernel

/-- The query of the example after 05 R148. -/
def exQuery : List Nat := [round16 (3 / 2), round16 (-2)] ++ List.replicate 7 0 ++ [round16 (3 / 4)] ++ List.replicate 22 0
/-- Its row: codes 3 and −1, and an escape at dimension 9. -/
def exCodes : List Nat := [3, 15] ++ List.replicate 7 0 ++ [8] ++ List.replicate 22 0
/-- That example, IP, in every mode. -/
theorem test_score_ip : [1, 2, 3].all (fun mode =>
    scoreOf 0 mode 0 exQuery 0 (f32 (1 / 4)) 0 exCodes [f32 (23 / 2)] == 0x40720000) = true
    ∧ metricKey 0 0x40720000 = 0x3F8DFFFF := by decide +kernel
/-- That example, L2. -/
theorem test_score_l2 : scoreOf 1 1 0 exQuery (f32 (6390625 / 1000000)) (f32 (1 / 4)) (f32 (336875 / 10000)) exCodes [f32 (23 / 2)]
    = 0x42021000 ∧ metricKey 1 0x42021000 = 0xC2021000 := by decide +kernel
/-- Score keys of the example of 03, after R90. -/
theorem test_score_keys : metricKey 0 (f32 (7 / 2)) = 0x3F9FFFFF ∧ metricKey 0 (f32 2) = 0x3FFFFFFF
    ∧ metricKey 1 (f32 (7 / 2)) = 0xC0600000 ∧ metricKey 1 (f32 2) = 0xC0000000 := by decide +kernel

/-- A scored row of IP. -/
def ipRow (r : Rat) (key : Nat) : Scored := ⟨f32 r, metricKey 0 (f32 r), key, 0, 0, 0, 0⟩
/-- The example after 05 R152: k is 2 of four scores. -/
theorem test_selection :
    (let s := selectBest 2 [ipRow (121 / 32) 1, ipRow 2 0x31, ipRow 2 0x52, ipRow 1 9]
     s.returned.map (·.key) = [1, 0x31] ∧ s.kth = 0x3FFFFFFF ∧ s.ties = 1) := by decide +kernel

/-- A candidate of the example in 09 Table 09-5. -/
def cand (key index : Nat) : Nat := key * 2 ^ 96 + index * 2 ^ 32
/-- What that example drains: the header, the two entries, and the masses. -/
theorem test_top2 :
    (let r := (newRun 0 1 (1 + 2 ^ 5 + 2 ^ 6 + 2 * 2 ^ 64)).insertAll
        [cand 0x3FFFFFFF 5, cand 0x3F9FFFFF 1, cand 0x3FFFFFFF 2, cand 0x407FFFFF 4, cand 0x3FFFFFFF 0]
     let d := r.drain true
     [leAt d 0 2, leAt d 2 2, leAt d 4 4, leAt d 8 4, leAt d 12 4] = [2, 2, 0, 2, 5]
     ∧ leAt d 16 16 = cand 0x3F9FFFFF 1 ∧ leAt d 32 16 = cand 0x3FFFFFFF 0
     ∧ leAt d 64 4 = f32 5 ∧ leAt d 68 4 = f32 (11 / 2)) := by decide +kernel

/-- The products of the example after 07 R202. -/
def exProds : List XVal := [.fin (2 ^ 24) false, .fin 1 false, .fin (-2 ^ 24) false] ++ List.replicate 29 (.fin 0 false)
/-- EXACT accumulates 1 and CHUNK 2. -/
theorem test_mma_modes : (mmaInto 1 .zero exProds).xval = .fin 1 false ∧ (mmaInto 2 .zero exProds).xval = .fin 2 false := by
  decide +kernel

/-- The example after 07 R221: INT4 in escape mode, and in clamp mode. -/
theorem test_narrow :
    (let ys := [f32 (3 / 2), f32 (-5), f32 (1 / 4), f32 12]
     let ks := [f32 1, f32 2, f32 1, f32 4]
     narrowRow 2 true (7 / 8) ys ks = ⟨f32 (3 / 8), [4, 9, 1, 8], [f32 8], 0, false, false⟩
     ∧ (narrowRow 2 false (7 / 8) ys ks).codes = [4, 9, 1, 7]) := by decide +kernel
/-- GELU of 1 and −1 by its polynomial (07 R218). -/
theorem test_gelu : geluF (f32 1) = f32 (27 / 32) ∧ geluF (f32 (-1)) = f32 (-5 / 32) := by decide +kernel

/-- The example in 10, before Staging: where index 70,000,005 lies. -/
theorem test_table_row :
    (let d := 8 * 2 ^ 88 + 8 * 2 ^ 80 + 4 * 2 ^ 71 + 6 * 2 ^ 51 + 3 * 2 ^ 48
     tabOwnerDev d 70000005 = 10 ∧ tabOwnerTile d 70000005 = 29 ∧ tabRowAddr d 70000005 = 2519996112) := by decide +kernel

/-- The example in 11, after R305: F is 40. -/
theorem test_gfx : gfxOf 40 (.fin (13 / 4) false) = (3573412790272, false, false)
    ∧ gfxOf 40 (.fin (1 / 2 ^ 41) false) = (1, false, false) ∧ gfxOf 40 (.fin (-1 / 2 ^ 41) false) = (2 ^ 64 - 1, false, false)
    ∧ gfxOf 40 (.fin (2 ^ 23) false) = (2 ^ 63 - 1, true, false) := by decide +kernel

/-- The example in 15: 12 cells of 5 F at 25 °C. -/
theorem test_bank_new :
    (let c := bankCap (List.replicate 12 5000) (List.replicate 12 0)
     [0, 12000, 17090, 30000].map (fun v => (journalLimit (bankEnergy c v (tempFactor 250)), holdupState (journalLimit (bankEnergy c v 1000))))
       = [(0, 0), (14, 1), (64, 2), (64, 2)]) := by decide +kernel
/-- The same example, years later: 1.3 F a cell, at 27.6 V. -/
theorem test_bank_aged : journalLimit (bankEnergy (bankCap (List.replicate 12 1300) (List.replicate 12 0)) 27600 1000) = 57 := by
  decide +kernel

/-- The example in 19, before Cooling: 650 W is step 2, 500 W is step 3, and their frames. -/
theorem test_steps : capStep 650 = 2 ∧ capStep 500 = 3 ∧ budgetClocks 250000 2 = 297526 ∧ budgetClocks 100000000 3 = 99973586 := by
  decide +kernel

/-- The Lot of the LATENCY example of 04: DIM 768, 256-bit sketches, 16 entries, degree 32. -/
def exLot : Bytes := zeros 24 ++ toLe 2 768 ++ [0, 0] ++ toLe 2 256 ++ [32, 16] ++ zeros 200
/-- Its costs: 2,264 clocks of preparation and 741 of re-rank. -/
theorem test_costs : prepClocks exLot = 2264 ∧ probeClocks exLot { k := 100, p := 16, c := 100, width := 32, arith := 1 } 2 = 15392
    ∧ rerankQuarters exLot { k := 100, p := 16, c := 100, width := 32, arith := 1 } = 4 * 741 := by decide +kernel
/-- The example of 08: one MMA and one EPI. -/
theorem test_stream_clocks : mmaFigure 1 1 32 32 24 0 = 8460 ∧ epiClocks 32 32 false 0 = 40 := by decide +kernel

/-- 18 R503, R508: a repeated failure in one column asks for the spare column; any other fails the tile; an idle spare that
fails is never placed; a failure that does not repeat is counted alone. -/
theorem test_self_tests :
    (let m := State.reset.m
     let col := m.selfTest 9 ⟨37, 2, 2⟩
     let bad := m.selfTest 9 ⟨37, 2, 3⟩
     let spare := m.selfTest 9 ⟨16, 2, 3⟩
     let once := m.selfTest 9 ⟨37, 2, 1⟩
     (col.schedule.map (fun a => (a.kind, a.part)) = [(4, partOf 1 35 0)] ∧ (col.tileHealth 35).state = 0)
     ∧ ((bad.tileHealth 35).state = 1 ∧ bad.schedule.map (fun a => (a.kind, a.part)) = [(4, partOf 0 35 50)])
     ∧ spare.health.failed = [16] ∧ once.schedule = [] ∧ (once.tileHealth 35).lastPass = 9) := by decide +kernel

/-- 15 R433: a drain that leaves no spare block makes the Cistern READ_ONLY, and logs it once. -/
theorem test_wear :
    (let m := { State.reset.m with cistern := { State.reset.m.cistern with cache := [{ order := 0, block := 3, data := [7] }] } }
     let w := writeCacheDrain 9 0 m
     let k := writeCacheDrain 9 500 m
     w.cistern.readOnly = true ∧ ((mGetD w.health.events 0x000B []).map (·.code)) = [2] ∧ memRead w.cistern.nand 12288 = 7
     ∧ k.cistern.readOnly = false ∧ k.cistern.permille = 500) := by decide +kernel

end Sys2Proof.Tests
end

section
/-! A re-rank that answers over a cascade link, while an injector of the link's port is armed: each cell that leaves steps
the live transmit injectors of its port (14 R418, 13 R386). -/

namespace Sys2Proof.CascadeAnswer

open Sys2Proof.Machine

/-- Lot 4, an image without content. -/
def lot4 : LotData := { number := 4, bytes := zeros 256 }

/-- A query of device 0's batch that this module receives: its scan has found nothing, and its re-rank falls in frame
100. -/
def received : Query := { id := 4, role := 2, entryDev := 0, tag := 3, start := 98, depth := 3, lot := 4, stage := 2 }

/-- An injector that acts and has met no cell yet. -/
def injector : Injector := { live := true }

/-- The states of devices 0 and 1, port 0 of each linked to the other (14 R396). -/
def graph : List (Nat × NodeState) :=
  [(0, { inCascade := true, adj := [(0, 1, 0)] }), (1, { inCascade := true, adj := [(0, 0, 0)] })]

/-- Device 1 of the cascade in frame 100 with the query in flight, its port 0 UP to device 0. While the injectors are
armed, injector 0 of that port drops (ACTION 1) transmitted cells (DIRECTION 1) at RATE 0: it affects no cell. -/
def device1 : Module :=
  let m : Module := {
    clock := { ticked := true, sfc := 100 }
    ports := { inject := [(injKey true 0 0, injector)] }
    search := { live := [received] }
    lots := { active := some lot4 }
    cascade := { ports := [(0, { state := 3, neighDev := 0 })], nodes := graph, known := graph, state := 2, outReason := 0 }
    health := { armed := true } }
  (m.setCfg 0x4200 0x01 0 [1]).setCfg 0x6100 0x03 0 (toLe 1536 (put 1 1 7 + put 1 3 8))

/-- The re-rank sends the answer to device 0, and the injector counts its one cell and steps its generator. -/
theorem rerank_steps_injector :
    (device1.rerank 4).ports.inject = [(injKey true 0 0, { injector with gen := injStep 1, count := 1 })] := by decide +kernel

theorem rerank_changes_inject : ¬ Part.inject.same device1 (device1.rerank 4) := by
  intro (h : (device1.rerank 4).ports.inject = [(injKey true 0 0, injector)])
  rw [rerank_steps_injector] at h
  exact absurd h (by decide)

/-- Refutes O54, by its clause on the re-rank of a query of role 2: where the injectors are armed, the cells of the answer
change the running state of the injectors of their port, which the clause's frame leaves out. -/
theorem not_pipelineRowsComplete : ¬ Obligations.PipelineRowsComplete := by
  unfold Obligations.PipelineRowsComplete
  intro h
  obtain ⟨-, -, -, -, rerank, -⟩ := h { m := device1 }
  obtain ⟨-, -, -, receiver⟩ := rerank 4 received lot4 (by decide +kernel) (by decide +kernel)
  obtain ⟨t, ht, -, only, -⟩ := receiver ⟨rfl, rfl⟩ rfl
  obtain rfl : { m := device1.rerank 4 } = t := Host.Outcome.next.inj ht
  exact rerank_changes_inject (only .inject (by decide))

end Sys2Proof.CascadeAnswer
end

section
/-! A QUERY that is forwarded over a cascade link, while an injector of the link's port is armed: each cell that leaves
steps the live transmit injectors of its port (14 R407, R418, 13 R386). -/

namespace Sys2Proof.CascadeForward

open Sys2Proof.Machine
open Sys2Proof.CascadeAnswer (injector device1)

/-- A QUERY message of one query without elements, for result slot 0: OPCODE 1 and COUNT 1 (04 Table 04-1). -/
def message : Bytes := toLe 64 (put 1 8 0 + put 1 8 32)

/-- A QUERY session in service, of one result slot, with that message its oldest. -/
def session : Session := { typ := 1, state := 2, slots := 1, unparsed := [(0, message)] }

/-- Device 1 of the cascade as an entry module: its host ports serve group 0, whose map is valid, and the group's batch of
the next tick is open towards device 0. Its link to device 0 and the armed injector of that port are those of device1. -/
def entry : Module :=
  let m : Module := { device1 with
    ports := { device1.ports with sessions := [(0, session)] }
    cascade := { device1.cascade with own := [{ group := 0, sfc := 101, set_ := setBit 0 0 true }] } }
  (m.setCfg 0x4200 0x11 0 (toLe 1088 1)).setCfg 0x4200 0x12 0 (toLe 4 0)

/-- The port's group is served, and its batch is open in cascade frames. -/
theorem entry_open : entry.portGroup session.port ≠ none ∧ entry.inFrames = true ∧ msgMalformed message false = false
    ∧ ∃ o ∈ entry.cascade.own, some o.group = entry.portGroup session.port ∧ o.sfc = entry.clock.sfc + 1 := by decide +kernel

/-- The QUERY sends its one record to device 0, and the injector counts its one cell and steps its generator. -/
theorem query_steps_injector :
    (query 0 0 entry).ports.inject = [(injKey true 0 0, { injector with gen := injStep 1, count := 1 })] := by decide +kernel

theorem query_changes_inject : ¬ Part.inject.same entry (query 0 0 entry) := by
  intro (h : (query 0 0 entry).ports.inject = [(injKey true 0 0, injector)])
  rw [query_steps_injector] at h
  exact absurd h (by decide)

/-- Refutes O53, by its clause on a QUERY that is forwarded: where the injectors are armed, the cells of the query record
change the running state of the injectors of their port, which the clause's frame leaves out. -/
theorem not_sessionMessagesComplete : ¬ Obligations.SessionMessagesComplete := by
  unfold Obligations.SessionMessagesComplete
  intro h
  obtain ⟨queries, -, -⟩ := h { m := entry } 0 0 session 0 message [] (by decide +kernel) (by decide +kernel) rfl rfl
  obtain ⟨-, taken⟩ := queries rfl (by decide +kernel)
  obtain ⟨-, forwarded⟩ := taken (by decide +kernel)
  obtain ⟨t, ht, -, only, -⟩ := forwarded entry_open
  obtain rfl : { m := query 0 0 entry } = t := Host.Outcome.next.inj ht
  exact query_changes_inject (only .inject (by decide))

end Sys2Proof.CascadeForward
end

section
/-! What reaches a tile or a job from outside takes its effect (07 R212, 08 R239, 09 R275, R276, 11 R318 to R320): the
rules of tiles, slices and LPDDR5X that these rows use, then one lemma per row. -/

namespace Sys2Proof.Operands

open Sys2Proof.Machine Sys2Proof.Laws

/-- A row that answers the state with a module m' completes with what holds of m'. -/
theorem completes_of_run {i : Instr} {s : State} {gs : List Part} {P : Module → Prop} {m m' : Module}
    (answer : exec i s = .next { s with m := m }) (run : m = m') (only : Only gs s.m m') (effect : P m') : Completes i s gs P := by
  subst run
  exact ⟨_, answer, rfl, only, effect⟩

/-! ## Byte strings in memories -/

@[simp] theorem memReadN_length (c : List Host.Cell) (a n : Nat) : (memReadN c a n).length = n := by simp [memReadN]

theorem memReadN_congr {c d : List Host.Cell} {a n : Nat} (h : ∀ x, a ≤ x → x < a + n → memRead c x = memRead d x) :
    memReadN c a n = memReadN d a n :=
  List.map_congr_left fun i hi => h (a + i) (by omega) (by have := List.mem_range.mp hi; omega)

/-- A byte outside a written string is as it was. -/
theorem memRead_memWriteN_outside (c : List Host.Cell) {a x : Nat} {bs : Bytes} (h : x < a ∨ a + bs.length ≤ x) :
    memRead (memWriteN c a bs) x = memRead c x := by
  rw [memRead_memWriteN, if_neg (by omega)]

/-- A string read back where it was written. -/
theorem memReadN_memWriteN (c : List Host.Cell) (a : Nat) {bs : Bytes} {n : Nat} (h : bs.length = n) :
    memReadN (memWriteN c a bs) a n = bs := by
  subst h
  refine List.ext_getElem (memReadN_length _ _ _) fun i hi hb => ?_
  simp [memReadN, memRead_memWriteN, hb]

/-! ## Tiles and slices -/

theorem tile_onTile (m : Module) (t u : Nat) (f : Tile → Tile) : (m.onTile t f).tile u = if u = t then f (m.tile t) else m.tile u :=
  mGetD_mPut m.tiles t u _ _

@[simp] theorem tile_onTile_self (m : Module) (t : Nat) (f : Tile → Tile) : (m.onTile t f).tile t = f (m.tile t) := by
  simp [tile_onTile]

theorem tile_onTile_ne (m : Module) {t u : Nat} (h : u ≠ t) (f : Tile → Tile) : (m.onTile t f).tile u = m.tile u := by
  simp [tile_onTile, h]

@[simp] theorem tile_count (m : Module) (i s n t : Nat) : (m.count i s n).tile t = m.tile t := rfl

theorem only_onTile {m : Module} {t : Nat} {f : Tile → Tile} : Only [.tiles] m (m.onTile t f) := only_setTile m t _

theorem ctr_count (m : Module) (i s n : Nat) : (m.count i s n).ctr i s = (m.ctr i s + n) % 2 ^ 64 := by
  simp [Module.count, Module.ctr, cnt_countI]

theorem ctr_congr {m m' : Module} (h : m'.od.cnt = m.od.cnt) (i s : Nat) : m'.ctr i s = m.ctr i s := by
  unfold Module.ctr; rw [h]

theorem slice_sliceWrite (m : Module) (t o : Nat) (bs : Bytes) :
    ((m.sliceWrite t o bs).tile t).slice = memWriteN (m.tile t).slice o bs := by simp [Module.sliceWrite]

theorem events_sliceWrite (m : Module) (t o : Nat) (bs : Bytes) : ((m.sliceWrite t o bs).tile t).events = (m.tile t).events := by
  simp [Module.sliceWrite]

theorem only_sliceWrite {m : Module} {t o : Nat} {bs : Bytes} : Only [.tiles] m (m.sliceWrite t o bs) := only_onTile

/-! ## Event counters (08 R239, R240) -/

/-- Whatever every change of a context on the tile keeps, noting satisfied dependence markers keeps. -/
theorem settle_keeps {P : Module → Prop} {m : Module} (t : Nat) (start : P m) (keep : ∀ m k f, P m → P (m.onCtx t k f)) :
    P (m.settle t) := by
  refine List.foldlRecOn _ _ start fun b hb k _ => ?_
  dsimp only
  split
  · exact hb
  · split
    · exact hb
    · split
      · exact hb
      · exact keep b k _ hb

theorem only_settle {m : Module} {t : Nat} : Only [.tiles] m (m.settle t) :=
  settle_keeps (P := Only [.tiles] m) t (Only.refl _ m) fun _ _ _ hb => hb.trans only_onTile

/-- Noting satisfied dependence markers leaves the slice and the event counters of the tile. -/
theorem settle_tile (m : Module) (t : Nat) :
    ((m.settle t).tile t).slice = (m.tile t).slice ∧ ((m.settle t).tile t).events = (m.tile t).events :=
  settle_keeps (P := fun b => (b.tile t).slice = (m.tile t).slice ∧ (b.tile t).events = (m.tile t).events) t ⟨rfl, rfl⟩
    fun b k f hb => by simpa [Module.onCtx] using hb

theorem settle_tile_ne (m : Module) {t u : Nat} (h : u ≠ t) : (m.settle t).tile u = m.tile u :=
  settle_keeps (P := fun b => b.tile u = m.tile u) t rfl fun b _ _ hb => (tile_onTile_ne b h _).trans hb

theorem evtReserved_congr {m m' : Module} (h : m'.streams = m.streams) (t e : Nat) : m'.evtReserved t e = m.evtReserved t e := by
  unfold Module.evtReserved; rw [h]

theorem only_evtChange {m : Module} {t e op v : Nat} : Only [.tiles] m (m.evtChange t e op v) :=
  Only.ite only_onTile (Only.refl _ m)

/-- A reserved counter after a change. -/
theorem events_evtChange {m : Module} {t e : Nat} (h : m.evtReserved t e = true) (op v : Nat) :
    mGetD ((m.evtChange t e op v).tile t).events e 0 =
      if op = 0 then (mGetD (m.tile t).events e 0 + v) % 2 ^ 32 else v % 2 ^ 32 := by
  simp [Module.evtChange, h, mGetD_mPutZ]

theorem evtChange_tile_ne (m : Module) {t u : Nat} (h : u ≠ t) (e op v : Nat) : (m.evtChange t e op v).tile u = m.tile u := by
  unfold Module.evtChange
  split
  · exact tile_onTile_ne m h _
  · rfl

theorem slice_evtChange (m : Module) (t e op v : Nat) : ((m.evtChange t e op v).tile t).slice = (m.tile t).slice := by
  unfold Module.evtChange
  split
  · simp
  · rfl

theorem only_advance {m : Module} {t e op v : Nat} : Only [.tiles] m (m.advance t e op v) := only_evtChange.trans only_settle

theorem slice_advance (m : Module) (t e op v : Nat) : ((m.advance t e op v).tile t).slice = (m.tile t).slice :=
  (settle_tile _ t).1.trans (slice_evtChange m t e op v)

/-- A reserved counter after it was advanced. -/
theorem events_advance {m : Module} {t e : Nat} (h : m.evtReserved t e = true) (op v : Nat) :
    mGetD ((m.advance t e op v).tile t).events e 0 =
      if op = 0 then (mGetD (m.tile t).events e 0 + v) % 2 ^ 32 else v % 2 ^ 32 :=
  (congrArg (mGetD · e 0) (settle_tile _ t).2).trans (events_evtChange h op v)

theorem advance_tile_ne (m : Module) {t u : Nat} (h : u ≠ t) (e op v : Nat) : (m.advance t e op v).tile u = m.tile u :=
  (settle_tile_ne _ h).trans (evtChange_tile_ne m h e op v)

/-- A SIGNAL to a reserved counter advances it. -/
theorem signal_reserved {m : Module} {t e : Nat} (h : m.evtReserved t e = true) (op v : Nat) :
    m.signal t e op v = m.advance t e op v := by
  simp [Module.signal, Module.signalTile, Module.advance, h]

/-- A SIGNAL that finds its counter unreserved is counted. -/
theorem signal_unreserved {m : Module} {t e : Nat} (h : m.evtReserved t e = false) (op v : Nat) :
    m.signal t e op v = (m.count 0x3100 0x10 1).settle t := by
  simp [Module.signal, Module.signalTile, h]

theorem eventCounterChange_reserved (s : State) (tile : Fin 512) (evt : Fin 64) (set : Bool) (v : Nat)
    (h : s.m.evtReserved tile.val evt.val = true) : Completes (.eventCounterChange tile evt set v) s [.tiles] (fun m' =>
      mGetD (m'.tile tile.val).events evt.val 0 =
          (if set then v % 2 ^ 32 else (mGetD (s.m.tile tile.val).events evt.val 0 + v) % 2 ^ 32)
        ∧ ∀ u, u ≠ tile.val → m'.tile u = s.m.tile u) := by
  refine completes_of_run rfl (signal_reserved h (b2n set) v) only_advance ⟨?_, fun u hu => advance_tile_ne _ hu ..⟩
  rw [events_advance h]
  cases set <;> rfl

theorem eventCounterChange_unreserved (s : State) (tile : Fin 512) (evt : Fin 64) (set : Bool) (v : Nat)
    (h : s.m.evtReserved tile.val evt.val = false) : Completes (.eventCounterChange tile evt set v) s [.tiles, .cnt] (fun m' =>
      (m'.tile tile.val).events = (s.m.tile tile.val).events ∧ m'.ctr 0x3100 0x10 = (s.m.ctr 0x3100 0x10 + 1) % 2 ^ 64) := by
  have settled : Only [.tiles] (s.m.count 0x3100 0x10 1) ((s.m.count 0x3100 0x10 1).settle tile.val) := only_settle
  refine completes_of_run rfl (signal_unreserved h (b2n set) v) ?_ ⟨(settle_tile _ _).2, ?_⟩
  · exact ((only_count s.m _ _ _).mono (by simp)).trans (settled.mono (by simp))
  · exact (ctr_congr (settled .cnt (by decide)) ..).trans (ctr_count ..)

/-! ## Vat operands (07 R212) -/

theorem vatAccumulateWrite_completes (s : State) (tile : Fin 512) (o : Nat) (b : Bytes) (hb : b.length = 40) (ho : o + 40 ≤ 0x40000) :
    Completes (.vatAccumulateWrite tile o b) s [.tiles] (fun m' => m'.tile tile.val = (s.m.tile tile.val).vatAdd o b
      ∧ ∀ u, u ≠ tile.val → m'.tile u = s.m.tile u) := by
  have wf : (Instr.vatAccumulateWrite tile o b).wellFormed = true := by simp [Instr.wellFormed, hb]
  have run : vatAccumulateWrite tile.val o b s.m = s.m.onTile tile.val (fun x => x.vatAdd o b) := if_pos ho
  exact completes_of_run (if_pos wf) run only_onTile ⟨tile_onTile_self .., fun u hu => tile_onTile_ne _ hu _⟩

/-! ## Winner writes (09 R275, R276) -/

/-- Record r of a combine area at byte o takes the better of what it holds and the arriving record. -/
def combineRecord (t o op fmt : Nat) (recs : Bytes) (m : Module) (r : Nat) : Module :=
  m.sliceWrite t (o + 16 + 16 * r)
    (toLe 16 (winCombine op fmt (leNat (m.sliceRead t (o + 16 + 16 * r) 16)) (leAt recs (16 * r) 16)))

/-- The first n records of a combine area, combined in order. -/
def combineRecords (t o op fmt : Nat) (recs : Bytes) (n : Nat) (m : Module) : Module :=
  (List.range n).foldl (combineRecord t o op fmt recs) m

/-- A winner write to an area that matches: records, ARRIVED, the count, and the counter. -/
theorem winnerApply_match {m : Module} {t o coll rows op fmt : Nat} (h : areaMatches (leNat (m.sliceRead t o 16)) coll rows op fmt = true)
    (evt : Nat) (recs : Bytes) : (m.winnerApply t o coll rows op fmt evt recs).1 =
      (((combineRecords t o op fmt recs rows m).sliceWrite t (o + 4) (toLe 4 (fld (leNat (m.sliceRead t o 16)) 63 32 + 1))).count
        0x3080 0x06 1).advance t evt 0 1 := by
  simp only [Module.winnerApply, h, Bool.not_true, Bool.false_eq_true, if_false]
  rfl

/-- A winner write to an area that does not match is counted and nothing else. -/
theorem winnerApply_mismatch {m : Module} {t o coll rows op fmt : Nat}
    (h : areaMatches (leNat (m.sliceRead t o 16)) coll rows op fmt = false) (evt : Nat) (recs : Bytes) :
    (m.winnerApply t o coll rows op fmt evt recs).1 = m.count 0x3080 0x05 1 := by
  simp [Module.winnerApply, h]

theorem combineRecords_succ (t o op fmt : Nat) (recs : Bytes) (n : Nat) (m : Module) :
    combineRecords t o op fmt recs (n + 1) m = combineRecord t o op fmt recs (combineRecords t o op fmt recs n m) n := by
  simp [combineRecords, List.range_succ]

theorem only_combineRecords {t o op fmt : Nat} {recs : Bytes} {n : Nat} {m : Module} :
    Only [.tiles] m (combineRecords t o op fmt recs n m) :=
  Only.foldl (fun _ _ => only_sliceWrite) _ m

theorem events_combineRecords (t o op fmt : Nat) (recs : Bytes) (n : Nat) (m : Module) :
    ((combineRecords t o op fmt recs n m).tile t).events = (m.tile t).events := by
  induction n with
  | zero => rfl
  | succ n ih => rw [combineRecords_succ, combineRecord, events_sliceWrite, ih]

/-- Combining the first n records leaves every byte outside them. -/
theorem combineRecords_outside (t o op fmt : Nat) (recs : Bytes) (n : Nat) (m : Module) {a : Nat} (h : a < o + 16 ∨ o + 16 + 16 * n ≤ a) :
    memRead ((combineRecords t o op fmt recs n m).tile t).slice a = memRead (m.tile t).slice a := by
  induction n with
  | zero => rfl
  | succ n ih =>
    rw [combineRecords_succ, combineRecord, slice_sliceWrite, memRead_memWriteN_outside _ (by simp; omega)]
    exact ih (by omega)

/-- Each of the first n records, after they were combined. -/
theorem combineRecords_record (t o op fmt : Nat) (recs : Bytes) (n : Nat) (m : Module) {r : Nat} (hr : r < n) :
    (combineRecords t o op fmt recs n m).sliceRead t (o + 16 + 16 * r) 16 =
      toLe 16 (winCombine op fmt (leNat (m.sliceRead t (o + 16 + 16 * r) 16)) (leAt recs (16 * r) 16)) := by
  induction n with
  | zero => omega
  | succ n ih =>
    rw [combineRecords_succ, combineRecord, Module.sliceRead, slice_sliceWrite]
    by_cases last : r = n
    · subst last
      have before : (combineRecords t o op fmt recs r m).sliceRead t (o + 16 + 16 * r) 16 = m.sliceRead t (o + 16 + 16 * r) 16 :=
        memReadN_congr fun x hx _ => combineRecords_outside t o op fmt recs r m (.inr hx)
      rw [memReadN_memWriteN _ _ (toLe_length ..), before]
    · refine (memReadN_congr fun x _ hx => ?_).trans (ih (by omega))
      exact memRead_memWriteN_outside _ (by simp; omega)

theorem winnerWrite_mismatch (s : State) (tile : Fin 512) (o coll rows op fmt evt : Nat) (recs : Bytes)
    (wf : (Instr.winnerWrite tile o coll rows op fmt evt recs).wellFormed = true) (fits : o + 16 + 16 * rows ≤ sliceBytes)
    (h : areaMatches (leNat (s.m.sliceRead tile.val o 16)) coll rows op fmt = false) :
    Completes (.winnerWrite tile o coll rows op fmt evt recs) s [.cnt] (fun m' =>
      m'.ctr 0x3080 0x05 = (s.m.ctr 0x3080 0x05 + 1) % 2 ^ 64) := by
  have run : winnerWrite tile.val o coll rows op fmt evt recs s.m = s.m.count 0x3080 0x05 1 :=
    (if_pos fits).trans (winnerApply_mismatch h evt recs)
  exact completes_of_run (if_pos wf) run (only_count _ _ _ _) (ctr_count ..)

theorem winnerWrite_match (s : State) (tile : Fin 512) (o coll rows op fmt evt : Nat) (recs : Bytes)
    (wf : (Instr.winnerWrite tile o coll rows op fmt evt recs).wellFormed = true) (fits : o + 16 + 16 * rows ≤ sliceBytes)
    (h : areaMatches (leNat (s.m.sliceRead tile.val o 16)) coll rows op fmt = true) :
    Completes (.winnerWrite tile o coll rows op fmt evt recs) s [.tiles, .cnt] (fun m' =>
      (∀ r, r < rows → m'.sliceRead tile.val (o + 16 + 16 * r) 16 =
          toLe 16 (winCombine op fmt (leNat (s.m.sliceRead tile.val (o + 16 + 16 * r) 16)) (leAt recs (16 * r) 16)))
        ∧ leNat (m'.sliceRead tile.val (o + 4) 4) = (fld (leNat (s.m.sliceRead tile.val o 16)) 63 32 + 1) % 2 ^ 32
        ∧ (∀ a, a < o + 4 ∨ o + 8 ≤ a ∧ a < o + 16 ∨ o + 16 + 16 * rows ≤ a →
            memRead (m'.tile tile.val).slice a = memRead (s.m.tile tile.val).slice a)
        ∧ m'.ctr 0x3080 0x06 = (s.m.ctr 0x3080 0x06 + 1) % 2 ^ 64
        ∧ (s.m.evtReserved tile.val evt = true →
            mGetD (m'.tile tile.val).events evt 0 = (mGetD (s.m.tile tile.val).events evt 0 + 1) % 2 ^ 32)) := by
  let c := combineRecords tile.val o op fmt recs rows s.m
  let arrived := toLe 4 (fld (leNat (s.m.sliceRead tile.val o 16)) 63 32 + 1)
  let w := c.sliceWrite tile.val (o + 4) arrived
  have run : winnerWrite tile.val o coll rows op fmt evt recs s.m = (w.count 0x3080 0x06 1).advance tile.val evt 0 1 :=
    (if_pos fits).trans (winnerApply_match h evt recs)
  have written : Only [.tiles] s.m w := only_combineRecords.trans only_sliceWrite
  have counted : Only [.tiles, .cnt] s.m (w.count 0x3080 0x06 1) := (written.mono (by simp)).trans ((only_count w _ _ _).mono (by simp))
  have advanced : Only [.tiles] (w.count 0x3080 0x06 1) ((w.count 0x3080 0x06 1).advance tile.val evt 0 1) := only_advance
  have slice : (((w.count 0x3080 0x06 1).advance tile.val evt 0 1).tile tile.val).slice = memWriteN (c.tile tile.val).slice (o + 4) arrived :=
    (slice_advance ..).trans (slice_sliceWrite ..)
  have arrivedOnly : ∀ {a}, a < o + 4 ∨ o + 8 ≤ a →
      memRead (memWriteN (c.tile tile.val).slice (o + 4) arrived) a = memRead (c.tile tile.val).slice a :=
    fun ha => memRead_memWriteN_outside _ (by simp [arrived]; omega)
  refine completes_of_run (if_pos wf) run (counted.trans (advanced.mono (by simp))) ?_
  simp only [Module.sliceRead, slice]
  refine ⟨fun r hr => ?_, ?_, fun a ha => ?_, ?_, fun reserved => ?_⟩
  · exact (memReadN_congr fun x hx _ => arrivedOnly (by omega)).trans (combineRecords_record tile.val o op fmt recs rows s.m hr)
  · exact (congrArg leNat (memReadN_memWriteN _ _ (toLe_length ..))).trans (leNat_toLe ..)
  · exact (arrivedOnly (by omega)).trans (combineRecords_outside tile.val o op fmt recs rows s.m (by omega))
  · rw [ctr_congr (advanced .cnt (by decide)), ctr_count, ctr_congr (written .cnt (by decide))]
  · have streams : (w.count 0x3080 0x06 1).streams = s.m.streams := counted .streams (by decide)
    rw [events_advance ((evtReserved_congr streams _ _).trans reserved), if_pos rfl, tile_count, events_sliceWrite, events_combineRecords]

/-! ## Memory-side adders (11 R318, R319) -/

theorem only_lpddr {m : Module} {l : List Host.Cell} {p : List Nat} :
    Only [.lpddr] m { m with mem := { m.mem with lpddr := l, poison := p } } := by
  intro g hg; cases g <;> simp_all [Part.same]

theorem only_lpWrite {m : Module} {a : Nat} {bs : Bytes} : Only [.lpddr] m (m.lpWrite a bs) := only_lpddr

theorem only_jobs {m : Module} {x : Jobs} : Only [.jobs] m { m with jobs := x } := by
  intro g hg; cases g <;> simp_all [Part.same]

/-- The parts that a memory-side adder may change. -/
abbrev adderParts : List Part := [.lpddr, .jobs, .cnt]

theorem adder_lpWrite {m : Module} {a : Nat} {bs : Bytes} : Only adderParts m (m.lpWrite a bs) := only_lpWrite.mono (by simp)

theorem adder_count {m : Module} {i s n : Nat} : Only adderParts m (m.count i s n) := (only_count m i s n).mono (by simp)

theorem adder_onJob {m : Module} {j : Nat} {f : Job → Job} : Only adderParts m (m.onJob j f) := only_jobs.mono (by simp)

theorem adder_countConv {m : Module} {j sat non : Nat} : Only adderParts m (m.countConv j sat non) :=
  adder_onJob.trans (adder_count.trans adder_count)

/-- An operand that reaches an adder, poisoned word or not. -/
theorem adder_msaAdd {m : Module} {j a v : Nat} : Only adderParts m (m.msaAdd j a v) := by
  unfold Module.msaAdd
  split
  · exact adder_lpWrite.trans adder_count
  · exact adder_lpWrite.trans ((only_lpddr.mono (by simp)).trans (adder_countConv.trans adder_count))

/-- A keyed row, dropped or added element by element. -/
theorem adder_msaKeyed {m : Module} {j base stride log2 key first : Nat} {vals : List Nat} :
    Only adderParts m (m.msaKeyed j base stride log2 key first vals).1 := by
  unfold Module.msaKeyed
  split
  · exact adder_count
  · exact (Only.ite (Only.refl _ m) adder_lpWrite).trans (Only.foldl (fun _ _ => adder_msaAdd) _ _)

theorem adder_sparseAdd {m : Module} {j i : Nat} {owner : Bool} {key first : Nat} {vals : List Nat} :
    Only adderParts m (m.sparseAdd j i owner key first vals).1 :=
  Only.ite adder_msaKeyed (adder_msaKeyed.trans adder_onJob)

/-- An operand added into a word that is not poisoned. -/
theorem msaAdd_clean {m : Module} {a : Nat} (h : m.poisonIn a 8 = []) (j v : Nat) :
    m.msaAdd j a v = (m.lpWrite a (toLe 8 (leNat (m.lpRead a 8) + v))).count 0x3300 0x18 1 := by
  simp [Module.msaAdd, h]

theorem gfx64Add_completes (s : State) (job : Fin 64) (a v : Nat) (aligned : a % 8 = 0) (fits : a + 8 ≤ s.m.lpddrUsable)
    (clean : s.m.poisonIn a 8 = []) :
    Completes (.gfx64Add job a v) s [.lpddr, .cnt] (fun m' => leNat (m'.lpRead a 8) = (leNat (s.m.lpRead a 8) + v) % 2 ^ 64
      ∧ (∀ x, x < a ∨ a + 8 ≤ x → memRead m'.mem.lpddr x = memRead s.m.mem.lpddr x)
      ∧ m'.ctr 0x3300 0x18 = (s.m.ctr 0x3300 0x18 + 1) % 2 ^ 64) := by
  let sum := toLe 8 (leNat (s.m.lpRead a 8) + v)
  have run : gfx64Add job.val a v s.m = (s.m.lpWrite a sum).count 0x3300 0x18 1 :=
    (if_pos ⟨aligned, fits⟩).trans (msaAdd_clean clean job.val v)
  have only : Only [.lpddr, .cnt] s.m ((s.m.lpWrite a sum).count 0x3300 0x18 1) :=
    (only_lpWrite.mono (by simp)).trans ((only_count _ _ _ _).mono (by simp))
  refine completes_of_run rfl run only ⟨?_, fun x hx => ?_, ctr_count ..⟩
  · have word : ((s.m.lpWrite a sum).count 0x3300 0x18 1).lpRead a 8 = sum := memReadN_memWriteN _ _ (toLe_length ..)
    exact (congrArg leNat word).trans (leNat_toLe ..)
  · exact memRead_memWriteN_outside _ (by simpa [sum] using hx)

theorem keyedAdd_completes (s : State) (job : Fin 64) (i : Nat) (owner : Bool) (row lane : Nat) (vs : List Nat)
    (running : (s.m.job job.val).state = 2) (hi : i < jobTensors (s.m.job job.val).config)
    (sparse : tenKind (jobTensor (s.m.job job.val).config i) = 2) :
    Completes (.keyedAdd job i owner row lane vs) s [.lpddr, .jobs, .cnt] (fun m' =>
      m' = (s.m.sparseAdd job.val i owner (row * 256 + lane) 0 vs).1) := by
  have run : keyedAdd job.val i owner row lane vs s.m = (s.m.sparseAdd job.val i owner (row * 256 + lane) 0 vs).1 :=
    if_pos ⟨running, hi, sparse⟩
  exact completes_of_run rfl run adder_sparseAdd rfl

/-! ## Combine buffers (11 R320) -/

/-- An operand whose line stands in the buffer joins it. -/
theorem lsaTake_join {m : Module} {l : Line} (h : ∃ x ∈ m.jobs.lines, x.sameAs l = true) :
    m.lsaTake l = { m with jobs := { m.jobs with lines := m.jobs.lines.map (fun x => if x.sameAs l then x.merge l else x) } } := by
  obtain ⟨y, found⟩ := Option.isSome_iff_exists.mp (List.find?_isSome.mpr h)
  simp only [Module.lsaTake, found]

/-- An operand whose line does not stand in a buffer that has room starts one. -/
theorem lsaTake_start {m : Module} {l : Line} (h : ∀ x ∈ m.jobs.lines, x.sameAs l = false)
    (room : (m.jobs.lines.filter (fun x => x.port == l.port)).length < 4096) :
    m.lsaTake l = { m with jobs := { m.jobs with lines := m.jobs.lines ++ [l] } } := by
  have absent : m.jobs.lines.find? (fun x => x.sameAs l) = none := List.find?_eq_none.mpr fun x hx => by simp [h x hx]
  simp only [Module.lsaTake, absent, if_pos room]

/-- Where an operand of a running job only changes the lines of the buffers, that is all that its row changes. -/
theorem lsaCombine_completes {s : State} {port : Fin 12} {job : Fin 64} {d a lane v : Nat} {lines : List Line}
    (running : (s.m.job job.val).state = 2)
    (taken : s.m.lsaTake { port := port, job := job, device := d, addr := a / 256 * 256, lane := lane
                           values := [(a % 256 / 8, v % 2 ^ 64)] } = { s.m with jobs := { s.m.jobs with lines := lines } }) :
    Completes (.lsaCombine port job d a lane v) s [.jobs] (fun m' => m'.jobs.lines = lines) := by
  have run : lsaCombine port.val job.val d a lane v s.m = { s.m with jobs := { s.m.jobs with lines := lines } } :=
    (if_pos running).trans taken
  exact completes_of_run rfl run only_jobs rfl

/-- Settles O43: each of the six rows completes with its effect and inside its frame. -/
theorem operandRowsComplete : Obligations.OperandRowsComplete := by
  unfold Obligations.OperandRowsComplete
  refine ⟨fun s tile evt set v => ?signal, vatAccumulateWrite_completes, fun s tile o coll rows op fmt evt recs wf fits => ?winner,
    gfx64Add_completes, keyedAdd_completes, fun s port job d a lane v running => ?line⟩
  case signal => exact ⟨eventCounterChange_reserved s tile evt set v, eventCounterChange_unreserved s tile evt set v⟩
  case winner =>
    exact ⟨winnerWrite_mismatch s tile o coll rows op fmt evt recs wf fits, winnerWrite_match s tile o coll rows op fmt evt recs wf fits⟩
  case line =>
    exact ⟨fun h => lsaCombine_completes running (lsaTake_join h), fun h room => lsaCombine_completes running (lsaTake_start h room)⟩

end Sys2Proof.Operands
end

section
/-! The deadline of a step and a late verdict (11 R314, R323): what leaves on a cascade link and the updates of a step
keep the member's place in the step, then what acting on a verdict does, then the two rows. -/

namespace Sys2Proof.Deadline

open Sys2Proof.Machine Sys2Proof.Laws Sys2Proof.Operands

/-! ## The updates of a step -/

theorem job_congr {m m' : Module} (h : m'.jobs = m.jobs) (j : Nat) : m'.job j = m.job j := by
  unfold Module.job; rw [h]

@[simp] theorem job_onJob (m : Module) (j : Nat) (f : Job → Job) : (m.onJob j f).job j = f (m.job j) := by
  simp [Module.job, Module.onJob, mGetD_mPut]

theorem only_onJob {m : Module} {j : Nat} {f : Job → Job} : Only [.jobs] m (m.onJob j f) := only_jobs

/-- The parts that the updates of a step may change. -/
abbrev updateParts : List Part := [.lpddr, .jobs, .cnt, .fresh, .links, .cascade, .inject, .out]

/-- From m to m' the updates of a step of job j have done some work: of the job only the rows to rewrite have changed, and of
the counters only those of cascade links. -/
structure Updated (j : Nat) (m m' : Module) : Prop where
  only : Only updateParts m m'
  job : ∃ rows, m'.job j = { m.job j with rows := rows }
  counters : ∀ k, k < odKey 0x4200 0 0 → mGetD m'.od.cnt k 0 = mGetD m.od.cnt k 0

namespace Updated

variable {j : Nat} {m a b : Module}

theorem refl (j : Nat) (m : Module) : Updated j m m := ⟨Only.refl _ m, ⟨_, rfl⟩, fun _ _ => rfl⟩

theorem trans (h : Updated j m a) (k : Updated j a b) : Updated j m b := by
  obtain ⟨rows, hjob⟩ := h.job
  obtain ⟨rows', kjob⟩ := k.job
  exact ⟨h.only.trans k.only, ⟨rows', by rw [kjob, hjob]⟩, fun x hx => (k.counters x hx).trans (h.counters x hx)⟩

/-- A change that leaves jobs and counters. -/
theorem of_only {gs : List Part} (h : Only gs m a) (hgs : ∀ g, g ∈ gs → g ∈ updateParts) (jobs : Part.jobs ∉ gs := by decide)
    (cnt : Part.cnt ∉ gs := by decide) : Updated j m a := by
  have hcnt : a.od.cnt = m.od.cnt := h .cnt cnt
  exact ⟨h.mono hgs, ⟨(m.job j).rows, job_congr (h .jobs jobs) j⟩, fun k _ => by rw [hcnt]⟩

theorem foldl {α : Type} {f : Module → α → Module} (h : ∀ m x, Updated j m (f m x)) (l : List α) (m : Module) :
    Updated j m (l.foldl f m) :=
  List.foldlRecOn l f (refl j m) fun _ hb x _ => hb.trans (h _ x)

theorem ite {p : Prop} [Decidable p] (h : Updated j m a) (k : Updated j m b) : Updated j m (if p then a else b) := by
  split <;> assumption

theorem ite_fst {β : Type} {x y : Module × β} {p : Prop} [Decidable p] (h : Updated j m x.1) (k : Updated j m y.1) :
    Updated j m (if p then x else y).1 := by
  split <;> assumption

theorem lpWrite (m : Module) (o : Nat) (bs : Bytes) : Updated j m (m.lpWrite o bs) := of_only only_lpWrite (by simp)

theorem lpClear (m : Module) (o n : Nat) : Updated j m (m.lpClear o n) := of_only only_lpddr (by simp)

theorem drawn (m : Module) : Updated j m m.drawn := of_only (only_drawn m) (by simp)

theorem onLink (m : Module) (p : Nat) (f : LinkPort → LinkPort) : Updated j m (m.onLink p f) := of_only (only_onLink m p f) (by simp)

theorem send (m : Module) (o : Out) : Updated j m (m.send o) := of_only (only_send m o) (by simp)

theorem onInjector (m : Module) (i : Nat) (f : Injector → Injector) : Updated j m (m.onInjector i f) :=
  of_only (only_onInjector m i f) (by simp)

theorem linkCount (m : Module) (p f n : Nat) : Updated j m (m.linkCount p f n) := by
  refine ⟨(only_linkCount m p f n).mono (by simp), ⟨_, rfl⟩, fun k hk => ?_⟩
  refine (cnt_countI ..).trans (if_neg ?_)
  simp only [odKey] at hk ⊢
  omega

/-! ## Cells that leave (14 R393, R418) -/

theorem injectFrom (p : Nat) (tx : Bool) (elig : Nat → Bool) :
    ∀ (n i : Nat) (m : Module) (r : InjResult), Updated j m (m.injectFrom true p tx elig n i r).1
  | 0, _, m, _ => refl j m
  | n + 1, i, m, r => by
    have rest := injectFrom p tx elig n (i + 1)
    have met : ∀ x, Updated j m { m with ports := { m.ports with inject := x } } := fun x =>
      of_only (gs := [.inject]) (by intro g hg; cases g <;> simp_all [Part.same]) (by simp)
    unfold Module.injectFrom
    exact ite_fst (rest _ _) (ite_fst ((met _).trans (rest _ _)) (((met _).trans (linkCount ..)).trans (rest _ _)))

theorem inject (m : Module) (p : Nat) (tx : Bool) (elig : Nat → Bool) : Updated j m (m.inject true p tx elig).1 :=
  ite_fst (injectFrom p tx elig 4 0 m {}) (refl j m)

theorem cellToWire (m : Module) (p : Nat) (c : Bytes) : Updated j m (m.cellToWire p c) := by
  unfold Module.cellToWire
  refine (((inject m p true (cellEligible c)).trans (linkCount _ p 0 1)).trans ?_).trans (foldl (fun m k => ?_) _ _)
  · split
    · exact onInjector ..
    · exact ite (refl j _) (send ..)
  · split
    · exact (send ..).trans (onInjector ..)
    · exact refl j m

theorem sendCell (m : Module) (p : Nat) (c : Bytes) : Updated j m (m.sendCell p c) :=
  ite (linkCount ..) (ite (onLink ..) ((onLink ..).trans (cellToWire ..)))

theorem sendTo (m : Module) (dst typ arg : Nat) (pay : Bytes) : Updated j m (m.sendTo dst typ arg pay).1 := by
  unfold Module.sendTo
  split
  · exact refl j m
  · exact sendCell ..

theorem nextTag (m : Module) (n : Nat) : Updated j m { m with cascade := { m.cascade with nextTag := n } } := by
  refine of_only (gs := [.cascade]) ?_ (by simp)
  intro g hg; cases g <;> simp_all [Part.same]

theorem sendLookup (m : Module) (dst kind : Nat) (last : Bool) (n table : Nat) (combine : Bool) (tile req owner x off row : Nat)
    (data : Bytes) : Updated j m (m.sendLookup dst kind last n table combine tile req owner x off row data) :=
  (sendTo m dst 17 m.cascade.nextTag _).trans (nextTag ..)

theorem sendStale (m : Module) (d table row : Nat) : Updated j m (m.sendStale d table row) :=
  foldl (fun m _ => sendLookup m ..) _ m

/-! ## Owner updates and job buffers (11 R326 to R328) -/

theorem applyElem (m : Module) (t e : Nat) (g : Rat) : Updated j m (m.applyElem t e g) :=
  ite (lpWrite ..) (ite (lpWrite ..) (lpWrite ..))

theorem updateDense (m : Module) (t : Nat) (ls : List Nat) : Updated j m (m.updateDense j t ls) :=
  foldl (fun m _ => ite (applyElem m ..) (refl j m)) _ m

theorem updateLow (m : Module) (i : Nat) (ls : List Nat) : Updated j m (m.updateLow j i ls) :=
  ite (lpWrite ..) ((lpWrite ..).trans (foldl (fun m _ => foldl (fun m _ => applyElem m ..) _ m) _ _))

theorem onRows (m : Module) (f : Job → List (Nat × Nat × Bytes)) : Updated j m (m.onJob j (fun x => { x with rows := f x })) :=
  ⟨only_onJob.mono (by simp), ⟨_, job_onJob ..⟩, fun _ _ => rfl⟩

theorem updateSparse (m : Module) (i : Nat) (ls : List Nat) : Updated j m (m.updateSparse j i ls) := by
  unfold Module.updateSparse
  dsimp only
  split
  · exact refl j m
  · exact ((onRows m _).trans (drawn _)).trans (foldl (fun m _ => sendStale m ..) _ _)

theorem clearArea (m : Module) (base stride log2 : Nat) : Updated j m (m.clearArea base stride log2) :=
  (lpClear ..).trans (foldl (fun m _ => lpWrite m ..) _ _)

theorem zeroLanes (m : Module) : Updated j m (m.zeroLanes j) := (lpClear ..).trans (lpClear ..)

theorem emptyAreas (m : Module) (ks : List Nat) : Updated j m (m.emptyAreas j ks) :=
  foldl (fun m _ => foldl (fun m _ => clearArea m ..) _ m) _ m

theorem copyHold (m : Module) : Updated j m (m.copyHold j) := foldl (fun m _ => lpWrite m ..) _ m

end Updated

/-! ## The step a verdict decides (11 R323, R326) -/

/-- The working buffers become the committed ones, and the next step is the current one. -/
def commitStep (x : Job) : Job := { x with bufCopy := 1 - x.bufCopy, step := (x.step + 1) % 2 ^ 32 }

/-- An APPLIED step updates what the member owns and commits its buffers. -/
theorem applyStep_commits (m : Module) (j : Nat) (v : Verdict) : ∃ a, Updated j m a ∧ m.applyStep j v = a.onJob j commitStep := by
  refine ⟨_, ?_, rfl⟩
  refine ((Updated.foldl (fun m _ => Updated.updateDense m ..) _ m).trans (Updated.foldl (fun m _ => Updated.updateLow m ..) _ _)).trans
    (Updated.foldl (fun m _ => ?_) _ _)
  exact Updated.ite ((Updated.updateSparse m ..).trans (Updated.clearArea ..)) (Updated.refl j m)

/-- The current step of a job after a verdict: APPLIED commits it, FAILED keeps it, SKIPPED advances it. -/
def afterOutcome (o : Nat) (x : Job) : Job :=
  if o = 0 then commitStep x else if o = 1 then x else { x with step := (x.step + 1) % 2 ^ 32 }

/-- The counter of a verdict: STEPS_APPLIED, STEPS_FAILED or STEPS_SKIPPED. -/
def outcomeCounter (o : Nat) : Nat := if o = 0 then 0x0E else if o = 1 then 0x13 else 0x14

/-- What a verdict does to the step before its buffers are emptied. -/
def takeOutcome (j : Nat) (v : Verdict) (m : Module) : Module :=
  if v.outcome = 0 then (m.applyStep j v).count 0x3300 0x0E 1
  else
    let m := m.event 0x0007 1 (put v.step 32 0 + put j 6 32)
    if v.outcome = 1 then m.count 0x3300 0x13 1
    else (m.onJob j (fun x => { x with step := (x.step + 1) % 2 ^ 32 })).count 0x3300 0x14 1

/-- The lanes and owner areas are emptied; where the next step has begun, its working hold areas are made. -/
def restartBuffers (j : Nat) (sameStart : Prop) [Decidable sameStart] (m : Module) : Module :=
  let m := (m.zeroLanes j).emptyAreas j [2]
  if sameStart then m else m.copyHold j

/-- A job notes that it has acted on a verdict. -/
def noteActed (v : Verdict) (record : Bytes) (y : Job) : Job :=
  { y with record := record, acted := if y.start = v.start then true else y.acted, lateStep := none
           digestNow := if y.start = v.start then y.digestNow else { y.digestNow with step := y.step }
           digestLast := if y.start = v.start then y.digestNow else y.digestLast }

theorem actOn_eq (m : Module) (j : Nat) (v : Verdict) :
    let b := (m.job j).config
    let record := stepRecord j (v.start + jobSpan b) v
    let r := restartBuffers j ((m.job j).start = v.start) (takeOutcome j v m)
    m.actOn j v = (((r.lpWrite (jobStatusAddr b) record).count 0x3300 0x15 v.backups).onJob j (noteActed v record)).advance
      (jobNotifyTile b) (jobNotifyEvt b) 0 1 := rfl

/-! ## Counters of jobs -/

theorem ctr_count_ne (m : Module) {i s u : Nat} (h : u ≠ s) (n : Nat) : (m.count i s n).ctr i u = m.ctr i u := by
  refine (cnt_countI ..).trans (if_neg ?_)
  simp only [odKey]
  omega

/-- The updates of a step leave the counters of jobs. -/
theorem Updated.ctr {j : Nat} {m a : Module} (h : Updated j m a) {u : Nat} (hu : u < 256) : a.ctr 0x3300 u = m.ctr 0x3300 u :=
  h.counters _ (by simp only [odKey]; omega)

/-- Counter u of jobs, which held n, once an outcome is counted. -/
def counted (o u n : Nat) : Nat := if u = outcomeCounter o then (n + 1) % 2 ^ 64 else n

/-! ## What a verdict leaves behind (11 R323, R326, R329) -/

/-- The parts that a verdict may change before the notify counter advances. -/
abbrev verdictParts : List Part := .events :: .clients :: updateParts

/-- From m to m' job j has taken a verdict of this outcome, and its counter counts it. -/
structure Decided (j o : Nat) (m m' : Module) : Prop where
  only : Only verdictParts m m'
  job : ∃ rows, m'.job j = { afterOutcome o (m.job j) with rows := rows }
  counters : ∀ u, u < 256 → m'.ctr 0x3300 u = counted o u (m.ctr 0x3300 u)

/-- Later updates of the step leave it decided. -/
theorem Decided.updated {j o : Nat} {m a b : Module} (h : Decided j o m a) (k : Updated j a b) : Decided j o m b := by
  obtain ⟨rows, hjob⟩ := h.job
  obtain ⟨rows', kjob⟩ := k.job
  exact ⟨h.only.trans (k.only.mono (by simp)), ⟨rows', by rw [kjob, hjob]⟩, fun u hu => (k.ctr hu).trans (h.counters u hu)⟩

/-- A job whose current step is committed, kept or advanced, once the outcome is counted. -/
theorem Decided.of_count {j o : Nat} {m a : Module} (only : Only verdictParts m a)
    (job : ∃ rows, a.job j = { afterOutcome o (m.job j) with rows := rows })
    (ctr : ∀ u, u < 256 → a.ctr 0x3300 u = m.ctr 0x3300 u) : Decided j o m (a.count 0x3300 (outcomeCounter o) 1) := by
  refine ⟨only.trans ((only_count a _ _ _).mono (by simp)), job, fun u hu => ?_⟩
  by_cases own : u = outcomeCounter o
  · rw [counted, if_pos own, own, ctr_count, ← own, ctr u hu]
  · rw [counted, if_neg own, ctr_count_ne a own, ctr u hu]

theorem only_onJob_verdict {m : Module} {j : Nat} {f : Job → Job} : Only verdictParts m (m.onJob j f) := only_onJob.mono (by simp)

theorem takeOutcome_decided (j : Nat) (v : Verdict) (m : Module) : Decided j v.outcome m (takeOutcome j v m) := by
  have logged : Only verdictParts m (m.event 0x0007 1 (put v.step 32 0 + put j 6 32)) := (only_event m _ _ _).mono (by simp)
  unfold takeOutcome
  split
  case isTrue applied =>
    obtain ⟨a, updated, commits⟩ := applyStep_commits m j v
    obtain ⟨rows, hjob⟩ := updated.job
    rw [applied, commits]
    exact .of_count ((updated.only.mono (by simp)).trans only_onJob_verdict) ⟨rows, by rw [job_onJob, hjob]; rfl⟩ fun _ hu => updated.ctr hu
  case isFalse notApplied =>
    dsimp only
    split
    case isTrue failed =>
      rw [failed]
      exact .of_count logged ⟨_, rfl⟩ fun _ _ => rfl
    case isFalse skipped =>
      have after : afterOutcome v.outcome (m.job j) = { m.job j with step := ((m.job j).step + 1) % 2 ^ 32 } := by
        simp [afterOutcome, notApplied, skipped]
      have counter : 0x14 = outcomeCounter v.outcome := by simp [outcomeCounter, notApplied, skipped]
      rw [counter]
      exact .of_count (logged.trans only_onJob_verdict) ⟨(m.job j).rows, by rw [job_onJob, after]; rfl⟩ fun _ _ => rfl

theorem restartBuffers_updated {j : Nat} (sameStart : Prop) [Decidable sameStart] (m : Module) :
    Updated j m (restartBuffers j sameStart m) :=
  ((Updated.zeroLanes m).trans (Updated.emptyAreas ..)).trans (Updated.ite (Updated.refl ..) (Updated.copyHold ..))

/-! ## To act on a verdict (11 R323, R329) -/

/-- From m to m' job j has acted on a verdict. -/
def ActedOn (j : Nat) (v : Verdict) (m m' : Module) : Prop :=
  let x := m.job j
  let y := m'.job j
  let b := x.config
  let record := stepRecord j (v.start + jobSpan b) v
  y.acted = (if x.start = v.start then true else x.acted) ∧ y.state = 2 ∧ y.record = record ∧ y.lateStep = none
    ∧ m'.lpRead (jobStatusAddr b) 32 = record
    ∧ (v.outcome = 0 → y.step = (x.step + 1) % 2 ^ 32 ∧ y.bufCopy = 1 - x.bufCopy ∧ m'.ctr 0x3300 0x0E = (m.ctr 0x3300 0x0E + 1) % 2 ^ 64)
    ∧ (v.outcome = 1 → y.step = x.step ∧ y.bufCopy = x.bufCopy ∧ m'.ctr 0x3300 0x13 = (m.ctr 0x3300 0x13 + 1) % 2 ^ 64)
    ∧ (v.outcome = 2 → y.step = (x.step + 1) % 2 ^ 32 ∧ y.bufCopy = x.bufCopy ∧ m'.ctr 0x3300 0x14 = (m.ctr 0x3300 0x14 + 1) % 2 ^ 64)
    ∧ (m.evtReserved (jobNotifyTile b) (jobNotifyEvt b) = true → mGetD (m'.tile (jobNotifyTile b)).events (jobNotifyEvt b) 0 =
        (mGetD (m.tile (jobNotifyTile b)).events (jobNotifyEvt b) 0 + 1) % 2 ^ 32)

/-- The parts that acting on a verdict may change. -/
abbrev actParts : List Part := .tiles :: verdictParts

/-- What acting on a verdict leaves of the job, of the counters and outside the tiles. -/
structure Acted (j : Nat) (v : Verdict) (m m' : Module) : Prop where
  only : Only actParts m m'
  job : ∃ rows, m'.job j = noteActed v (stepRecord j (v.start + jobSpan (m.job j).config) v)
    { afterOutcome v.outcome (m.job j) with rows := rows }
  status : m'.lpRead (jobStatusAddr (m.job j).config) 32 = stepRecord j (v.start + jobSpan (m.job j).config) v
  counters : ∀ u, u < 256 → u ≠ 0x15 → m'.ctr 0x3300 u = counted v.outcome u (m.ctr 0x3300 u)
  notify : m.evtReserved (jobNotifyTile (m.job j).config) (jobNotifyEvt (m.job j).config) = true →
    mGetD (m'.tile (jobNotifyTile (m.job j).config)).events (jobNotifyEvt (m.job j).config) 0 =
      (mGetD (m.tile (jobNotifyTile (m.job j).config)).events (jobNotifyEvt (m.job j).config) 0 + 1) % 2 ^ 32

theorem actOn_acted (m : Module) (j : Nat) (v : Verdict) : Acted j v m (m.actOn j v) := by
  let b := (m.job j).config
  let record := stepRecord j (v.start + jobSpan b) v
  let r := restartBuffers j ((m.job j).start = v.start) (takeOutcome j v m)
  let w := r.lpWrite (jobStatusAddr b) record
  let c := (w.count 0x3300 0x15 v.backups).onJob j (noteActed v record)
  have run : m.actOn j v = c.advance (jobNotifyTile b) (jobNotifyEvt b) 0 1 := actOn_eq m j v
  obtain ⟨decided, ⟨rows, hjob⟩, counters⟩ := (takeOutcome_decided j v m).updated (restartBuffers_updated ((m.job j).start = v.start) _)
  have recorded : Only verdictParts m c :=
    ((decided.trans (only_lpWrite.mono (by simp))).trans ((only_count w _ _ _).mono (by simp))).trans only_onJob_verdict
  have advanced : Only [.tiles] c (m.actOn j v) := by rw [run]; exact only_advance
  have jobs : (m.actOn j v).jobs = c.jobs := advanced .jobs (by decide)
  have lpddr : (m.actOn j v).mem.lpddr = w.mem.lpddr := (advanced .lpddr (by decide)).1
  have cnt : (m.actOn j v).od.cnt = (w.count 0x3300 0x15 v.backups).od.cnt := advanced .cnt (by decide)
  have streams : c.streams = m.streams := recorded .streams (by decide)
  have tiles : c.tiles = m.tiles := recorded .tiles (by decide)
  refine ⟨(recorded.mono (by simp)).trans (advanced.mono (by simp)), ⟨rows, ?_⟩, ?_, fun u hu other => ?_, fun reserved => ?_⟩
  · exact (job_congr jobs j).trans ((job_onJob ..).trans (congrArg (noteActed v record) hjob))
  · rw [Module.lpRead, lpddr]
    exact memReadN_memWriteN _ _ (toLe_length ..)
  · exact (ctr_congr cnt ..).trans ((ctr_count_ne w other _).trans (counters u hu))
  · rw [run, events_advance ((evtReserved_congr streams ..).trans reserved), if_pos rfl]
    simp only [Module.tile, tiles]

/-- Acting on a verdict does not count a late one. -/
theorem Acted.late_ctr {j : Nat} {v : Verdict} {m m' : Module} (h : Acted j v m m') : m'.ctr 0x3300 0x16 = m.ctr 0x3300 0x16 := by
  refine (h.counters 0x16 (by decide) (by decide)).trans (if_neg ?_)
  unfold outcomeCounter
  split
  · decide
  · split <;> decide

theorem Acted.actedOn {j : Nat} {v : Verdict} {m m' : Module} (h : Acted j v m m') (running : (m.job j).state = 2) :
    ActedOn j v m m' := by
  obtain ⟨-, ⟨rows, hjob⟩, status, counters, notify⟩ := h
  have kept : (afterOutcome v.outcome (m.job j)).start = (m.job j).start ∧ (afterOutcome v.outcome (m.job j)).acted = (m.job j).acted
      ∧ (afterOutcome v.outcome (m.job j)).state = (m.job j).state := by
    unfold afterOutcome
    split
    · exact ⟨rfl, rfl, rfl⟩
    · split <;> exact ⟨rfl, rfl, rfl⟩
  obtain ⟨start, acted, state⟩ := kept
  unfold ActedOn
  dsimp only
  rw [hjob]
  refine ⟨by simp only [noteActed, start, acted], state.trans running, rfl, rfl, status,
    fun applied => ?_, fun failed => ?_, fun skipped => ?_, notify⟩
  · rw [applied] at counters ⊢
    exact ⟨rfl, rfl, counters 0x0E (by decide) (by decide)⟩
  · rw [failed] at counters ⊢
    exact ⟨rfl, rfl, counters 0x13 (by decide) (by decide)⟩
  · rw [skipped] at counters ⊢
    exact ⟨rfl, rfl, counters 0x14 (by decide) (by decide)⟩

/-- The verdicts that a job holds, and the module's time, do not matter to what acting on one of them leaves. -/
theorem ActedOn.of_verdicts {j : Nat} {v : Verdict} {m a m' : Module} (h : ActedOn j v a m') (only : Only [.now, .jobs] m a)
    (job : ∃ verdicts, a.job j = { m.job j with verdicts := verdicts }) : ActedOn j v m m' := by
  obtain ⟨verdicts, hjob⟩ := job
  have cnt : a.od.cnt = m.od.cnt := only .cnt (by decide)
  have tiles : a.tiles = m.tiles := only .tiles (by decide)
  have streams : a.streams = m.streams := only .streams (by decide)
  simpa only [ActedOn, hjob, ctr_congr cnt, evtReserved_congr streams, Module.tile, tiles] using h

/-- Counting a late verdict leaves what acting on it left. -/
theorem ActedOn.count_late {j : Nat} {v : Verdict} {m m' : Module} (h : ActedOn j v m m') : ActedOn j v m (m'.count 0x3300 0x16 1) := by
  simp (disch := decide) only [ActedOn, ctr_count_ne]
  exact h

/-! ## The deadline (11 R314, R323) -/

theorem deadlineAct_away {m : Module} {j : Nat} (h : (m.job j).state ≠ 2 ∨ (m.job j).acted = true ∨ m.clock.sfc ≠ (m.job j).deadline) :
    m.deadlineAct j = m := if_pos h

/-- At its deadline a running member that has not acted looks for the verdict. -/
theorem deadlineAct_due {m : Module} {j : Nat} (running : (m.job j).state = 2) (pending : (m.job j).acted = false)
    (due : m.clock.sfc = (m.job j).deadline) : m.deadlineAct j = match (m.job j).verdictNow with
      | some v => m.actOn j v
      | none => m.onJob j (fun x => { x with lateStep := some x.step, acted := true }) :=
  if_neg (by simp [running, pending, due])

/-- The parts that a member may change at its deadline. -/
abbrev deadlineParts : List Part :=
  [.schedule, .jobs, .lpddr, .cnt, .tiles, .fresh, .events, .clients, .links, .cascade, .inject, .out]

/-- The module without the KIND 8 actions of a job that are due. -/
def undue (j : Nat) (m : Module) : Module := m.unplace (fun a => a.kind == 8 && a.arg == j && decide (a.target ≤ m.clock.sfc))

theorem only_undue {j : Nat} {m : Module} : Only [.schedule] m (undue j m) := only_unplace m _

section
variable (s : State) (job : Fin 64)

theorem reductionDeadline_away (h : (s.m.job job).state ≠ 2 ∨ (s.m.job job).acted = true ∨ s.m.clock.sfc ≠ (s.m.job job).deadline) :
    Completes (.reductionDeadline job) s [.schedule] (fun m' => m'.schedule = (undue job s.m).schedule) :=
  completes_of_run (m' := undue job s.m) rfl (deadlineAct_away h) only_undue rfl

variable (running : (s.m.job job).state = 2) (pending : (s.m.job job).acted = false) (due : s.m.clock.sfc = (s.m.job job).deadline)
include running pending due

theorem reductionDeadline_without (h : (s.m.job job).verdictNow = none) :
    Completes (.reductionDeadline job) s [.schedule, .jobs] (fun m' => m'.schedule = (undue job s.m).schedule
      ∧ m'.job job = { s.m.job job with lateStep := some (s.m.job job).step, acted := true }) := by
  have run : reductionDeadline job s.m = (undue job s.m).onJob job (fun x => { x with lateStep := some x.step, acted := true }) :=
    (deadlineAct_due (m := undue job s.m) running pending due).trans (by rw [show ((undue job s.m).job job).verdictNow = none from h])
  exact completes_of_run rfl run ((only_undue.mono (by simp)).trans (only_onJob.mono (by simp))) ⟨rfl, job_onJob ..⟩

theorem reductionDeadline_with (v : Verdict) (h : (s.m.job job).verdictNow = some v) :
    Completes (.reductionDeadline job) s deadlineParts (fun m' => m'.schedule = (undue job s.m).schedule
      ∧ ActedOn job v s.m m') := by
  have run : reductionDeadline job s.m = (undue job s.m).actOn job v :=
    (deadlineAct_due (m := undue job s.m) running pending due).trans (by rw [show ((undue job s.m).job job).verdictNow = some v from h])
  have acted : Acted job v (undue job s.m) ((undue job s.m).actOn job v) := actOn_acted ..
  exact completes_of_run rfl run ((only_undue.mono (by simp)).trans (acted.only.mono (by simp)))
    ⟨acted.only .schedule (by decide), acted.actedOn running⟩

end

/-! ## A late verdict (11 R323) -/

theorem keepVerdict_verdicts (x : Job) (v : Verdict) : ∃ verdicts, x.keepVerdict v = { x with verdicts := verdicts } := by
  unfold Job.keepVerdict
  split <;> exact ⟨_, rfl⟩

theorem lateVerdict_acts (s : State) (t : Nat) (job : Fin 64) (r : Bytes) (wf : (Instr.lateVerdict t job r).wellFormed = true)
    (running : (s.m.job job).state = 2) (late : (s.m.job job).lateStep = some (verdictOf (s.m.job job).config r).step) :
    Completes (.lateVerdict t job r) s (.now :: deadlineParts) (fun m' => ActedOn job (verdictOf (s.m.job job).config r) s.m m'
      ∧ m'.ctr 0x3300 0x16 = (s.m.ctr 0x3300 0x16 + 1) % 2 ^ 64) := by
  let v := verdictOf (s.m.job job).config r
  let kept := (s.m.at t).onJob job (fun x => x.keepVerdict v)
  have run : lateVerdict t job r s.m = (kept.actOn job v).count 0x3300 0x16 1 := if_pos ⟨running, late⟩
  have only : Only [.now, .jobs] s.m kept := ((only_at s.m t).mono (by simp)).trans (only_onJob.mono (by simp))
  have acted : Acted job v kept (kept.actOn job v) := actOn_acted ..
  obtain ⟨verdicts, hverdicts⟩ := keepVerdict_verdicts (s.m.job job) v
  have hjob : kept.job job = { s.m.job job with verdicts := verdicts } := (job_onJob ..).trans hverdicts
  have keptRunning : (kept.job job).state = 2 := by rw [hjob]; exact running
  refine completes_of_run (if_pos wf) run ?_ ⟨((acted.actedOn keptRunning).of_verdicts only ⟨verdicts, hjob⟩).count_late, ?_⟩
  · exact ((only.mono (by simp)).trans (acted.only.mono (by simp))).trans ((only_count (kept.actOn job v) _ _ _).mono (by simp))
  · exact (ctr_count ..).trans (congrArg (fun n => (n + 1) % 2 ^ 64) (acted.late_ctr.trans (ctr_congr (only .cnt (by decide)) ..)))

/-- A verdict of a step that the job has not noted as late only moves the time on. -/
theorem lateVerdict_ignored (s : State) (t : Nat) (job : Fin 64) (r : Bytes) (wf : (Instr.lateVerdict t job r).wellFormed = true)
    (h : (s.m.job job).state ≠ 2 ∨ (s.m.job job).lateStep ≠ some (verdictOf (s.m.job job).config r).step) :
    Completes (.lateVerdict t job r) s [.now] (fun m' => m'.jobs = s.m.jobs) := by
  have run : lateVerdict t job r s.m = s.m.at t := if_neg (not_and_of_not_or_not h)
  exact completes_of_run (if_pos wf) run (only_at s.m t) rfl

/-- Settles O45: away from the deadline, at it without and with the verdict, and a late verdict. -/
theorem deadlineRowsComplete : Obligations.DeadlineRowsComplete := by
  unfold Obligations.DeadlineRowsComplete
  intro s job
  refine ⟨reductionDeadline_away s job, fun running pending due => ⟨?without, ?withVerdict⟩, fun t r _ wf => ⟨?late, ?ignored⟩⟩
  case without => exact reductionDeadline_without s job running pending due
  case withVerdict => exact reductionDeadline_with s job running pending due
  case late => exact lateVerdict_acts s t job r wf
  case ignored => exact lateVerdict_ignored s t job r wf

end Sys2Proof.Deadline
end

section
/-! The addressed memories keep their canonical form (12 R346, R355, 07 R213, 15 R421). A module is canonical when LPDDR5X,
the NAND and both memories of every tile are. One lemma for each function of the model says that it keeps the module
canonical, in the order of the model's definitions; a step keeps it because each command does. -/

namespace Sys2Proof.CanonicalMemory

open Sys2Proof.Machine

/-! ## The property -/

/-- The slice and the Vat file of a tile are in canonical form. -/
def TileCanonical (x : Tile) : Prop := memWf x.slice = true ∧ memWf x.vat = true

/-- LPDDR5X, the NAND, and the slice and the Vat file of every tile are in canonical form. -/
def Canonical (m : Module) : Prop :=
  memWf m.mem.lpddr = true ∧ memWf m.cistern.nand = true ∧ ∀ p ∈ m.tiles, TileCanonical p.2

theorem canonical_iff (m : Module) : Canonical m ↔ m.memoryCanonical = true := by
  simp [Canonical, TileCanonical, Module.memoryCanonical, and_assoc]

theorem Canonical.lpddr {m : Module} (h : Canonical m) : memWf m.mem.lpddr = true := h.1
theorem Canonical.nand {m : Module} (h : Canonical m) : memWf m.cistern.nand = true := h.2.1
theorem Canonical.tiles {m : Module} (h : Canonical m) : ∀ p ∈ m.tiles, TileCanonical p.2 := h.2.2

/-- The module that an option holds, if any, is canonical. -/
def OptCanonical (o : Option Module) : Prop := ∀ m, o = some m → Canonical m

/-! ## Sparse contents -/

theorem memWf_filter {c : List Host.Cell} (h : memWf c = true) (p : Host.Cell → Bool) : memWf (c.filter p) = true := by
  rw [memWf_iff] at h ⊢
  exact ⟨fun x hx => h.1 x (List.mem_filter.mp hx).1, h.2.filter _⟩

/-- Writing the strings of a list, one after another, keeps the canonical form. -/
theorem memWf_foldl_memWriteN {α : Type} {l : List α} {a : α → Nat} {bs : α → Bytes} {c : List Host.Cell} (h : memWf c = true) :
    memWf (l.foldl (fun c x => memWriteN c (a x) (bs x)) c) = true :=
  List.foldlRecOn (motive := fun c => memWf c = true) l _ h fun _ hc _ _ => memWf_memWriteN hc ..

theorem mem_of_mGet {α : Type} {l : List (Nat × α)} {k : Nat} {v : α} (h : mGet l k = some v) : (k, v) ∈ l := by
  induction l with
  | nil => cases h
  | cons p l ih =>
    rw [mGet_cons] at h
    split at h
    · next own => rw [← own, ← Option.some.inj h]; exact List.mem_cons_self
    · exact List.mem_cons_of_mem _ (ih h)

theorem mem_mPut {α : Type} {l : List (Nat × α)} {k : Nat} {v : α} {p : Nat × α} (h : p ∈ mPut l k v) :
    p = (k, v) ∨ p ∈ l := by
  induction l with
  | nil => exact .inl (List.mem_singleton.mp h)
  | cons q l ih =>
    unfold mPut at h
    split at h
    · exact List.mem_cons.mp h
    · split at h
      · exact (List.mem_cons.mp h).imp_right (List.mem_cons_of_mem _)
      · rcases List.mem_cons.mp h with rfl | h
        · exact .inr List.mem_cons_self
        · exact (ih h).imp_right (List.mem_cons_of_mem _)

/-! ## Updates of a record -/

section
variable {vstate slots scales alphas events counts : List (Nat × Nat)} {ctxs : List (Nat × Ctx)} {runs : List Run}
  {cands : List (Nat × Nat × Nat)} {hot standby : List HotRow}

/-- A tile is canonical whatever stands beside its slice and its Vat file. -/
theorem TileCanonical.update {x : Tile} (h : TileCanonical x) : TileCanonical { x with
    vstate := vstate, slots := slots, scales := scales, alphas := alphas, events := events, ctxs := ctxs, runs := runs,
    counts := counts, cands := cands, hot := hot, standby := standby } := h

end

section
variable {m : Module} {clock : Clock} {schedule : List Action} {nextSeq : Nat} {od : Od} {vilur : Vilur} {ports : Ports}
  {search : Search} {lots : Lots} {streams : Streams} {tables : Tables} {jobs : Jobs} {cascade : Cascade} {holdup : Holdup}
  {boot : Boot} {health : Health} {power : Power} {out : List Out} {fresh : Nat}

/-- A module is canonical whatever stands beside its tiles, LPDDR5X and the Cistern. -/
theorem Canonical.update (h : Canonical m) : Canonical { m with
    clock := clock, schedule := schedule, nextSeq := nextSeq, od := od, vilur := vilur, ports := ports, search := search,
    lots := lots, streams := streams, tables := tables, jobs := jobs, cascade := cascade, holdup := holdup, boot := boot,
    health := health, power := power, out := out, fresh := fresh } := h

/-- A change of the tiles, one by one, that keeps each of them canonical. -/
theorem Canonical.mapTiles {f : Nat × Tile → Nat × Tile} (h : Canonical m)
    (hf : ∀ {p}, TileCanonical p.2 → TileCanonical (f p).2) : Canonical { m with
      clock := clock, schedule := schedule, nextSeq := nextSeq, od := od, vilur := vilur, ports := ports, search := search,
      lots := lots, streams := streams, tables := tables, jobs := jobs, cascade := cascade, holdup := holdup, boot := boot,
      health := health, power := power, out := out, fresh := fresh, tiles := m.tiles.map f } := by
  refine ⟨h.lpddr, h.nand, fun p hp => ?_⟩
  obtain ⟨q, hq, rfl⟩ := List.mem_map.mp hp
  exact hf (h.tiles q hq)

/-- The same of the records beside the bytes of LPDDR5X. -/
theorem Canonical.updateMem {poison : List Nat} {lotPoison : List (Nat × Nat)} {ready : Bool} {reserved : List (Nat × Nat × Nat)}
    {spareRows sparePages pageErrors rowErrors refresh : List (Nat × Nat)} {hotPackages : List Nat} {lastError : Nat}
    (h : Canonical m) : Canonical { m with
      clock := clock, schedule := schedule, nextSeq := nextSeq, od := od, vilur := vilur, ports := ports, search := search,
      lots := lots, streams := streams, tables := tables, jobs := jobs, cascade := cascade, holdup := holdup, boot := boot,
      health := health, power := power, out := out, fresh := fresh, mem := { m.mem with
        poison := poison, lotPoison := lotPoison, ready := ready, reserved := reserved, spareRows := spareRows,
        sparePages := sparePages, pageErrors := pageErrors, rowErrors := rowErrors, refresh := refresh,
        hotPackages := hotPackages, lastError := lastError } } := h

/-- The same of the records beside both. -/
theorem Canonical.updateBoth {reserved : List (Nat × Nat × Nat)} {cmds : List StoreCmd} (h : Canonical m) : Canonical { m with
    mem := { m.mem with reserved := reserved }, cistern := { m.cistern with cmds := cmds } } := h

/-- The same of the records beside the NAND. -/
theorem Canonical.updateCistern {cache : List CacheBlock} {journal flushArea : List JournalRec} {flushed readOnly : Bool}
    {lossNs lossSfc flushUs lastFlush nextCmd permille limit : Nat} {cmds : List StoreCmd} {bad : List Nat}
    {savedTime : Option Nat} (h : Canonical m) : Canonical { m with
      clock := clock, schedule := schedule, nextSeq := nextSeq, od := od, vilur := vilur, ports := ports, search := search,
      lots := lots, streams := streams, tables := tables, jobs := jobs, cascade := cascade, holdup := holdup, boot := boot,
      health := health, power := power, out := out, fresh := fresh, cistern := { m.cistern with
        cache := cache, journal := journal, flushArea := flushArea, flushed := flushed, lossNs := lossNs, lossSfc := lossSfc,
        flushUs := flushUs, lastFlush := lastFlush, cmds := cmds, nextCmd := nextCmd, bad := bad, readOnly := readOnly,
        permille := permille, savedTime := savedTime, limit := limit } } := h

end

/-! ## Branches and folds -/

section
variable {m x y : Module} {p : Prop} [Decidable p] {α β : Type}

theorem TileCanonical.ite {x y : Tile} (hx : TileCanonical x) (hy : TileCanonical y) :
    TileCanonical (if p then x else y) := by
  split <;> assumption

theorem TileCanonical.when {x y : Tile} (hy : TileCanonical y) (hx : TileCanonical y → TileCanonical x) :
    TileCanonical (if p then x else y) := .ite (hx hy) hy

theorem TileCanonical.unless {x y : Tile} (hx : TileCanonical x) (hy : TileCanonical x → TileCanonical y) :
    TileCanonical (if p then x else y) := .ite hx (hy hx)

theorem TileCanonical.foldl {f : Tile → α → Tile} {l : List α} {x : Tile} (h : TileCanonical x)
    (hf : ∀ {x a}, TileCanonical x → TileCanonical (f x a)) : TileCanonical (l.foldl f x) :=
  List.foldlRecOn l f h fun _ hx _ _ => hf hx

theorem Canonical.ite (hx : Canonical x) (hy : Canonical y) : Canonical (if p then x else y) := by split <;> assumption

/-- The first branch goes on from the second. -/
theorem Canonical.when (hy : Canonical y) (hx : Canonical y → Canonical x) :
    Canonical (if p then x else y) := .ite (hx hy) hy

/-- The second branch goes on from the first. -/
theorem Canonical.unless (hx : Canonical x) (hy : Canonical x → Canonical y) :
    Canonical (if p then x else y) := .ite hx (hy hx)

theorem Canonical.iteFst {x y : Module × β} (hx : Canonical x.1) (hy : Canonical y.1) :
    Canonical (if p then x else y).1 := by
  split <;> assumption

theorem Canonical.iteRun {x y : CmdRun} (hx : Canonical x.m) (hy : Canonical y.m) : Canonical (if p then x else y).m := by
  split <;> assumption

theorem Canonical.foldl {f : Module → α → Module} {l : List α} (h : Canonical m) (hf : ∀ {m a}, Canonical m → Canonical (f m a)) :
    Canonical (l.foldl f m) :=
  List.foldlRecOn l f h fun _ hm _ _ => hf hm

theorem Canonical.foldlFst {f : Module × β → α → Module × β} {l : List α} {x : Module × β} (h : Canonical x.1)
    (hf : ∀ {x a}, Canonical x.1 → Canonical (f x a).1) : Canonical (l.foldl f x).1 :=
  List.foldlRecOn (motive := fun x => Canonical x.1) l f h fun _ hx _ _ => hf hx

theorem Canonical.foldlRun {f : CmdRun → α → CmdRun} {l : List α} {r : CmdRun} (h : Canonical r.m)
    (hf : ∀ {r a}, Canonical r.m → Canonical (f r a).m) : Canonical (l.foldl f r).m :=
  List.foldlRecOn (motive := fun r => Canonical r.m) l f h fun _ hr _ _ => hf hr

theorem OptCanonical.none : OptCanonical none := fun _ h => nomatch h

theorem OptCanonical.some (h : Canonical m) : OptCanonical (some m) := by
  rintro _ ⟨⟩
  exact h

theorem OptCanonical.ite {o o' : Option Module} (h : OptCanonical o) (h' : OptCanonical o') :
    OptCanonical (if p then o else o') := by
  split <;> assumption

theorem OptCanonical.map {f : Module → Module} {o : Option Module} (h : OptCanonical o) (hf : ∀ {m}, Canonical m → Canonical (f m)) :
    OptCanonical (o.map f) := by
  cases o with
  | none => exact .none
  | some m => exact .some (hf (h m rfl))

theorem OptCanonical.foldl {f : Option Module → α → Option Module} {l : List α} {o : Option Module} (h : OptCanonical o)
    (hf : ∀ {o a}, OptCanonical o → OptCanonical (f o a)) : OptCanonical (l.foldl f o) :=
  List.foldlRecOn l f h fun _ ho _ _ => hf ho

end

/-! The arguments of the model's functions, under the names that their definitions give them. -/

variable {m : Module}
  {_addr addr arg arrival attr bad bag base bytes cancel cause cell client clocks cls cmd code coll corrected d dest
    detail dev device domain dst e entry err esr est evt ext f factory field fmt frames group hdr hi hops i ident idx
    inst invalid ip j k key kind lane lap len log2 lot mac mask missing mult mv n non now ns off op origin owner p
    page part peer permille phase pkg port prio psn qpn queued rkey rnr root row s sat scan sent serial set_ sfc
    sfcNext slot source spare src st stride sub swap syndrome t table tag target tensor tower trigger typ udp unit us
    v valid value w waits want why y : Nat}
  {ackReq again cascade combine first full hot journaled last low poisoned readBackOk readOk rimOk roce set tell
    towers training tx up v6 : Bool}
  {after before cells devs ks ls naks ps refused targets torn vals values visit : List Nat}
  {b bs data digest new old operand pay payload recs request : Bytes} {es rows times : List (Nat × Nat)}
  {deletes input : Option Bytes} {elig wanted : Nat → Bool} {measured seen : List (Nat × Nat × Nat)}
  {session write : Option Nat} {step temp : Int} {a : Action} {acts : List Action} {as : List Acc} {c : Client}
  {col : List Nat × List Nat} {g : Rat} {gs : List (Nat × Bool × Bool)} {l : LotData} {members : List MemberLot}
  {msg : PtpMsg} {o : Obj} {ok : VReq → Bytes → Bool} {pick : Nat × Bytes × Nat × Nat → Bool} {pkt : RocePacket}
  {pl : JobPlace} {q : Query} {r : VReq} {regs : Ctx → List (Nat × Nat)} {run : Module → Nat → Module}
  {temps : List Int} {tests : List SelfTest} {x : Session} {α : Type}

/-! ## The operations that every chapter uses -/

theorem Canonical.at (h : Canonical m) : Canonical (m.at t) := .update h
theorem Canonical.setCfg {v : Bytes} (h : Canonical m) : Canonical (m.setCfg idx sub inst v) := .update h
theorem Canonical.persist {v : Bytes} (h : Canonical m) : Canonical (m.persist idx sub inst v) := .update h
theorem Canonical.countI (h : Canonical m) : Canonical (m.countI idx sub inst n) := .update h
theorem Canonical.count (h : Canonical m) : Canonical (m.count idx sub n) := h.countI
theorem Canonical.ctrMax (h : Canonical m) : Canonical (m.ctrMax idx sub n) := .update h
theorem Canonical.drawn (h : Canonical m) : Canonical m.drawn := .update h
theorem Canonical.send {o : Out} (h : Canonical m) : Canonical (m.send o) := .update h
theorem Canonical.event {data : Nat} (h : Canonical m) : Canonical (m.event source code data) := .update h
theorem Canonical.place (h : Canonical m) : Canonical (m.place a) := .update h
theorem Canonical.unplace {p : Action → Bool} (h : Canonical m) : Canonical (m.unplace p) := .update h

theorem Canonical.tile (h : Canonical m) : TileCanonical (m.tile t) := by
  unfold Module.tile mGetD
  cases found : mGet m.tiles t with
  | none => exact ⟨rfl, rfl⟩
  | some x => exact h.tiles _ (mem_of_mGet found)

theorem Canonical.setTile {v : Tile} (h : Canonical m) (hv : TileCanonical v) : Canonical (m.setTile t v) := by
  refine ⟨h.lpddr, h.nand, fun p hp => ?_⟩
  rcases mem_mPut hp with rfl | old
  · exact hv
  · exact h.tiles p old

theorem Canonical.onTile {f : Tile → Tile} (h : Canonical m) (hf : ∀ {x}, TileCanonical x → TileCanonical (f x)) :
    Canonical (m.onTile t f) :=
  h.setTile (hf h.tile)

theorem Canonical.setSession {v : Session} (h : Canonical m) : Canonical (m.setSession s v) := .update h
theorem Canonical.onSession {f : Session → Session} (h : Canonical m) : Canonical (m.onSession s f) := .update h
theorem Canonical.onHostPort {f : HostPort → HostPort} (h : Canonical m) : Canonical (m.onHostPort p f) := .update h
theorem Canonical.portCount (h : Canonical m) : Canonical (m.portCount port field n) := h.countI
theorem Canonical.onLink {f : LinkPort → LinkPort} (h : Canonical m) : Canonical (m.onLink p f) := .update h
theorem Canonical.linkCount (h : Canonical m) : Canonical (m.linkCount port field n) := h.countI

theorem Canonical.injectFrom {n i : Nat} {r : InjResult} {cascade tx : Bool} {elig : Nat → Bool} (h : Canonical m) :
    Canonical (m.injectFrom cascade port tx elig n i r).1 := by
  induction n generalizing m i r with
  | zero => exact h
  | succ n ih => exact .iteFst (ih h) (.iteFst (ih (.update h)) (ih (.ite (.linkCount (.update h)) (.portCount (.update h)))))

theorem Canonical.inject (h : Canonical m) : Canonical (m.inject cascade port tx elig).1 := .iteFst h.injectFrom h
theorem Canonical.onInjector {f : Injector → Injector} (h : Canonical m) : Canonical (m.onInjector k f) := .update h

theorem Canonical.emit {o : Out} (h : Canonical m) : Canonical (m.emit port session roce o hdr) := by
  unfold Module.emit
  refine .foldl ?_ fun h => ?_
  · split
    · exact h.inject.onInjector
    · refine .ite h.inject ?_
      split
      · exact h.inject.send
      · exact h.inject
  · split
    · exact h.send.onInjector
    · exact h

theorem Canonical.countTx {s : Session} (h : Canonical m) : Canonical (m.countTx s bytes ext) := h.portCount.portCount
theorem Canonical.sessionError (h : Canonical m) : Canonical (m.sessionError s) := h.onSession

theorem Canonical.transmit {o : Out} (h : Canonical m) : Canonical (m.transmit s o queued bytes ext) := by
  unfold Module.transmit
  split
  · exact h
  · exact .ite h (.when h.setSession.countTx.emit (·.sessionError))

theorem Canonical.post (h : Canonical m) : Canonical (m.post s slot bs) := by
  unfold Module.post
  split
  · exact h
  · exact h.transmit

theorem Canonical.rdmaWrite (h : Canonical m) : Canonical (m.rdmaWrite s addr rkey bs) := h.transmit
theorem Canonical.rdmaRead (h : Canonical m) : Canonical (m.rdmaRead s addr rkey len) := h.transmit

theorem Canonical.nak (h : Canonical m) : Canonical (m.nak s psn code) := by
  unfold Module.nak
  split
  · exact h
  · exact .unless h.countTx.portCount.emit (·.sessionError)

/-! ## Cells and links -/

theorem Canonical.cellToWire {c : Bytes} (h : Canonical m) : Canonical (m.cellToWire p c) := by
  unfold Module.cellToWire
  refine .foldl ?_ fun h => ?_
  · split
    · exact h.inject.linkCount.onInjector
    · exact .unless h.inject.linkCount (·.send)
  · split
    · exact h.send.onInjector
    · exact h

theorem Canonical.sendSequenced {c : Bytes} (h : Canonical m) : Canonical (m.sendSequenced p c) := h.onLink.cellToWire

theorem Canonical.drainWaiting (h : Canonical m) : Canonical (m.drainWaiting p) :=
  .foldl h fun h => .ite h.onLink.sendSequenced h

theorem Canonical.sendCell {c : Bytes} (h : Canonical m) : Canonical (m.sendCell p c) :=
  .ite h.linkCount (.ite h.onLink h.sendSequenced)

theorem Canonical.sendLink (h : Canonical m) : Canonical (m.sendLink p naks swap) := h.onLink.cellToWire

theorem Canonical.sendTo (h : Canonical m) : Canonical (m.sendTo dst typ arg pay).1 := by
  unfold Module.sendTo
  split
  · exact h
  · exact h.sendCell

theorem Canonical.forward {c : Bytes} (h : Canonical m) : Canonical (m.forward c) := by
  unfold Module.forward
  refine .ite h ?_
  split
  · exact h
  · exact h.sendCell

theorem Canonical.sendDown (h : Canonical m) : Canonical (m.sendDown root typ arg pay wanted) := by
  unfold Module.sendDown
  refine .foldl h fun h => ?_
  split
  · exact h.sendCell
  · exact h

theorem Canonical.takeAck {ack : Nat} (h : Canonical m) : Canonical (m.takeAck p ack) := .drainWaiting (.ite h.onLink h)
theorem Canonical.sendNaks (h : Canonical m) : Canonical (m.sendNaks p) := .ite h h.linkCount.sendLink

theorem Canonical.rxSequenced {c : Bytes} (h : Canonical m) : Canonical (m.rxSequenced p c).1 :=
  .iteFst h.linkCount (.ite h.onLink.sendNaks h.onLink)

theorem Canonical.retransmit (h : Canonical m) : Canonical (m.retransmit p pick).1 :=
  .iteFst h (.foldl h.onLink (·.linkCount.cellToWire))

theorem Canonical.originate (h : Canonical m) : Canonical m.originate := .foldl (.update h) (·.sendCell)

theorem Canonical.setLink (h : Canonical m) : Canonical (m.setLink p st) :=
  .ite h (.when (.when (.when h.onLink.event (·.linkCount.onLink)) (·.onLink)) (·.originate))

/-! ## Local memory -/

theorem TileCanonical.putVatByte {x : Tile} {o : Nat} {b : Byte} (h : TileCanonical x) : TileCanonical (x.putVatByte o b) :=
  .ite ⟨h.1, memWf_memWrite h.2 ..⟩ (.ite (.update h) h)

theorem TileCanonical.putCtlByte {x : Tile} {o : Nat} {b : Byte} (h : TileCanonical x) :
    TileCanonical (x.putCtlByte o b) :=
  .ite (.update h) (.ite (.update h) h)

theorem TileCanonical.putBytes {f : Tile → Nat → Byte → Tile} {x : Tile} {o : Nat} {bs : Bytes} (h : TileCanonical x)
    (hf : ∀ {x o b}, TileCanonical x → TileCanonical (f x o b)) : TileCanonical (putBytes f x o bs) := by
  induction bs generalizing x o with
  | nil => exact h
  | cons b r ih => exact ih (hf h)

theorem Canonical.sliceWrite {o : Nat} (h : Canonical m) : Canonical (m.sliceWrite t o bs) :=
  h.onTile fun hx => ⟨memWf_memWriteN hx.1 .., hx.2⟩

theorem Canonical.lpWrite (h : Canonical m) : Canonical (m.lpWrite off bs) := ⟨memWf_memWriteN h.lpddr .., h.nand, h.tiles⟩
theorem Canonical.lpClear (h : Canonical m) : Canonical (m.lpClear off n) := ⟨memWf_memClear h.lpddr .., h.nand, h.tiles⟩

theorem Canonical.writeLoc {l : Loc} (h : Canonical m) : Canonical (m.writeLoc l bs) := by
  unfold Module.writeLoc
  split
  · exact h.lpWrite
  · exact h.sliceWrite
  · exact h.onTile (·.putBytes (·.putVatByte))
  · exact h.onTile (·.putBytes (·.putCtlByte))
  · exact h

theorem Canonical.countPoison {l : Loc} (h : Canonical m) : Canonical (m.countPoison l n) := by
  unfold Module.countPoison
  split
  · exact h.count
  · exact h

theorem Canonical.evtChange (h : Canonical m) : Canonical (m.evtChange t e op v) := .ite (.onTile h (·.update)) h
theorem Canonical.signalTile (h : Canonical m) : Canonical (m.signalTile t e op v) := .ite h.evtChange h.count
theorem Canonical.freeBytes (h : Canonical m) : Canonical (m.freeBytes n).1 := h.drawn

/-! ## The Vat and the matrix array -/

theorem TileCanonical.putAcc {x : Tile} {i : Nat} {a : Acc} (h : TileCanonical x) : TileCanonical (x.putAcc d i a) :=
  ⟨h.1, memWf_memPutLe h.2 ..⟩

theorem TileCanonical.putAcc32 {x : Tile} {i v : Nat} (h : TileCanonical x) : TileCanonical (x.putAcc32 d i v) :=
  ⟨h.1, memWf_memPutLe h.2 ..⟩

theorem TileCanonical.vatAdd {x : Tile} {o : Nat} {operand : Bytes} (h : TileCanonical x) :
    TileCanonical (x.vatAdd o operand) :=
  ⟨h.1, memWf_memPutLe h.2 ..⟩

theorem TileCanonical.mmaPut {i : MmaIn} {x : Tile} {row : List Nat} (h : TileCanonical x) :
    TileCanonical (i.put d x k row col) :=
  .ite h.putAcc h.putAcc32

theorem TileCanonical.mmaRun {i : MmaIn} {x : Tile} (h : TileCanonical x) : TileCanonical (i.run d x) :=
  .foldl h (·.mmaPut)

/-! ## Embedding tables -/

theorem TileCanonical.countRow {x : Tile} (h : TileCanonical x) : TileCanonical (x.countRow table row n) := by
  unfold Tile.countRow
  refine .unless (.update (.update h)) fun h0 => ?_
  refine .unless h0 fun h0 => ?_
  split
  · exact .ite h0 (.update h)
  · exact .update h

theorem Canonical.onTable {f : Table → Table} (h : Canonical m) : Canonical (m.onTable t f) := .update h
theorem Canonical.regionTouched (h : Canonical m) : Canonical (m.regionTouched off n) := .update h

/-! ## Reduction jobs -/

theorem Canonical.onJob {f : Job → Job} (h : Canonical m) : Canonical (m.onJob j f) := .update h
theorem Canonical.countConv (h : Canonical m) : Canonical (m.countConv j sat non) := h.onJob.count.count

theorem Canonical.msaAdd (h : Canonical m) : Canonical (m.msaAdd j off v) :=
  .ite h.lpWrite.count (.count (.countConv (.updateMem h.lpWrite)))

theorem Canonical.msaKeyed {first : Nat} (h : Canonical m) :
    Canonical (m.msaKeyed j base stride log2 key first vals).1 := by
  unfold Module.msaKeyed
  split
  · exact h.count
  · exact .foldl (.ite h h.lpWrite) (·.msaAdd)

theorem Canonical.clearArea (h : Canonical m) : Canonical (m.clearArea base stride log2) := .foldl h.lpClear (·.lpWrite)

theorem Canonical.sparseAdd {owner : Bool} {first : Nat} (h : Canonical m) :
    Canonical (m.sparseAdd j i owner key first vals).1 :=
  .ite h.msaKeyed h.msaKeyed.onJob

theorem Canonical.sendRing (h : Canonical m) : Canonical (m.sendRing j hi pay) := h.onJob.count.sendTo
theorem Canonical.forwardLine {l : Line} (h : Canonical m) : Canonical (m.forwardLine l) := .ite h.sendRing h.sendRing

theorem Canonical.lsaTake {l : Line} (h : Canonical m) : Canonical (m.lsaTake l) := by
  unfold Module.lsaTake
  split
  · exact .update h
  · refine .update ?_
    refine .ite h ?_
    split
    · exact h
    · exact .count (.forwardLine (.update h))

theorem Canonical.flushLines (h : Canonical m) : Canonical (m.flushLines j) := .foldl (.update h) (·.forwardLine)

theorem Canonical.takeLine {l : Line} (h : Canonical m) : Canonical (m.takeLine l) := by
  unfold Module.takeLine
  refine .ite (.ite h.sparseAdd (.foldl h (·.msaAdd))) ?_
  split
  · exact h.lsaTake
  · exact h

theorem Canonical.lateWrite (h : Canonical m) : Canonical (m.lateWrite j) := h.onJob.count

theorem Canonical.jobWrite (h : Canonical m) : Canonical (m.jobWrite j pl v) := by
  unfold Module.jobWrite
  refine .ite h.lateWrite ?_
  dsimp only
  split
  · exact h.msaAdd
  · exact h.takeLine
  · exact h

theorem Canonical.jobKeyed (h : Canonical m) : Canonical (m.jobKeyed j tensor row vals).1 :=
  .iteFst h.lateWrite h.sparseAdd

/-! ## Stream commands and remote operations -/

theorem Canonical.onSet {f : StreamSet → StreamSet} (h : Canonical m) : Canonical (m.onSet ident f) := .update h
theorem Canonical.onCtx {f : Ctx → Ctx} (h : Canonical m) : Canonical (m.onCtx t k f) := .onTile h (·.update)

theorem Canonical.onSetCtxs {s : StreamSet} {f : Ctx → Ctx} (h : Canonical m) : Canonical (m.onSetCtxs s f) :=
  .foldl h (·.onCtx)

theorem Canonical.settle (h : Canonical m) : Canonical (m.settle t) := by
  unfold Module.settle
  refine .foldl h fun h => ?_
  refine .ite h ?_
  split
  · exact h
  · exact .ite h h.onCtx

theorem Canonical.advance (h : Canonical m) : Canonical (m.advance t e op v) := h.evtChange.settle
theorem Canonical.signal (h : Canonical m) : Canonical (m.signal t e op v) := h.signalTile.settle

theorem Canonical.faultSet (h : Canonical m) : Canonical (m.faultSet ident t cmd code) :=
  .event (.count (.update h.onSetCtxs.onSet))

theorem Canonical.streamFault (h : Canonical m) : Canonical (m.streamFault t k code) := h.faultSet
theorem Canonical.pushOp {op : RemoteOp} (h : Canonical m) : Canonical (m.pushOp op) := .update h

theorem Canonical.remoteRead (h : Canonical m) : Canonical (m.remoteRead t k ident dev addr n dest).1 :=
  .foldlFst h fun h => .count (.foldl h.sendTo (·.pushOp.onCtx))

theorem Canonical.remoteSend (h : Canonical m) : Canonical (m.remoteSend t k ident dev typ kind pay).1 :=
  h.sendTo.pushOp.onCtx

theorem Canonical.remoteWrite (h : Canonical m) : Canonical (m.remoteWrite t k ident dev addr bs).1 :=
  .foldlFst h (·.remoteSend.count)

theorem Canonical.remoteVat (h : Canonical m) : Canonical (m.remoteVat t k ident dev addr bs).1 :=
  .foldlFst h (·.remoteSend.count)

theorem Canonical.remoteWinners (h : Canonical m) : Canonical (m.remoteWinners t k ident dev addr hdr recs).1 :=
  .onCtx (.pushOp (.foldlFst h (·.sendTo.count)))

theorem Canonical.finishCmd (h : Canonical m) : Canonical (m.finishCmd t k) := by
  unfold Module.finishCmd
  split
  · exact h
  · exact .settle (.ite h.onCtx.evtChange h.onCtx)

theorem Canonical.spend (h : Canonical m) : Canonical (m.spend t k clocks bytes) := h.onCtx.onSet

/-! ## Tile arithmetic -/

theorem Canonical.countMmaPasses (h : Canonical m) : Canonical (m.countMmaPasses ps) :=
  .foldl h fun h => .ite h h.countI.ctrMax

theorem Canonical.scramble (h : Canonical m) : Canonical (m.scramble t d) :=
  .when (.onTile h.freeBytes fun hx => ⟨hx.1, memWf_memWriteN hx.2 ..⟩) fun h => .drawn (h.onTile (·.update))

theorem Canonical.mmaRun {s : StreamSet} (h : Canonical m) : Canonical (m.mmaRun s t k w).m :=
  .iteRun (.scramble (.ite h.count.countMmaPasses h.count)) (.count (.onTile (.ite h.count.countMmaPasses h.count)
    (·.mmaRun)))

theorem Canonical.epiRun {s : StreamSet} (h : Canonical m) : Canonical (m.epiRun s t k w).m :=
  .count (.count (.count (.count (.ite (.foldl h (·.sliceWrite)) (.sliceWrite (.foldl h (·.sliceWrite)))))))

theorem Canonical.vatAccumulateWrite {o : Nat} (h : Canonical m) : Canonical (vatAccumulateWrite t o operand m) :=
  .ite (.onTile h (·.vatAdd)) h

/-! ## The Headgate -/

theorem Canonical.onLot {f : LotData → LotData} (h : Canonical m) : Canonical (m.onLot n f) := .update h
theorem Canonical.openLedger (h : Canonical m) : Canonical (m.openLedger f) := .ite h (.update h)
theorem Canonical.commit {c : Charge} (h : Canonical m) : Canonical (m.commit c) := .update h.openLedger

theorem Canonical.tryCharge {cs : List Charge} (h : Canonical m) : OptCanonical (m.tryCharge cs) :=
  .ite (.some (.foldl h (·.commit))) .none

theorem Canonical.countTower (h : Canonical m) : Canonical (m.countTower tower frames n) := .foldl h (·.update)
theorem Canonical.countVisits (h : Canonical m) : Canonical (m.countVisits lot attr f visit) := .update h

theorem Canonical.measure {stage : Nat} (h : Canonical m) : Canonical (m.measure lot i scan stage) := by
  unfold Module.measure
  split
  · exact h
  · exact .ite h.onLot (.foldl h.onLot (·.count.event))

/-! ## Spares and triggers -/

theorem Canonical.onTileHealth {f : TileHealth → TileHealth} (h : Canonical m) : Canonical (m.onTileHealth t f) :=
  .update h

theorem Canonical.planned (h : Canonical m) : Canonical (m.planned kind part spare) := .ite (.update h) h.place

theorem Canonical.forced (h : Canonical m) : Canonical (m.forced kind part spare) := by
  unfold Module.forced
  refine .place ?_
  refine .ite h ?_
  split
  · exact h
  · exact .update h.unplace

theorem Canonical.placeWaiting (h : Canonical m) : Canonical m.placeWaiting := .foldl h fun h => .ite h (.update h.place)
theorem Canonical.unsparableDue (h : Canonical m) : Canonical m.unsparableDue := .update h
theorem Canonical.affect (h : Canonical m) : Canonical (m.affect t n) := .update h

theorem Canonical.failTile (h : Canonical m) : Canonical (m.failTile t trigger) := by
  unfold Module.failTile
  refine .ite h ?_
  dsimp only
  split
  · exact .forced (.foldl h.unplace.onTileHealth.event fun h => .ite h.faultSet h)
  · exact .unsparableDue (.foldl h.unplace.onTileHealth.event fun h => .ite h.faultSet h)

theorem Canonical.planTile (h : Canonical m) : Canonical (m.planTile t) := by
  unfold Module.planTile
  refine .ite h ?_
  split
  · exact h.planned.onTileHealth
  · exact h.unsparableDue

theorem Canonical.pipelineFault (h : Canonical m) : Canonical (m.pipelineFault t code) :=
  .when h.affect.event.onTileHealth (·.failTile)

theorem Canonical.retireRow (h : Canonical m) : Canonical (m.retireRow t row) := .ite h (.ite h.planned h.planTile)
theorem Canonical.retirePage (h : Canonical m) : Canonical (m.retirePage page) := .ite h (.ite h.planned h)

theorem Canonical.passTest {place : Nat} (h : Canonical m) : Canonical (m.passTest f place) := by
  unfold Module.passTest
  split
  · exact .ite h h.onTileHealth
  · exact .update h

theorem Canonical.failTest {x : SelfTest} (h : Canonical m) : Canonical (m.failTest x) := by
  unfold Module.failTest
  dsimp only
  split
  · exact .ite (.unless h.count.event.onTileHealth (·.forced)) h.count.event.onTileHealth.failTile
  · exact .update h.count.event

theorem Canonical.selfTest {x : SelfTest} (h : Canonical m) : Canonical (Module.selfTest f m x) := by
  unfold Module.selfTest
  refine .ite h ?_
  split
  · exact h.passTest
  · exact h.count.event.passTest
  · exact h.failTest

theorem Canonical.raiseEpoch (h : Canonical m) : Canonical (m.raiseEpoch acts) := .ite (.update h) h
theorem Canonical.moveTile (h : Canonical m) : Canonical (m.moveTile t s) := .event (.count (.update h))

theorem Canonical.cutTile {s : Nat} (h : Canonical m) : Canonical (m.cutTile t s) :=
  .ite (.moveTile (.count (.onTileHealth (.onTile (.update h) fun hx => ⟨hx.1, rfl⟩)))) h.onTileHealth.moveTile

theorem Canonical.cutLane (h : Canonical m) : Canonical (m.cutLane lane spare) :=
  .event (.ite h.onLink (.update h.onLink))

theorem Canonical.cutCell (h : Canonical m) : Canonical (m.cutCell cell spare) := .event (.update h)

theorem Canonical.cutover (h : Canonical m) : Canonical (m.cutover a) := by
  unfold Module.cutover
  dsimp only
  split
  · exact h.cutTile
  · exact .event (.count (.update h.onTileHealth))
  · exact .event (.updateMem h)
  · exact .event (.updateMem h)
  · exact h.cutLane
  · exact h.cutCell

/-! ## Shard groups and multicasts -/

theorem Canonical.sendRecord {r : Bytes} (h : Canonical m) : Canonical (m.sendRecord set_ typ group tag r) :=
  .foldl h (·.sendDown)

theorem Canonical.openBatches (h : Canonical m) : Canonical m.openBatches :=
  .ite (.update h) (.foldl (.update h) fun h => .sendDown (.update h))

theorem Canonical.endBatches (h : Canonical m) : Canonical m.endBatches := .foldl h (·.sendRecord)
theorem Canonical.onBatch {f : Batch → Batch} (h : Canonical m) : Canonical (m.onBatch entry group sfc f) := .update h

theorem Canonical.dropLateCells (h : Canonical m) : Canonical m.dropLateCells :=
  .ite h (.foldl h fun h => .ite h h.onLink.linkCount)

/-! ## Room in LPDDR5X -/

theorem Canonical.reserve (h : Canonical m) : Canonical (m.reserve base n owner) := .ite h (.updateMem h)
theorem Canonical.unreserve (h : Canonical m) : Canonical (m.unreserve owner) := .updateMem h

/-! ## The Vilur protocol -/

theorem Canonical.onClient {f : Client → Client} (h : Canonical m) : Canonical (m.onClient r f) := .update h

theorem Canonical.sendUdp (h : Canonical m) : Canonical (m.sendUdp port addr udp bs) :=
  .emit (.ite h.portCount.portCount h)

theorem Canonical.replyLoose (h : Canonical m) : Canonical (m.replyLoose r st) := h.count.sendUdp

theorem Canonical.reply (h : Canonical m) : Canonical (m.reply r st target detail data) :=
  .sendUdp (.onClient (.ite h h.count))

theorem Canonical.refuse (h : Canonical m) : Canonical (m.refuse r st) := h.reply
theorem Canonical.ack (h : Canonical m) : Canonical (m.ack r target) := h.reply

theorem Canonical.serve {run : Module → VReq → Client → Module} (h : Canonical m) (hrun : ∀ {m r c}, Canonical m →
    Canonical (run m r c)) :
    Canonical (m.serve t ok run) := by
  unfold Module.serve
  dsimp only
  split
  · exact h.at
  · split
    · exact .update h.at
    · refine .ite h.at ?_
      split
      · exact .sendUdp (.update h.at)
      · exact hrun (.count (.update h.at))

theorem Canonical.checked {run : Module → Obj → Bytes → Module} (h : Canonical m) (hrun : ∀ {m o n}, Canonical m →
    Canonical (run m o n)) :
    Canonical (m.checked r c run) :=
  .ite h.refuse (hrun h)

theorem Canonical.untargeted {run : Module → Module} (h : Canonical m) (hrun : ∀ {m}, Canonical m → Canonical (run m)) :
    Canonical (m.untargeted r run) :=
  .ite h.refuse (hrun h)

theorem Canonical.atTick (h : Canonical m) (hrun : ∀ {m n}, Canonical m → Canonical (run m n)) :
    Canonical (m.atTick r run) :=
  .ite (hrun h) (.ite h.reply (hrun h))

theorem Canonical.withLead (h : Canonical m) (hrun : ∀ {m n}, Canonical m → Canonical (run m n)) :
    Canonical (m.withLead r n run) :=
  .ite (hrun h) h.reply

theorem Canonical.placeAck (h : Canonical m) : Canonical (m.placeAck r a) := .ite h.refuse h.place.ack
theorem Canonical.durable {v : Bytes} (h : Canonical m) : Canonical (m.durable o inst v) := .ite h.persist h

theorem Canonical.placeValue {v : Bytes} (h : Canonical m) : Canonical (m.placeValue r o inst n v) :=
  .ite h.refuse h.durable.place.ack

theorem Canonical.setNow {v : Bytes} (h : Canonical m) : Canonical (m.setNow o inst v) := h.durable.setCfg

/-! ## Scheduling -/

theorem Canonical.sendConfig {v : Bytes} (h : Canonical m) : Canonical (m.sendConfig dev j v) :=
  .foldl h fun h => .update h.sendTo

theorem Canonical.sendSched (h : Canonical m) : Canonical (m.sendSched dst tag a cancel) := h.sendTo

theorem Canonical.persistAction (h : Canonical m) : Canonical (m.persistAction a) := by
  unfold Module.persistAction
  refine .ite ?_ (.ite (.update h) h)
  refine .foldl (.when (.update (.update h)) (·.update)) fun h => ?_
  split
  · exact .update h
  · exact h

theorem Canonical.placed (h : Canonical m) : Canonical (m.placed r a) := h.persistAction.ack

theorem Canonical.placeAt (h : Canonical m) : Canonical (m.placeAt r a targets) :=
  .ite h.refuse (.ite h.place.placed (.foldl (.update h.place) (·.sendSched)))

theorem Canonical.placeOnly (h : Canonical m) : Canonical (m.placeOnly r a devs) := .foldl (.update h) (·.sendSched)
theorem Canonical.dropPlacement (h : Canonical m) : Canonical (m.dropPlacement tag) := .update h

theorem Canonical.failPlacement {p : Placement} (h : Canonical m) : Canonical (m.failPlacement p refused) := by
  unfold Module.failPlacement
  dsimp only
  split
  · exact .refuse (.ite (.onJob (.dropPlacement (.unplace (.foldl h (·.sendSched))))) (.dropPlacement (.unplace (.foldl h
      (·.sendSched)))))
  · exact .ite (.onJob (.dropPlacement (.unplace (.foldl h (·.sendSched))))) (.dropPlacement (.unplace (.foldl h
      (·.sendSched))))

theorem Canonical.placementDone {p : Placement} (h : Canonical m) : Canonical (m.placementDone p dev st) := by
  unfold Module.placementDone
  refine .ite h ?_
  refine .ite h.failPlacement ?_
  refine .ite ?_ (.update h)
  dsimp only
  split
  · exact h.dropPlacement.placed
  · exact h.dropPlacement

theorem Canonical.placeCopy (h : Canonical m) : Canonical (m.placeCopy a) := .update h

theorem Canonical.schedJob {cancel : Bool} (h : Canonical m) : Canonical (m.schedJob src arg a cancel) :=
  .ite h.onJob.sendTo (.ite h.sendTo h.onJob.sendTo)

theorem Canonical.takeSched {p : Bytes} (h : Canonical m) : Canonical (m.takeSched src arg p) :=
  .ite h.schedJob (.ite h.unplace.sendTo (.ite h.sendTo h.placeCopy.sendTo))

theorem Canonical.schedTimeouts (h : Canonical m) : Canonical m.schedTimeouts := .foldl h (·.failPlacement)
theorem Canonical.placeShape (h : Canonical m) : Canonical (m.placeShape r a) := .ite h.refuse h.placeAt

theorem Canonical.shapeLead {d : Nat → Nat} (h : Canonical m) (hrun : ∀ {m n}, Canonical m → Canonical (run m n)) :
    Canonical (m.shapeLead r d run) :=
  .ite (hrun h) h.reply

/-! ## Arming of stream sets -/

theorem Canonical.putSet {s : StreamSet} (h : Canonical m) : Canonical (m.putSet s) := .update h

/-- The definition is opened at its name: the kernel would evaluate the lists of the set to compare the applied forms. -/
theorem Canonical.armTile {s : StreamSet} (h : Canonical m) : Canonical (m.armTile s t) := by
  generalize named : Module.armTile = f
  delta Module.armTile at named
  subst named
  dsimp only
  split
  · exact .sliceWrite (.onTile h (·.update))
  · exact h

theorem Canonical.runArm (h : Canonical m) : Canonical (m.runArm r c) :=
  .checked h fun h => .atTick h fun h => .ite h.refuse (.ite (.reply (.update h.count)) (.ite h.refuse (.ack (.place
    (.putSet (.foldl h (·.armTile)))))))

theorem Canonical.streamArm (h : Canonical m) : Canonical (streamArm t m) := .serve h (·.runArm)

theorem Canonical.clearCounters {s : StreamSet} (h : Canonical m) : Canonical (m.clearCounters s) :=
  .foldl h fun h => .onTile h (·.update)

theorem Canonical.runSet {s : StreamSet} {regs : List (Nat × Nat)} (h : Canonical m) : Canonical (m.runSet s regs) :=
  .foldl h.onSetCtxs (·.settle)

theorem Canonical.startSet (h : Canonical m) : Canonical (m.startSet ident) :=
  .ite h.clearCounters.onSet.onSetCtxs h.clearCounters.onSet.runSet

theorem Canonical.runDisarm (h : Canonical m) : Canonical (m.runDisarm r c) :=
  .checked h fun h => .atTick h fun h => .ite h.refuse h.onSet.place.ack

theorem Canonical.streamDisarm (h : Canonical m) : Canonical (streamDisarm t m) := .serve h (·.runDisarm)

theorem Canonical.disarmSet (h : Canonical m) : Canonical (m.disarmSet ident) :=
  .update (.foldl h fun h => .onTile h (·.update))

theorem Canonical.runRearm (h : Canonical m) : Canonical (m.runRearm r c) :=
  .checked h fun h => .untargeted h fun h => .ite h.refuse (.ite h.reply (.ite h.refuse (.ite h.refuse h.onSet.place.ack)))

theorem Canonical.streamRearm (h : Canonical m) : Canonical (streamRearm t m) := .serve h (·.runRearm)

/-! ## Admission -/

theorem Canonical.countStatus (h : Canonical m) : Canonical (m.countStatus st) := by
  unfold Module.countStatus
  split
  · exact h.count
  · exact h.count
  · exact h.count
  · exact h.count
  · exact h.count
  · exact h.count
  · exact h.count
  · exact h

theorem Canonical.postQuery {session : Nat} (h : Canonical m) : Canonical (m.postQuery session slot bs) :=
  h.onSession.post.countStatus

theorem Canonical.sendAnswer {a : Bytes} (h : Canonical m) : Canonical (m.sendAnswer entry tag a) :=
  .ite h (.foldl h (·.sendTo))

theorem Canonical.dropQuery (h : Canonical m) : Canonical (m.dropQuery ident) := .update h
theorem Canonical.onQuery {f : Query → Query} (h : Canonical m) : Canonical (m.onQuery ident f) := .update h

theorem Canonical.settleQuery (h : Canonical m) : Canonical (m.settleQuery q st) :=
  .ite h.dropQuery.sendAnswer.countStatus h.dropQuery.postQuery

theorem Canonical.admitted (h : Canonical m) : Canonical m.admitted := .update h.count
theorem Canonical.refuseBusy (h : Canonical m) : Canonical (m.refuseBusy q) := .ite h.settleQuery (.update h.settleQuery)

theorem Canonical.pass1 {l : LotData} (h : Canonical m) : OptCanonical (m.pass1 l q) := by
  refine .ite .none ?_
  split
  · exact .none
  · next m' charged =>
    have h' := h.tryCharge m' charged
    exact .some (.update (.ite h' h'.countTower))

theorem Canonical.gate1One {c : Cand} (h : Canonical m) : Canonical (m.gate1One pos c) := by
  have numbered : Canonical { m with search := { m.search with nextId := m.search.nextId + 1 } } := .update h
  refine .ite numbered.refuseBusy ?_
  split
  · exact .ite numbered.settleQuery numbered.settleQuery
  · refine .ite numbered.settleQuery (.ite numbered.refuseBusy ?_)
    split
    · next m' passed =>
      have h' := numbered.pass1 m' passed
      exact .ite h' h'.admitted
    · exact numbered.refuseBusy

theorem Canonical.readmit (h : Canonical m) : Canonical m.readmit := by
  refine .ite h (.foldl h fun h => ?_)
  split
  · exact h
  · dsimp only
    split
    · next m' passed => exact h.dropQuery.pass1 m' passed
    · exact h

theorem Canonical.enterScan (h : Canonical m) : Canonical (m.enterScan l q) := h.onQuery.onLot

theorem Canonical.prepare1 (h : Canonical m) : Canonical (m.prepare1 q) := by
  unfold Module.prepare1
  split
  · exact h
  · split
    · exact h
    · exact h.settleQuery
    · split
      · exact h.settleQuery
      · exact .ite h.onQuery.onQuery.count (.ite h.onQuery h.onQuery.enterScan)

theorem Canonical.prepareDue (h : Canonical m) : Canonical (m.prepareDue towers) := .foldl h (·.prepare1)

theorem Canonical.gate2One (h : Canonical m) : Canonical (m.gate2One q) := by
  unfold Module.gate2One
  dsimp only
  split
  · exact h
  · refine .ite (.ite h.onQuery h.refuseBusy) ?_
    split
    · exact .ite h.openLedger.onQuery h.openLedger.refuseBusy
    · next m' charged =>
      have h' := h.openLedger.tryCharge m' charged
      exact .enterScan (.countVisits (.ite h' h'.admitted))

theorem Canonical.runGate2 (h : Canonical m) : Canonical m.runGate2 := .ite h (.update (.foldl h.prepareDue (·.gate2One)))
theorem Canonical.towerInputs (h : Canonical m) : Canonical (m.towerInputs tower) := .foldl h (·.lpWrite.onQuery)

theorem Canonical.runGate1 (h : Canonical m) : Canonical m.runGate1 :=
  .ite h (.ite h (.prepareDue (.foldl (.foldl (.readmit (.update h)) (·.gate1One)) (·.towerInputs))))

/-! ## Scan, re-rank and merge -/

theorem Canonical.takeMessage (h : Canonical m) : ∀ a ∈ m.takeMessage s, Canonical a.2 := by
  unfold Module.takeMessage
  split
  · simp
  · split
    · simp
    · rintro a ⟨⟩
      exact h.setSession

theorem Canonical.discard (h : Canonical m) : Canonical (m.discard s) := h.count.event

theorem Canonical.takeDefaults (h : Canonical m) : Canonical (m.takeDefaults s b) := by
  unfold Module.takeDefaults
  split
  · exact h
  · exact .ite h.discard (.update (.ite h h.onSession))

theorem Canonical.forwardQueries {g : Nat} {a : Arrival} (h : Canonical m) : Canonical (m.forwardQueries g a) := by
  unfold Module.forwardQueries
  dsimp only
  split
  · exact h
  · exact .update (.foldl h (·.sendRecord))

theorem Canonical.takeQuery (h : Canonical m) : Canonical (m.takeQuery s arrival b) := by
  unfold Module.takeQuery
  split
  · exact h
  · refine .ite h.discard ?_
    refine .update ?_
    split
    · exact .ite h.setSession.forwardQueries h.setSession
    · exact h.setSession

theorem Canonical.countPasses {tile : Nat} (h : Canonical m) : Canonical (m.countPasses l q tile) :=
  .foldl h fun h => .ite h h.count.count

theorem Canonical.contribute {tile : Nat} (h : Canonical m) : Canonical (m.contribute ident tile measured) := by
  unfold Module.contribute
  split
  · exact h
  · split
    · exact h
    · exact .ite h (.ite h.onQuery.count (.foldl h.countPasses.count.count.drawn.onQuery (·.measure)))

theorem Canonical.giveAnswer {a : Bytes} (h : Canonical m) : Canonical (m.giveAnswer q a) :=
  .ite h.sendAnswer.dropQuery (.update h.onQuery)

theorem Canonical.rerank (h : Canonical m) : Canonical (m.rerank ident) := by
  unfold Module.rerank
  split
  · exact h
  · split
    · exact h
    · exact .ite h (.ite (.ite (.settleQuery (.count (.ite h.count h))) (.giveAnswer (.count (.ite h.count h)))) (.ite
        (.postQuery (.dropQuery (.count (.ite h.count h)))) (.giveAnswer (.count (.ite h.count h)))))

theorem Canonical.mergeQuery (h : Canonical m) : Canonical (m.mergeQuery q) := by
  unfold Module.mergeQuery
  split
  · exact h
  · exact .update h.dropQuery.count.postQuery

theorem Canonical.cascadeMerge (h : Canonical m) : Canonical m.cascadeMerge := .foldl h (·.mergeQuery)

theorem Canonical.decideBatch {b : Batch} (h : Canonical m) : Canonical (m.decideBatch b) :=
  .unless h.onBatch.sendTo (·.count)

theorem Canonical.acceptBatch (h : Canonical m) : Canonical (m.acceptBatch entry group) := by
  unfold Module.acceptBatch
  split
  · exact h
  · exact .ite h h.decideBatch

theorem Canonical.fillTowers (h : Canonical m) : Canonical m.fillTowers := .update h
theorem Canonical.towerLate (h : Canonical m) : Canonical m.towerLate := .foldl h (·.dropQuery.count)

theorem Canonical.sendTowers (h : Canonical m) : Canonical m.sendTowers := by
  unfold Module.sendTowers
  refine .foldl h fun h => ?_
  split
  · exact h.sendRecord
  · exact h

theorem Canonical.deferExpiry (h : Canonical m) : Canonical m.deferExpiry := .foldl h (·.settleQuery)

/-! ## The Lot library -/

theorem Canonical.loadFailed (h : Canonical m) : Canonical (m.loadFailed n) := .event (.update h)

theorem Canonical.startLoad (h : Canonical m) : Canonical (m.startLoad n why) :=
  .ite (.loadFailed (.update h)) (.update (.update h))

theorem Canonical.stageLot (h : Canonical m) : Canonical (m.stageLot l) := .update h

theorem Canonical.endLoad (h : Canonical m) : Canonical (m.endLoad readOk).1 := by
  unfold Module.endLoad
  dsimp only
  split
  · exact h.loadFailed
  · exact .iteFst (.loadFailed (.event (.count (.update h)))) (.event (.stageLot (.updateMem (.update h))))

theorem Canonical.notePhase (h : Canonical m) : Canonical m.notePhase := .ite h (.update h)
theorem Canonical.freeLots (h : Canonical m) : Canonical m.freeLots := .update h

theorem Canonical.unstage (h : Canonical m) : Canonical m.unstage := by
  unfold Module.unstage
  split
  · exact h
  · exact .update h

theorem Canonical.restage (h : Canonical m) : Canonical (m.restage l) := .stageLot (.update h)
theorem Canonical.switchLot (h : Canonical m) : Canonical (m.switchLot v n) := .ite h.count.event (.update h)
theorem Canonical.ownSwitch (h : Canonical m) : Canonical (m.ownSwitch v) := .ite h.event h.place
theorem Canonical.appendLog (h : Canonical m) : Canonical (m.appendLog lot es) := .update h

/-! ## Lot rows -/

theorem Canonical.runLotLoad (h : Canonical m) : Canonical (m.runLotLoad r c) :=
  .checked h fun h => .untargeted h fun h => .ite h.refuse h.startLoad.ack

theorem Canonical.lotLoad (h : Canonical m) : Canonical (lotLoad t m) := .serve h (·.runLotLoad)
theorem Canonical.startupLoad (h : Canonical m) : OptCanonical (m.startupLoad n why) := .ite .none (.some h.startLoad)
theorem Canonical.startupFailed (h : Canonical m) : Canonical (m.startupFailed n) := .event (.update h)

theorem Canonical.startupFallback (h : Canonical m) : Canonical m.startupFallback := by
  unfold Module.startupFallback
  split
  · next x loading => exact (h.startupLoad x loading).event
  · exact h.startupFailed

theorem Canonical.afterLoad {ok : Bool} (h : Canonical m) : Canonical (m.afterLoad n ok) := by
  unfold Module.afterLoad
  split
  · exact .ite h.ownSwitch h
  · exact .ite (.update h) h.startupFallback
  · exact .ite (.update h) h.startupFailed
  · exact h

theorem Canonical.loadDone (h : Canonical m) : Canonical (loadDone t readOk m) :=
  .ite h.at h.at.endLoad.afterLoad.notePhase

theorem Canonical.runLotUnstage (h : Canonical m) : Canonical (m.runLotUnstage r c) := by
  unfold Module.runLotUnstage
  refine .checked h fun h => ?_
  refine .untargeted h fun h => ?_
  split
  · exact h.refuse
  · exact .ite h.refuse h.unstage.ack

theorem Canonical.lotUnstage (h : Canonical m) : Canonical (lotUnstage t m) := .serve h (·.runLotUnstage)

theorem Canonical.runLotRollback (h : Canonical m) : Canonical (m.runLotRollback r c) := by
  unfold Module.runLotRollback
  refine .checked h fun h => ?_
  refine .untargeted h fun h => ?_
  dsimp only
  split
  · exact .ite h.refuse h.startLoad.ack
  · exact .ite h.refuse (.ite h.refuse (.ite h.refuse (.ite h.loadFailed.ack h.restage.ack)))

theorem Canonical.lotRollback (h : Canonical m) : Canonical (lotRollback t m) := .serve h (·.runLotRollback)

theorem Canonical.runHoldClear (h : Canonical m) : Canonical (m.runHoldClear r c) :=
  .checked h fun h => .untargeted h (·.setNow.freeLots.ack)

theorem Canonical.holdPreviousClear (h : Canonical m) : Canonical (holdPreviousClear t m) := .serve h (·.runHoldClear)

theorem Canonical.placeSwitch (h : Canonical m) : Canonical (m.placeSwitch r members lot dev n) :=
  .ite (.ite h.refuse h.placeAt) (.ite (.ite h.refuse (.ite h.placeAt h.placeOnly)) (.ite h.placeAt (.ite h.refuse
    h.placeAt)))

theorem Canonical.runLotSwitch (h : Canonical m) : Canonical (Module.runLotSwitch members m r c) :=
  .checked h fun h => .ite h.refuse (.untargeted h fun h => .withLead h fun h => .ite h.refuse (.ite h.refuse (.ite
    h.refuse h.placeSwitch)))

theorem Canonical.lotSwitch (h : Canonical m) : Canonical (lotSwitch t members m) := .serve h (·.runLotSwitch)

theorem Canonical.runLotImport (h : Canonical m) : Canonical (m.runLotImport r c) :=
  .checked h fun h => .untargeted h fun h => .ite h.refuse (.ite h.refuse (.ite h.refuse (.ite h.refuse (.ack (.rdmaRead
    (.update h))))))

theorem Canonical.lotImport (h : Canonical m) : Canonical (lotImport t m) := .serve h (·.runLotImport)

theorem Canonical.importDone (h : Canonical m) : Canonical (importDone t data m) :=
  .ite h.at (.ite (.update h.at) (.event (.update h.at)))

theorem Canonical.runLotDelete (h : Canonical m) : Canonical (m.runLotDelete r c) :=
  .checked h fun h => .untargeted h fun h => .ite h.refuse (.ite h.refuse (.ack (.update h)))

theorem Canonical.lotDelete (h : Canonical m) : Canonical (lotDelete t m) := .serve h (·.runLotDelete)

theorem Canonical.lotRepaired (h : Canonical m) : Canonical (lotRepaired t m) := by
  unfold Machine.lotRepaired
  dsimp only
  split
  · exact h.at
  · split
    · exact h.at
    · exact .event (.count (.updateMem h.at))

theorem Canonical.takeAttr (h : Canonical m) : Canonical (m.takeAttr s b) := by
  unfold Module.takeAttr
  split
  · exact h
  · exact .ite h.discard (.ite h.post (.post (.update h.appendLog)))

theorem Canonical.attrWrite (h : Canonical m) : Canonical (attrWrite t s m) := by
  unfold Machine.attrWrite
  dsimp only
  split
  · exact h.at
  · refine .ite h.at ?_
    split
    · next a taken => exact (h.at.takeMessage a taken).takeAttr
    · exact h.at

/-! ## Builder rows -/

theorem Canonical.runBuildStart (h : Canonical m) : Canonical (m.runBuildStart r c) :=
  .checked h fun h => .withLead h fun h => .ite h.refuse (.ite h.refuse (.ite h.refuse (.ite h.refuse (.ite h.refuse (.ite
    h.refuse (.ite h.refuse (.ack (.update h.place))))))))

theorem Canonical.buildStart (h : Canonical m) : Canonical (buildStart t m) := .serve h (·.runBuildStart)

theorem Canonical.buildReads (h : Canonical m) : Canonical (m.buildReads d) :=
  .ite h (.ite h.rdmaRead h.rdmaRead.rdmaRead)

theorem Canonical.beginBuild (h : Canonical m) : Canonical m.beginBuild := .update h.buildReads

theorem Canonical.runBuildCancel (h : Canonical m) : Canonical (m.runBuildCancel r c) :=
  .checked h fun h => .atTick h fun h => .ite h.refuse (.ack (.update h.place))

theorem Canonical.buildCancel (h : Canonical m) : Canonical (buildCancel t m) := .serve h (·.runBuildCancel)
theorem Canonical.stopBuild (h : Canonical m) : Canonical (m.stopBuild st err) := .event (.update h)

theorem Canonical.buildEnded (h : Canonical m) : Canonical (buildEnded t input deletes m) :=
  .ite h.at (.ite h.at.drawn.stopBuild (.unless (.stopBuild (.update h.at.drawn)) fun h => .ite h.event h.startLoad))

/-! ## Look-ups -/

theorem Canonical.tabCount (h : Canonical m) : Canonical (m.tabCount table field n) := h.countI

theorem Canonical.lkFinish {status : Nat} (h : Canonical m) :
    Canonical (m.lkFinish t addr status missing valid invalid) :=
  h.sliceWrite.advance

theorem Canonical.sendLookup {tile req x : Nat} (h : Canonical m) :
    Canonical (m.sendLookup dst kind last n table combine tile req owner x off row data) :=
  .update h.sendTo

theorem Canonical.sendPieces {l : List α} {f : Module → List α → Nat → Bool → Module} (hf : ∀ {m n i j}, Canonical m →
    Canonical (f m n i j)) (h : Canonical m) :
    Canonical (sendPieces n l f m) :=
  .foldl h fun h => hf h

theorem Canonical.sendRoute {r : Route} (h : Canonical m) : Canonical (m.sendRoute r) := .sendPieces (·.sendLookup) h
theorem Canonical.staleRow (h : Canonical m) : Canonical (m.staleRow table row) := .update h
theorem Canonical.sendStale (h : Canonical m) : Canonical (m.sendStale d table row) := .foldl h (·.sendLookup)

theorem Canonical.lkPlan {seen : List (Nat × Nat × Nat)} (h : Canonical m) : Canonical (m.lkPlan seen t k addr).1 := by
  unfold Module.lkPlan
  extract_lets
  split
  · exact h
  split
  · dsimp only
    exact h.lkFinish
  split
  · dsimp only
    exact h.lkFinish
  split
  · dsimp only
    exact h.lkFinish
  extract_lets
  split <;> dsimp only
  · exact .foldl (.update h.tabCount.tabCount) (·.sendRoute)
  · exact h.tabCount.tabCount.lkFinish.count

theorem Canonical.lkMailbox (h : Canonical m) : Canonical (m.lkMailbox seen t k).1 :=
  .foldlFst (.ite h h.sliceWrite) (·.lkPlan)

theorem Canonical.lkTick (h : Canonical m) : Canonical m.lkTick :=
  .foldlFst (.update h) fun h => .iteFst h (.foldlFst h fun h => .iteFst h h.lkMailbox)

theorem Canonical.takePartial {tile req : Nat} {vals : List (Nat × Nat)} (h : Canonical m) :
    Canonical (m.takePartial tile req dev owner bag vals) :=
  .update h

theorem Canonical.givePartial {r : Route} (h : Canonical m) : Canonical (m.givePartial r bag combine as) :=
  .ite h.takePartial (.sendPieces (·.sendLookup) h)

theorem Canonical.countAtOwner {r : Route} (h : Canonical m) : Canonical (m.countAtOwner r rows) :=
  .ite (.onTile h fun h => .foldl h (·.countRow)) (.sendPieces (·.sendLookup) h)

theorem Canonical.ownerPool {tile : Nat} (h : Canonical m) : Canonical (m.ownerPool tile) := by
  unfold Module.ownerPool
  extract_lets rs _ taken keys fetched counted bad answered
  have hf : Canonical fetched := by
    refine .foldl (.update h) fun h => ?_
    split
    · exact h
    · exact .when (by split <;> exact h.tabCount) (·.tabCount)
  have hc : Canonical counted := by
    refine .foldl hf fun h => ?_
    split
    · exact h
    · exact h.countAtOwner.tabCount
  have ha : Canonical answered := by
    refine .foldl hc fun h => ?_
    split
    · exact h
    · exact .foldl h fun h => .ite h h.givePartial
  exact .ite ha.count.pipelineFault ha

theorem Canonical.lkComplete {l : Lookup} (h : Canonical m) : Canonical (m.lkComplete l) :=
  .update h.sliceWrite.tabCount.tabCount.lkFinish

theorem Canonical.lkCombine {tile : Nat} (h : Canonical m) : Canonical (m.lkCombine tile) := .foldl h (·.lkComplete)
theorem Canonical.lkOverdue (h : Canonical m) : Canonical m.lkOverdue := .foldl h (·.lkComplete)

theorem Canonical.sendReplicas {y : HotRow} (h : Canonical m) : Canonical (m.sendReplicas owner est y) := by
  unfold Module.sendReplicas
  dsimp only
  split
  · exact h
  · exact .foldl h fun h => .foldl h fun h => .ite (.update h) (.sendPieces (·.sendLookup) h)

theorem Canonical.refreshTile {r : Nat} (h : Canonical m) : Canonical (m.refreshTile t r) :=
  .foldl (.onTile h (·.update)) (·.sendReplicas)

theorem Canonical.hotRefresh (h : Canonical m) : Canonical m.hotRefresh := .ite h (.place (.foldl h (·.refreshTile)))
theorem Canonical.hotFlip (h : Canonical m) : Canonical m.hotFlip := .update (.foldl h fun h => .onTile h (·.update))

theorem Canonical.switchTable {version : Nat} (h : Canonical m) : Canonical (m.switchTable t version) := by
  unfold Module.switchTable
  extract_lets x release drop logged
  have hdrop : ∀ {m}, Canonical m → Canonical (drop m) := (·.mapTiles (·.update))
  have hl : Canonical logged := .ite h h.event
  refine .ite (hdrop hl).onTable ?_
  split
  · exact hl
  · split
    · exact .ite (hl.onTable.mapTiles (·.update)) (hdrop hl.onTable)
    · exact hdrop hl.onTable

theorem Canonical.releaseTables (h : Canonical m) : Canonical m.releaseTables := by
  unfold Module.releaseTables
  refine .foldl (.update h) fun h => ?_
  split
  · exact .ite (.updateMem h.onTable) h
  · exact h

theorem Canonical.takeLookup {p : Bytes} (h : Canonical m) : Canonical (m.takeLookup src p) := by
  unfold Module.takeLookup
  dsimp only
  split
  · exact .ite (.update h) (.update h)
  · exact h.takePartial
  · exact .onTile h fun h => .foldl h (·.countRow)
  · exact h.staleRow
  · exact .ite (.update h) (.update h)

/-! ## Steps of reduction jobs -/

theorem Canonical.zeroLanes (h : Canonical m) : Canonical (m.zeroLanes j) := h.lpClear.lpClear
theorem Canonical.emptyAreas (h : Canonical m) : Canonical (m.emptyAreas j ks) := .foldl h fun h => .foldl h (·.clearArea)

theorem Canonical.coldStart (h : Canonical m) : Canonical (m.coldStart j) :=
  .onJob (.foldl h.zeroLanes.emptyAreas fun h => .lpWrite (.lpWrite (.foldl h (·.lpClear))))

theorem Canonical.copyHold (h : Canonical m) : Canonical (m.copyHold j) := .foldl h (·.lpWrite)
theorem Canonical.stepStart (h : Canonical m) : Canonical (m.stepStart j n) := .place (.onJob (.ite h h.copyHold))

theorem Canonical.sendFactors (h : Canonical m) : Canonical (m.sendFactors j base gs) :=
  .ite (.foldl h.countConv (·.msaAdd)) (.foldl (.foldl h.countConv (·.msaAdd)) (·.sendRing))

theorem Canonical.pFactor (h : Canonical m) : Canonical (m.pFactor j i) := h.onJob.sendFactors
theorem Canonical.qFactor (h : Canonical m) : Canonical (m.qFactor j i mask) := h.lpWrite.onJob.sendFactors

theorem Canonical.sweep (h : Canonical m) : Canonical (m.sweep j i) := by
  unfold Module.sweep
  dsimp only
  split
  · exact h
  · exact .foldl h fun h => .ite h (.foldl h (·.takeLine))

theorem Canonical.sendToken {t : StepToken} (h : Canonical m) : Canonical (m.sendToken j phase lap t) := h.sendTo
theorem Canonical.phaseDone {t : StepToken} (h : Canonical m) : Canonical (m.phaseDone j phase t) := h.onJob
theorem Canonical.tokenJoin {t : StepToken} (h : Canonical m) : Canonical (m.tokenJoin j phase t).1 := h.flushLines

theorem Canonical.tokenAt {t : StepToken} (h : Canonical m) : Canonical (m.tokenAt j phase lap t) :=
  .ite h.onJob (.ite (.ite h.tokenJoin.phaseDone h.tokenJoin.sendToken) (.ite (.ite h.phaseDone.sendToken h.sendToken)
    (.ite h.phaseDone h.phaseDone.sendToken)))

theorem Canonical.phaseToken (h : Canonical m) : Canonical (m.phaseToken j phase) := by
  unfold Module.phaseToken
  dsimp only
  split
  · exact .when (.ite h.tokenAt h) (·.onJob.tokenAt)
  · exact .ite h.tokenAt h

theorem Canonical.sweepAll (h : Canonical m) : Canonical (m.sweepAll j) := .foldl h fun h => .ite h.sweep h

theorem Canonical.phaseTick (h : Canonical m) : Canonical (m.phaseTick j n) := by
  unfold Module.phaseTick
  refine .ite h ?_
  refine .ite (.ite (.phaseToken (.foldl h.onJob (·.pFactor))) h.onJob.sweepAll.phaseToken) ?_
  refine .ite ?_ h
  split
  · exact .phaseToken (.sweepAll (.foldl h (·.qFactor)))
  · exact h.onJob.sweepAll.phaseToken

theorem Canonical.applyElem (h : Canonical m) : Canonical (m.applyElem t e g) := .ite h.lpWrite (.ite h.lpWrite h.lpWrite)
theorem Canonical.updateDense (h : Canonical m) : Canonical (m.updateDense j t ls) := .foldl h fun h => .ite h.applyElem h

theorem Canonical.updateLow (h : Canonical m) : Canonical (m.updateLow j i ls) :=
  .ite h.lpWrite (.foldl h.lpWrite fun h => .foldl h (·.applyElem))

theorem Canonical.updateSparse (h : Canonical m) : Canonical (m.updateSparse j i ls) := by
  unfold Module.updateSparse
  dsimp only
  split
  · exact h
  · exact .foldl h.onJob.drawn (·.sendStale)

theorem Canonical.applyStep {v : Verdict} (h : Canonical m) : Canonical (m.applyStep j v) :=
  .onJob (.foldl (.foldl (.foldl h fun h => .updateDense h) fun h => .updateLow h) fun h => .ite (.clearArea (.updateSparse
    h)) h)

theorem Canonical.actOn {v : Verdict} (h : Canonical m) : Canonical (m.actOn j v) :=
  .advance (.onJob (.count (.lpWrite (.unless (.emptyAreas (.zeroLanes (.ite h.applyStep.count (.ite h.event.count
    h.event.onJob.count)))) (·.copyHold)))))

theorem Canonical.deadlineAct (h : Canonical m) : Canonical (m.deadlineAct j) := by
  unfold Module.deadlineAct
  refine .ite h ?_
  split
  · exact h.actOn
  · exact h.onJob

theorem Canonical.rewriteRows {j : Nat} (h : Canonical m) : Canonical (m.rewriteRows j) := by
  refine .onJob (.foldl h fun h => ?_)
  split
  · exact h
  · exact .count (.staleRow (h.lpWrite.regionTouched.mapTiles (·.update)))

theorem Canonical.rewriteAll (h : Canonical m) : Canonical m.rewriteAll :=
  Canonical.mapTiles (.foldl h (·.rewriteRows)) (·.update)

theorem Canonical.jobTick (h : Canonical m) : Canonical (m.jobTick j n) :=
  .ite (.ite h.onJob h) (.phaseTick (.ite (.ite h.onJob.coldStart.stepStart h.onJob) (.ite (.ite h.onJob h.stepStart) h)))

theorem Canonical.jobsTick (h : Canonical m) : Canonical (m.jobsTick n) := .foldl h (·.jobTick)

theorem Canonical.takeRing (h : Canonical m) : Canonical (m.takeRing arg pay) :=
  .ite h.count (.ite h.count.onJob.takeLine (.ite h.count.onJob.takeLine (.ite (.sendRing (.foldl h.count.onJob
    (·.msaAdd))) (.foldl h.count.onJob (·.msaAdd)))))

theorem Canonical.takeToken (h : Canonical m) : Canonical (m.takeToken arg pay) := .ite h h.tokenAt
theorem Canonical.takeAbort (h : Canonical m) : Canonical (m.takeAbort arg pay) := .ite h h.onJob
theorem Canonical.lateVerdict {r : Bytes} (h : Canonical m) : Canonical (m.lateVerdict j r) := .ite h.onJob.actOn.count h

theorem Canonical.abortJobs (h : Canonical m) : Canonical (m.abortJobs p) :=
  .foldl h fun h => .takeAbort (.foldl (.update h) (·.sendCell))

theorem Canonical.linkTo (h : Canonical m) : Canonical (m.linkTo p st) := .setLink (.ite h.abortJobs h)

/-! ## Selection on a tile -/

theorem Canonical.setRuns {l : List Run} (h : Canonical m) : Canonical (m.setRuns t l) := .onTile h (·.update)

theorem Canonical.skRun {s : StreamSet} (h : Canonical m) : Canonical (m.skRun s t k w).m :=
  .count (.count (.count (.count (.foldl h (·.setRuns.sliceWrite)))))

theorem Canonical.winsRun {s : StreamSet} (h : Canonical m) : Canonical (m.winsRun s t k w).m := h.setRuns.count.count

theorem Canonical.drainRun {s : StreamSet} (h : Canonical m) : Canonical (m.drainRun s t k w).m :=
  .ite h.sliceWrite.setRuns h.sliceWrite

theorem Canonical.winnerApply {o rows : Nat} (h : Canonical m) :
    Canonical (m.winnerApply t o coll rows op fmt evt recs).1 := by
  unfold Module.winnerApply
  dsimp only
  split <;> dsimp only
  · exact h.count
  · exact .advance (.count (.sliceWrite (.foldl h (·.sliceWrite))))

theorem Canonical.winnerWrite {o rows : Nat} (h : Canonical m) :
    Canonical (winnerWrite t o coll rows op fmt evt recs m) :=
  .ite h.winnerApply h

theorem Canonical.argRun {s : StreamSet} (h : Canonical m) : Canonical (Module.argRun waits m s t k w).m := by
  unfold Module.argRun
  refine .iteRun h.sliceWrite ?_
  dsimp only
  split
  · exact h.remoteWinners
  · exact h.winnerApply
  · exact h

/-! ## The thermal alert and memory errors -/

theorem Canonical.stepDown {step : Nat} (h : Canonical m) : Canonical (m.stepDown cause step) :=
  .count (.event (.update h.unplace.place))

theorem Canonical.calm (h : Canonical m) : Canonical m.calm := .update h

theorem Canonical.thermal (h : Canonical m) : Canonical m.thermal := by
  unfold Module.thermal
  split
  · exact .ite h (.event (.count (.update h)))
  · exact .ite (.calm (.update h)) h

theorem Canonical.readTemps (h : Canonical m) : Canonical (m.readTemps temps) := .update h

theorem Canonical.poisonBurst (h : Canonical m) : Canonical (m.poisonBurst addr) := by
  unfold Module.poisonBurst
  split
  · split
    · exact .ite h (.updateMem h)
    · exact h
  · exact .ite h (.updateMem h)

theorem Canonical.sliceConsumer {o : Nat} (h : Canonical m) : Canonical (m.sliceConsumer t o) := by
  unfold Module.sliceConsumer
  split
  · exact h.streamFault
  · exact .ite h.event (.ite h.pipelineFault h)

theorem Canonical.memoryFault (h : Canonical m) : Canonical (m.memoryFault source cls addr syndrome) := by
  unfold Module.memoryFault
  extract_lets a counted _ recorded logged
  have hc : Canonical counted := by
    dsimp only [counted]
    split
    · exact h.count
    · exact h
  have hr : Canonical recorded := .updateMem hc
  have hl : Canonical logged := .ite hr.event hr
  refine .ite (.ite hl.poisonBurst.retirePage (.ite ?page hl)) (.ite (.ite hl.sliceConsumer.retireRow (.ite ?row hl))
    (.ite hl.onTileHealth (.ite ?vat hl)))
  case page => exact .when (.updateMem hl) (·.retirePage)
  case row => exact .when (.onTileHealth (.updateMem hl)) (·.retireRow)
  case vat =>
    split
    · exact hl.streamFault
    · exact hl.pipelineFault

/-! ## The Store -/

theorem Canonical.onCmd {f : StoreCmd → StoreCmd} (h : Canonical m) : Canonical (m.onCmd ident f) := .updateCistern h
theorem Canonical.dropCmd (h : Canonical m) : Canonical (m.dropCmd ident) := .updateCistern h
theorem Canonical.acceptCmd {c : StoreCmd} (h : Canonical m) : Canonical (m.acceptCmd c) := .updateCistern h

theorem Canonical.postStore {cmd : Bytes} {durable : Bool} (h : Canonical m) :
    Canonical (m.postStore s cmd st unit durable journaled) :=
  h.post.count

theorem Canonical.storeReady {durable : Bool} (h : Canonical m) :
    Canonical (m.storeReady ident st durable journaled) := by
  unfold Module.storeReady
  split
  · exact h
  · exact .ite h.dropCmd h.onCmd

theorem Canonical.journal {c : StoreCmd} (h : Canonical m) : Canonical (m.journal c) :=
  .storeReady (.count (.updateCistern h))

theorem Canonical.admitJournal (h : Canonical m) : Canonical m.admitJournal := .foldl h fun h => .ite h.journal h

theorem Canonical.storeFetched {c : StoreCmd} (h : Canonical m) : Canonical (m.storeFetched c data) :=
  .ite (.storeReady (.onCmd (.updateCistern h))) (.unless (.onCmd (.count (.onCmd (.updateCistern h)))) fun h0 => .ite
    (.journal (.onCmd (.updateCistern h))) (.ite (.onCmd (.onCmd (.updateCistern h))) h0))

theorem Canonical.startRead {c : StoreCmd} (h : Canonical m) : Canonical (m.startRead c) := by
  unfold Module.startRead
  extract_lets off bad n data read noted
  clear_value bad
  have hr : Canonical read := by
    dsimp only [read]
    split
    · exact .ite h.lpWrite.onTable h.lpWrite
    · exact .ite h h.rdmaWrite
  have hn : Canonical noted := by
    dsimp only [noted]
    split
    · exact hr.count.event
    · exact hr
  exact .ite hn.dropCmd hn.storeReady

theorem Canonical.fetchWrites (h : Canonical m) : Canonical m.fetchWrites := .foldl h fun h => .ite h.onCmd.rdmaRead h

theorem Canonical.startCmd {c : StoreCmd} (h : Canonical m) : Canonical (m.startCmd c) :=
  .ite h.onCmd.startRead (.ite h.onCmd.storeReady (.ite h.onCmd.count.storeReady h.onCmd))

theorem Canonical.storeAdvance (h : Canonical m) : Canonical m.storeAdvance :=
  .fetchWrites (.foldl (.updateCistern h) fun h => .ite h.startCmd (.ite h h.count.onCmd))

theorem Canonical.storeRun {k : Nat} (h : Canonical m) : Canonical (m.storeRun k) := by
  induction k generalizing m with
  | zero => exact h
  | succ k ih => exact .ite (ih h.storeAdvance) h.storeAdvance

theorem Canonical.storeSettle (h : Canonical m) : Canonical m.storeSettle := h.storeRun

theorem Canonical.takeStore {bad : List Nat} (h : Canonical m) : Canonical (m.takeStore s x b bad) :=
  .ite h.count.event (.ite h.postStore (.ite h.postStore (.ite h.postStore
    (.storeSettle (.acceptCmd (.updateCistern h))))))

theorem Canonical.releaseCmd {c : StoreCmd} (h : Canonical m) : Canonical (m.releaseCmd c) := by
  unfold Module.releaseCmd
  split
  · exact h
  · exact .storeSettle (.dropCmd (.ite h.postStore (.ite h.postStore.count h.postStore.count)))

theorem Canonical.drainOldest (h : Canonical m) : Canonical m.drainOldest := by
  unfold Module.drainOldest
  split
  · exact h
  · extract_lets id mine _ programmed completed
    have hp : Canonical programmed := ⟨h.lpddr, memWf_foldl_memWriteN h.nand, h.tiles⟩
    refine .storeSettle (.admitJournal ?_)
    dsimp only [completed]
    split
    · exact .ite (.storeReady (.ite hp.count hp)) hp
    · exact hp

theorem Canonical.wear (h : Canonical m) : Canonical (m.wear permille) :=
  .ite (.event (.updateCistern h)) (.updateCistern h)

theorem Canonical.evaluateBank (h : Canonical m) : Canonical m.evaluateBank :=
  .ite (.updateCistern h) (.event (.updateCistern h))

theorem Canonical.storeReset (h : Canonical m) : Canonical (m.storeReset s) := .storeSettle (.updateCistern h)

/-- Cutting the Store area short keeps what is left of the NAND canonical. -/
theorem memWf_cut {c : Cistern} (h : memWf c.nand = true) : memWf (c.cut n).nand = true := memWf_filter h _

theorem Canonical.bulkLoad (h : Canonical m) : Canonical (m.bulkLoad t off n dest) :=
  .storeSettle (.foldl h (·.acceptCmd))

/-! ## Table rows -/

theorem Canonical.reserveTable (h : Canonical m) : OptCanonical (m.reserveTable t d) :=
  .ite .none (.ite (.some h.reserve) (.ite (.some h.reserve.reserve) .none))

theorem Canonical.dropHot (h : Canonical m) : Canonical (m.dropHot t) := h.mapTiles (·.update)

theorem Canonical.stageTable (h : Canonical m) : OptCanonical (m.stageTable d) := by
  refine .map h.reserveTable fun h => ?_
  dsimp only
  split
  · exact .ite h.onTable h.onTable.dropHot
  · exact h.onTable

theorem Canonical.runTableStage (h : Canonical m) : Canonical (m.runTableStage r c) := by
  refine h.checked fun h => h.untargeted fun h => .ite h.refuse (.ite h.refuse (.ite h.refuse ?_))
  split
  · exact h.refuse
  · next x staged => exact (h.stageTable x staged).ack

theorem Canonical.tableStage (h : Canonical m) : Canonical (tableStage t m) := .serve h (·.runTableStage)

theorem Canonical.unstageTable (h : Canonical m) : Canonical (m.unstageTable t d) :=
  .storeSettle (.onTable (.updateBoth h))

theorem Canonical.runTableUnstage (h : Canonical m) : Canonical (m.runTableUnstage r c) := by
  unfold Module.runTableUnstage
  refine .checked h fun h => ?_
  refine .untargeted h fun h => ?_
  dsimp only
  split
  · exact h.refuse
  · exact .ite h.refuse h.unstageTable.ack

theorem Canonical.tableUnstage (h : Canonical m) : Canonical (tableUnstage t m) := .serve h (·.runTableUnstage)

theorem Canonical.runTableSwitch {members : List (Nat × Nat)} (h : Canonical m) :
    Canonical (Module.runTableSwitch members m r c) := by
  unfold Module.runTableSwitch
  refine .checked h fun h => ?_
  refine .ite h.refuse ?_
  refine .untargeted h fun h => ?_
  refine .withLead h fun h => ?_
  refine .ite h.refuse ?_
  refine .ite h.refuse ?_
  split
  · exact h.refuse
  · exact h.placeAt

theorem Canonical.tableSwitch {members : List (Nat × Nat)} (h : Canonical m) : Canonical (tableSwitch t members m) :=
  .serve h (·.runTableSwitch)

theorem Canonical.loadTable (h : Canonical m) : Canonical (m.loadTable t n dest off) := h.onTable.bulkLoad

theorem Canonical.runTableLoad (h : Canonical m) : Canonical (m.runTableLoad r c) := by
  unfold Module.runTableLoad
  refine .checked h fun h => ?_
  refine .untargeted h fun h => ?_
  refine .ite h.refuse ?_
  split
  · exact h.refuse
  · exact .ite h.refuse h.loadTable.ack

theorem Canonical.tableLoad (h : Canonical m) : Canonical (tableLoad t m) := .serve h (·.runTableLoad)

/-! ## Power loss, stops and starts -/

theorem Canonical.lost (h : Canonical m) : Canonical m.lost := ⟨rfl, h.nand, by simp [Module.lost]⟩
theorem Canonical.flush (h : Canonical m) : Canonical (m.flush us torn) := .lost (.updateCistern h)
theorem Canonical.resetTo (h : Canonical m) : Canonical (m.resetTo cause us) := .update h.flush
theorem Canonical.powerFail (h : Canonical m) : Canonical (m.powerFail us torn) := .update (.ite h.flush h.lost)
theorem Canonical.unsparableReset (h : Canonical m) : Canonical (m.unsparableReset cause us) := .resetTo (.update h.event)

theorem Canonical.drainAll {k : Nat} (h : Canonical m) : Canonical (Module.drainAll k m) := by
  induction k generalizing m with
  | zero => exact h
  | succ k ih => exact .ite h (ih h.drainOldest)

theorem Canonical.erase {v : Nat} (h : Canonical m) : Canonical (m.erase v) := by
  unfold Module.erase
  extract_lets _ settings _ library
  have hs : Canonical settings := .ite (.update h) h
  have hl : Canonical library := .ite (.update hs) hs
  exact .ite ⟨hl.lpddr, rfl, hl.tiles⟩ hl

theorem Canonical.orderlyStop (h : Canonical m) : Canonical (m.orderlyStop cause) :=
  .update (.erase (.lost (.updateCistern (.drainAll (.foldl h (·.storeReset))))))

theorem Canonical.requestStop (h : Canonical m) : Canonical (m.requestStop cause factory) :=
  .ite (.update (.update h)) (.orderlyStop (.update h))

theorem Canonical.onSlot {f : Slot → Slot} (h : Canonical m) : Canonical (m.onSlot i f) := .update h
theorem Canonical.revokeSlots (h : Canonical m) : Canonical m.revokeSlots := .update h

theorem Canonical.selectSlot (h : Canonical m) : Canonical m.selectSlot.1 := by
  unfold Module.selectSlot
  extract_lets m₁ m₂ _ _
  dsimp only [m₂]
  split
  · exact .ite h.revokeSlots.onSlot h.revokeSlots.onSlot
  · exact h.revokeSlots

theorem Canonical.bootSucceeds (h : Canonical m) : Canonical m.bootSucceeds := .ite h.onSlot.onSlot h

theorem Canonical.replayFlush (h : Canonical m) : Canonical (m.replayFlush torn) :=
  .ite h (.event ⟨h.lpddr, memWf_foldl_memWriteN h.nand, h.tiles⟩)

theorem Canonical.restoreSettings (h : Canonical m) : Canonical m.restoreSettings :=
  .unless (.update (.ite (.update h) (.update h))) (·.event)

theorem Canonical.restorePlaces (h : Canonical m) : Canonical m.restorePlaces.1 := by
  unfold Module.restorePlaces
  generalize List.range 512 = l
  dsimp only
  refine .foldl (.foldlFst (.ite (.update h) h) fun {x a} h => .iteFst h ?_) (·.onTileHealth)
  split
  · exact .update h
  · exact h

theorem Canonical.setTimeState (h : Canonical m) : Canonical (m.setTimeState st) := .ite h (.event (.update h))
theorem Canonical.enterFree (h : Canonical m) : Canonical m.enterFree := .setTimeState (.update h)

theorem Canonical.trainPorts (h : Canonical m) : Canonical m.trainPorts :=
  .foldl (.foldl h (·.onHostPort)) fun h => .ite h h.setLink

theorem Canonical.launch {run : Nat} (h : Canonical m) : Canonical (m.launch want run) := .update h
theorem Canonical.startBank (h : Canonical m) : Canonical (m.startBank mv) := .evaluateBank (.update h)

theorem Canonical.startWith (h : Canonical m) : Canonical (m.startWith cause mv torn rimOk) := by
  unfold Module.startWith
  dsimp only
  split
  · exact .update (.selectSlot (.update h.lost))
  · exact .when (.update (.trainPorts (.event (.startBank (.restoreSettings (.replayFlush (.update (.restorePlaces
      (.update (.launch (.selectSlot (.update h.lost)))))))))))) (·.enterFree)

/-! ## Time rows -/

theorem Canonical.rebaseAt (h : Canonical m) : Canonical (m.rebaseAt now) := .ite h (.update h)
theorem Canonical.stepTime (h : Canonical m) : Canonical (m.stepTime step) := .event (.rebaseAt (.update h))

theorem Canonical.takeOffset {off : Int} (h : Canonical m) : Canonical (m.takeOffset off) :=
  .ite (.update (.stepTime (.ite (.setTimeState (.update h)) (.update h)))) (.ite (.setTimeState (.update (.ite
    (.setTimeState (.update h)) (.update h)))) (.when (.update (.ite (.setTimeState (.update h)) (.update h)))
    (·.setTimeState)))

theorem Canonical.syncLoss (h : Canonical m) : Canonical (syncLoss t m) :=
  .ite h.at (.ite h.at.setTimeState (.ite h.at.setTimeState h.at))

theorem Canonical.holdoverLimitExceeded (h : Canonical m) : Canonical (holdoverLimitExceeded t m) :=
  .ite h.at.setTimeState h.at

theorem Canonical.timeStep (h : Canonical m) : Canonical (timeStep t m) := .ite (.update h.at) h.at
theorem Canonical.lockFallback (h : Canonical m) : Canonical (lockFallback t m) := .ite h.at.enterFree h.at
theorem Canonical.moduleTimePersist (h : Canonical m) : Canonical (moduleTimePersist t m) := .updateCistern h.at
theorem Canonical.ptpSync (h : Canonical m) : Canonical (ptpSync t port domain origin m) := .ite h.at.takeOffset h.at

theorem Canonical.ptpMessage (h : Canonical m) : Canonical (ptpMessage t port msg m) := by
  unfold Machine.ptpMessage
  dsimp only
  split
  · exact .ite h.at.send h.at
  · refine .ite ?_ h.at
    split
    · exact .update h.at
    · exact h.at
  · exact .ite h.at.takeOffset h.at
  · exact .ite (.update h.at) h.at

theorem Canonical.ptpInterval (h : Canonical m) : Canonical (ptpInterval t m) :=
  .ite (.ite (.send (.update h.at)) h.at) (.unless h.at.send (·.send))

theorem Canonical.ppsIn (h : Canonical m) : Canonical (ppsIn t ns m) :=
  .ite h.at (.when (.update h.at) fun h => .when (.update h) (·.stepTime))

theorem Canonical.ppsOutPulse (h : Canonical m) : Canonical (ppsOutPulse t m) := .ite (.update h.at) h.at

/-! ## Cells that arrive -/

theorem Canonical.keepFrag (h : Canonical m) : Canonical (m.keepFrag src tag idx pay) := .update h
theorem Canonical.dropFrags (h : Canonical m) : Canonical (m.dropFrags src tag) := .update h
theorem Canonical.sendDone (h : Canonical m) : Canonical (m.sendDone dst tag st) := h.sendTo

theorem Canonical.takeReadReq {p : Bytes} (h : Canonical m) : Canonical (m.takeReadReq src tag p) :=
  .ite h.sendDone (.ite (.foldl h (·.sendTo)) (.ite h.sendDone (.ite h.countPoison.sendDone (.foldl h.countPoison
    (·.sendTo)))))

theorem Canonical.takeConfig (h : Canonical m) : Canonical (m.takeConfig src off bs) := by
  unfold Module.takeConfig
  dsimp only
  split
  · exact h.keepFrag
  · exact .ite h.keepFrag h.keepFrag.dropFrags.unreserve.reserve.onJob

theorem Canonical.takeWriteCell {p : Bytes} (h : Canonical m) : Canonical (m.takeWriteCell src tag p) := by
  unfold Module.takeWriteCell
  refine .ite h.sendDone ?_
  refine .ite h.takeConfig.sendDone ?_
  refine .ite h.sendDone ?_
  refine .sendDone ?_
  split
  · exact h.writeLoc.regionTouched
  · exact h.writeLoc

theorem Canonical.takeVatOps {ident a n : Nat} {data : Bytes} (h : Canonical m) :
    OptCanonical (m.takeVatOps ident a n data) := by
  refine .foldl (.some h) fun h => ?_
  split
  · exact .none
  · dsimp only
    split
    · exact .ite (.some (h _ rfl).vatAccumulateWrite) .none
    · exact .none

theorem Canonical.takeGfxOps {a n : Nat} {data : Bytes} (h : Canonical m) : OptCanonical (m.takeGfxOps src j a n data) := by
  refine .foldl (.some h) fun h => ?_
  split
  · exact .none
  · dsimp only
    split
    · exact .some (h _ rfl).takeLine
    · exact .some (h _ rfl).msaAdd
    · exact .none

theorem Canonical.takeKeyed {a n : Nat} {data : Bytes} (h : Canonical m) : OptCanonical (m.takeKeyed j a n data) := by
  refine .ite .none ?_
  split
  · exact .none
  · exact .some h.sparseAdd

theorem Canonical.takeWinner {a : Nat} (h : Canonical m) : Canonical (m.takeWinner src tag ident a idx data) := by
  unfold Module.takeWinner
  dsimp only
  split
  · exact h.keepFrag
  · refine .ite h.keepFrag ?_
    split
    · exact .ite h.keepFrag.dropFrags.winnerApply.sendDone h.keepFrag.dropFrags.sendDone
    · exact h.keepFrag.dropFrags.sendDone

theorem Canonical.takeAcc {p : Bytes} (h : Canonical m) : Canonical (m.takeAcc src tag p) := by
  unfold Module.takeAcc
  extract_lets a ident kind j count data taken
  clear_value kind
  have operands : OptCanonical taken := by
    dsimp only [taken]
    split
    · exact .ite h.takeVatOps .none
    · exact .ite h.takeGfxOps .none
    · exact .ite h.takeKeyed .none
    · exact .none
  clear_value taken
  refine .ite h.takeWinner ?_
  cases taken with
  | none => exact h.sendDone
  | some m' => exact (operands m' rfl).sendDone

theorem Canonical.takeSignal {p : Bytes} (h : Canonical m) : Canonical (m.takeSignal src tag p) := by
  unfold Module.takeSignal
  split
  · exact .ite h.sendDone h.signal.sendDone
  · exact h.sendDone

theorem Canonical.failOp {o : RemoteOp} (h : Canonical m) : Canonical (m.failOp o) :=
  .ite (.dropFrags (.update h)) (.ite (.update h) (.streamFault (.update h)))

theorem Canonical.endOp {o : RemoteOp} (h : Canonical m) : Canonical (m.endOp o) :=
  .ite (.update h) (.when (.onCtx (.update h)) (·.finishCmd))

theorem Canonical.copySchedule (h : Canonical m) : Canonical (m.copySchedule bs) := .foldl h.unplace (·.placeCopy)

theorem Canonical.takeReadData {p : Bytes} (h : Canonical m) : Canonical (m.takeReadData src tag p) := by
  unfold Module.takeReadData
  split
  · exact h
  · exact .ite h.sliceWrite.endOp (.ite (.unless h.keepFrag.endOp (·.dropFrags.copySchedule)) h)

theorem Canonical.readSchedule (h : Canonical m) : Canonical m.readSchedule :=
  .ite h (.foldl h fun h => .foldl h.sendTo (·.pushOp))

theorem Canonical.takeDone {p : Bytes} (h : Canonical m) : Canonical (m.takeDone src arg p) := by
  unfold Module.takeDone
  refine .ite (.ite h (.update h)) ?_
  split
  · exact h.placementDone
  · split
    · exact h
    · exact .ite h.failOp (.ite h h.endOp)

theorem Canonical.opTimeouts (h : Canonical m) : Canonical m.opTimeouts := .foldl h fun h => .ite h.failOp h
theorem Canonical.passDown {c : Bytes} {members : Nat} (h : Canonical m) : Canonical (m.passDown c members) := h.sendDown
theorem Canonical.takeBatchOpen {c : Bytes} (h : Canonical m) : Canonical (m.takeBatchOpen c) := .passDown (.update h)

theorem Canonical.takeQueryCell {c : Bytes} (h : Canonical m) : Canonical (m.takeQueryCell c) := by
  unfold Module.takeQueryCell
  split
  · exact h
  · exact h.onBatch.passDown

theorem Canonical.takeBatchEnd {c : Bytes} (h : Canonical m) : Canonical (m.takeBatchEnd c) := by
  unfold Module.takeBatchEnd
  dsimp only
  split
  · exact h
  · exact h.onBatch.passDown

theorem Canonical.takeTowerOut {c : Bytes} (h : Canonical m) : Canonical (m.takeTowerOut c) := by
  unfold Module.takeTowerOut
  dsimp only
  split
  · exact h
  · exact h.onBatch.passDown.fillTowers

theorem Canonical.takeAnswer {p : Bytes} (h : Canonical m) : Canonical (m.takeAnswer src arg p) := by
  unfold Module.takeAnswer
  dsimp only
  split
  · exact h.keepFrag
  · refine .ite h.keepFrag ?_
    split
    · exact h.keepFrag.dropFrags
    · exact .update h.keepFrag.dropFrags

theorem Canonical.flood {c : Bytes} (h : Canonical m) : Canonical (m.flood p c) := .foldl h (·.sendCell)

theorem Canonical.conflict (h : Canonical m) : Canonical (m.conflict d serial) :=
  .ite h (.when (.event (.update h)) (·.count))

theorem Canonical.takeState {c : Bytes} (h : Canonical m) : Canonical (m.takeState p c) :=
  .ite (.ite (.update h) (.flood (.conflict (.update h)))) (.ite (.update h) (.flood (.ite (.update (.update (.ite
    (.conflict (.update h)) (.update h)))) (.update (.update (.ite (.conflict (.update h)) (.update h)))))))

theorem Canonical.takeAbortCell {c : Bytes} (h : Canonical m) : Canonical (m.takeAbortCell p c) :=
  .ite h (.takeAbort (.flood (.update h)))

theorem Canonical.sendBeacon (h : Canonical m) : Canonical (m.sendBeacon p hops b) := h.sendCell
theorem Canonical.beaconLost (h : Canonical m) : Canonical (m.beaconLost sfcNext) := .event (.count (.update h))

theorem Canonical.compareBeacon (h : Canonical m) : Canonical (m.compareBeacon b) :=
  .ite (.update h) (.ite (.update h) (.readSchedule (.update h.beaconLost)))

theorem Canonical.takeBeacon {c : Bytes} (h : Canonical m) : Canonical (m.takeBeacon p c) := by
  unfold Module.takeBeacon
  refine .ite h ?_
  refine .ite ?_ ?_
  · refine .compareBeacon ?_
    refine .ite (.update h) ?_
    refine .foldl (.takeOffset (.update h)) fun h => ?_
    split
    · exact h.sendBeacon
    · exact h
  · refine .ite (.update h) ?_
    refine .foldl (.takeOffset (.update h)) fun h => ?_
    split
    · exact h.sendBeacon
    · exact h

theorem Canonical.takeDelay (h : Canonical m) : Canonical (m.takeDelay p arg pay) := .ite h.sendCell (.ite h h.onLink)
theorem Canonical.startDelays (h : Canonical m) : Canonical m.startDelays := .foldl h (·.onLink.sendCell)

theorem Canonical.planLane (h : Canonical m) : Canonical (m.planLane p lane tell) :=
  .ite h (.ite h.planned.sendLink h.planned)

theorem Canonical.linkMeet (h : Canonical m) : Canonical (m.linkMeet p) := h.linkTo.sendLink

theorem Canonical.takeLink {c : Bytes} (h : Canonical m) : Canonical (m.takeLink p c) := by
  unfold Module.takeLink
  dsimp only
  split
  · exact h.onLink.linkMeet
  · exact .ite h h.onLink.linkTo.linkMeet
  · exact .ite h.onLink.linkTo (.unless (.unless h.onLink.takeAck fun h => .ite h.linkCount.retransmit h.linkTo)
      (·.planLane))
  · exact h

theorem Canonical.replayDue (h : Canonical m) : Canonical (m.replayDue p) := .ite h (.ite h.retransmit h.linkTo)
theorem Canonical.pass {c : Bytes} (h : Canonical m) : Canonical (m.pass c) := .ite h.sendDone h.forward

theorem Canonical.deliver {c : Bytes} (h : Canonical m) : Canonical (m.deliver p c) := by
  unfold Module.deliver
  refine .ite h.pass ?_
  split
  · exact h.takeDelay
  · exact h.takeBeacon
  · exact h.takeState
  · exact h.takeSched
  · exact h.takeReadReq
  · exact h.takeReadData
  · exact h.takeWriteCell
  · exact h.takeAcc
  · exact h.takeSignal
  · exact h.takeDone
  · exact h.takeBatchOpen
  · exact h.takeQueryCell
  · exact h.takeBatchEnd
  · exact h.takeTowerOut
  · exact h.takeAnswer
  · exact h.takeLookup
  · exact h.takeRing
  · exact h.takeToken
  · exact h.takeAbortCell
  · exact h.linkCount

theorem Canonical.cellBad (h : Canonical m) : Canonical (m.cellBad p lane) := h.linkCount.onLink

theorem Canonical.linkReply (h : Canonical m) : Canonical (m.linkReply p sent) :=
  .ite h (.ite h.sendLink (.ite h.cellToWire h))

theorem Canonical.rxWire {c : Bytes} (h : Canonical m) : Canonical (m.rxWire p c) :=
  .ite h.cellBad (.ite h.linkCount.takeLink (.ite h.linkCount (.unless h.linkCount.takeAck fun h => .linkReply (.foldl
    h.rxSequenced (·.deliver)))))

theorem Canonical.rxCell {c : Bytes} (h : Canonical m) : Canonical (m.rxCell p c) := by
  unfold Module.rxCell
  refine .foldl ?_ fun h => ?_
  · split
    · exact h.inject.onInjector
    · exact .ite h.inject h.inject.rxWire
  · split
    · exact h.onInjector.rxWire
    · exact h

/-! ## Health, event and injection rows -/

theorem Canonical.runCutover (h : Canonical m) : Canonical (m.runCutover r c) := by
  unfold Module.runCutover
  refine .checked h fun h => ?_
  refine .untargeted h fun h => ?_
  refine .withLead h fun h => ?_
  refine .ite h.refuse ?_
  split
  · exact h.refuse
  · exact .ite h.refuse h.onTileHealth.placeAck

theorem Canonical.cutoverRequest (h : Canonical m) : Canonical (cutoverRequest t m) := .serve h (·.runCutover)

theorem Canonical.runClearFailed (h : Canonical m) : Canonical (m.runClearFailed r c) :=
  .checked h fun h => .untargeted h fun h => .ack (.ite (.update h) h)

theorem Canonical.clearFailed (h : Canonical m) : Canonical (clearFailed t m) := .serve h (·.runClearFailed)

theorem Canonical.runEventQuery (h : Canonical m) : Canonical (m.runEventQuery r c) :=
  .checked h fun h => .untargeted h (·.onClient.ack)

theorem Canonical.eventQuery (h : Canonical m) : Canonical (eventQuery t m) := .serve h (·.runEventQuery)

theorem Canonical.runInjectArm (h : Canonical m) : Canonical (m.runInjectArm r c) :=
  .checked h fun h => .atTick h (·.placeValue)

theorem Canonical.injectArm (h : Canonical m) : Canonical (injectArm t m) := .serve h (·.runInjectArm)

theorem Canonical.runInjectorWrite (h : Canonical m) : Canonical (m.runInjectorWrite r c) :=
  .checked h fun h => .atTick h (·.placeValue)

theorem Canonical.injectorWrite (h : Canonical m) : Canonical (injectorWrite t m) := .serve h (·.runInjectorWrite)
theorem Canonical.freshInjector (h : Canonical m) : Canonical (m.freshInjector cascade i) := .update h

theorem Canonical.armInjectors (h : Canonical m) : Canonical (m.armInjectors n) :=
  .event (.update (.foldl h (·.freshInjector)))

theorem Canonical.disarmInjectors (h : Canonical m) : Canonical (m.disarmInjectors why) := .ite h (.event (.update h))

theorem Canonical.setInjectors {v : Bytes} (h : Canonical m) : Canonical (m.setInjectors cascade v) :=
  .ite h.setCfg (.foldl h.setCfg fun h => .ite h h.freshInjector)

theorem Canonical.injectLimit (h : Canonical m) : Canonical (injectLimit m) := .ite h.disarmInjectors h
theorem Canonical.hangLimit {tile : Nat} (h : Canonical m) : Canonical (hangLimit t tile m) := h.at.failTile
theorem Canonical.healthWindow (h : Canonical m) : Canonical (healthWindow t m) := .ite h.at (.updateMem h.at)

/-! ## RoCEv2 -/

theorem Canonical.hostWrite (h : Canonical m) : Canonical (m.hostWrite off bs) := h.lpWrite.regionTouched

theorem Canonical.sendAck (h : Canonical m) : Canonical (m.sendAck s) := by
  unfold Module.sendAck
  split
  · exact h
  · exact h.onSession.countTx.emit

theorem Canonical.taken (h : Canonical m) : Canonical (m.taken s ackReq) := by
  unfold Module.taken
  dsimp only
  split
  · exact .ite h.onSession.sendAck h.onSession
  · exact h.onSession

theorem Canonical.takeSend (h : Canonical m) : Canonical (m.takeSend s x pkt first last) :=
  .ite h.countTx.portCount.emit (.ite h.nak h.onSession.taken)

theorem Canonical.refuseAccess (h : Canonical m) : Canonical (m.refuseAccess s x) := h.count.nak

theorem Canonical.takeWrite (h : Canonical m) : Canonical (m.takeWrite s x pkt first last) := by
  unfold Module.takeWrite
  dsimp only
  split
  · exact h.nak
  · refine .ite h.nak ?_
    split
    · exact h.refuseAccess
    · exact .taken (.onSession (.ite h h.hostWrite))

theorem Canonical.readPackets {x : Session} {l : List (Nat × Nat × Nat)} (h : Canonical m) :
    Canonical (m.readPackets s x l) := by
  induction l generalizing m with
  | nil => exact h.onSession
  | cons p rest ih => exact .ite h.countPoison.nak (ih h.portCount.portCount.emit)

theorem Canonical.takeRead (h : Canonical m) : Canonical (m.takeRead s x pkt again) := by
  unfold Module.takeRead
  split
  · exact h.refuseAccess
  · exact .readPackets (.ite h h.onSession)

theorem Canonical.takeRequest (h : Canonical m) : Canonical (m.takeRequest s x pkt) := by
  unfold Module.takeRequest
  refine .ite ?_ ?_
  · split
    · exact h.takeSend
    · exact h.takeWrite
    · exact h.takeRead
    · exact h.nak
  · refine .ite (.ite h h.nak.onSession) ?_
    split
    · exact h.takeRead
    · exact h.sendAck

theorem Canonical.acked (h : Canonical m) : Canonical (m.acked s psn) := h.onSession

theorem Canonical.resend (h : Canonical m) : Canonical (m.resend s) := by
  unfold Module.resend
  split
  · exact h
  · exact .foldl h (·.portCount.countTx.emit)

theorem Canonical.retry (h : Canonical m) : Canonical (m.retry s) := by
  unfold Module.retry
  split
  · exact h
  · exact .ite h (.ite h.sessionError h.onSession.resend)

theorem Canonical.takeResponse (h : Canonical m) : Canonical (m.takeResponse s x pkt) := by
  unfold Module.takeResponse
  split
  · exact h.acked
  · exact .ite h.portCount.acked.retry h.portCount.acked.sessionError
  · exact h.portCount.acked.onSession
  · exact h

theorem Canonical.markCe (h : Canonical m) : Canonical (m.markCe s x) := .ite h.onSession.countTx.portCount.emit h

theorem Canonical.bufferLevel (h : Canonical m) : Canonical (m.bufferLevel port prio n) :=
  .ite h.onHostPort (.ite h.onHostPort.onHostPort.portCount.send (.ite h.onHostPort.onHostPort.portCount.send h.onHostPort))

theorem Canonical.takePacket (h : Canonical m) : Canonical (m.takePacket s pkt) := by
  unfold Module.takePacket
  dsimp only
  split
  · exact h.portCount.bufferLevel
  · refine .unless h.portCount.bufferLevel fun h => ?_
    split
    · exact .when h (·.markCe)
    · split
      · exact .takeResponse (.when h (·.markCe))
      · exact .takeResponse (.when h (·.markCe))
      · exact .takeResponse (.when h (·.markCe))
      · exact .takeRequest (.when h (·.markCe))

theorem Canonical.rxPacket (h : Canonical m) : Canonical (m.rxPacket s pkt) := by
  unfold Module.rxPacket
  refine .foldl ?_ fun h => ?_
  · split
    · exact h.inject.onInjector
    · refine .ite h.inject ?_
      refine .ite h.inject.portCount ?_
      split
      · exact h.inject.takePacket
      · exact h.inject.portCount
  · split
    · exact h.onInjector.takePacket
    · exact h

theorem Canonical.endSession (h : Canonical m) : Canonical (m.endSession s) := by
  unfold Module.endSession
  split
  · exact h
  · exact .onSession (.sessionError (.ite h (.ite h.storeReset h)))

theorem Canonical.closeSession (h : Canonical m) : Canonical (m.closeSession s) := .update h

/-! ## Host ports -/

theorem Canonical.setHostLink (h : Canonical m) : Canonical (m.setHostLink p up training) :=
  .ite h.onHostPort h.onHostPort.event

theorem Canonical.retrain (h : Canonical m) : Canonical (m.retrain p) := h.setHostLink

theorem Canonical.addressGone (h : Canonical m) : Canonical (m.addressGone p v6) :=
  .foldl h fun h => .ite h.sessionError h

/-! ## Vilur rows -/

theorem Canonical.answerBad (h : Canonical m) : Canonical (m.answerBad r st) := by
  unfold Module.answerBad
  split
  · exact h
  · split
    · exact h.sendUdp
    · exact h.refuse

theorem Canonical.takeDatagram_queue (h : Canonical m) : Canonical (Module.takeDatagram.queue m r y) :=
  .ite h.answerBad (.ite h.answerBad (.ite h.count.replyLoose (.update h)))

theorem Canonical.takeDatagram (h : Canonical m) : Canonical (m.takeDatagram port addr udp bs) := by
  unfold Module.takeDatagram
  refine .ite h.count ?_
  dsimp only
  split
  · exact .ite h.replyLoose (.takeDatagram_queue (.update h))
  · exact h.onClient.takeDatagram_queue

theorem Canonical.vilurDatagram (h : Canonical m) : Canonical (vilurDatagram t port addr udp payload m) := by
  unfold Machine.vilurDatagram
  refine .ite h.at.takeDatagram ?_
  refine .ite h.at ?_
  refine .foldl ?_ fun h => ?_
  · split
    · exact h.at.inject.onInjector
    · refine .unless h.at.inject fun h => ?_
      refine .ite h.portCount ?_
      split
      · exact h.portCount.takeDatagram
      · exact h
  · split
    · exact h.onInjector.portCount.takeDatagram
    · exact h

theorem Canonical.runRead (h : Canonical m) : Canonical (m.runRead r c) :=
  .ite h.reply (.ite h.refuse (.ite h.reply (.ite h.refuse h.onClient.reply)))

theorem Canonical.read (h : Canonical m) : Canonical (read t m) := .serve h (·.runRead)
theorem Canonical.runReadPending (h : Canonical m) : Canonical (m.runReadPending r c) := .ite h.refuse h.reply
theorem Canonical.readPending (h : Canonical m) : Canonical (readPending t m) := .serve h (·.runReadPending)

theorem Canonical.afterWrite (h : Canonical m) : Canonical (m.afterWrite o inst old new) :=
  .ite h.retrain (.ite h.addressGone (.ite h.addressGone (.ite (.ite h.linkTo.onLink (.ite h.setLink h)) h)))

theorem Canonical.runPlain {v : Bytes} (h : Canonical m) : Canonical (Module.runPlain r c m o v) := by
  unfold Module.runPlain
  refine .ite (.untargeted h (·.onClient.ack)) ?_
  split
  · exact .atTick h fun h => .ite h.refuse h.placeValue
  · exact .withLead h fun h => .ite h.refuse h.placeValue
  · exact .untargeted h (·.durable.ack)
  · exact .untargeted h (·.setNow.afterWrite.ack)

theorem Canonical.runWrite (h : Canonical m) : Canonical (m.runWrite r c) := .checked h (·.runPlain)
theorem Canonical.writeOd (h : Canonical m) : Canonical (writeOd t m) := .serve h (·.runWrite)
theorem Canonical.runStage (h : Canonical m) : Canonical (m.runStage r c) := .ite h.refuse h.onClient.reply
theorem Canonical.stage (h : Canonical m) : Canonical (stage t m) := .serve h (·.runStage)
theorem Canonical.writeStaged (h : Canonical m) : Canonical (writeStaged t m) := .serve h (·.runWrite)
theorem Canonical.runChallenge (h : Canonical m) : Canonical (m.runChallenge r c) := h.drawn.onClient.reply
theorem Canonical.challenge (h : Canonical m) : Canonical (challenge t m) := .serve h (·.runChallenge)

theorem Canonical.runUnlock (h : Canonical m) : Canonical (m.runUnlock r c) :=
  .ite h.onClient.count.event.reply h.onClient.count.onClient.reply

theorem Canonical.unlock (h : Canonical m) : Canonical (unlock t m) := .serve h (·.runUnlock)
theorem Canonical.runLock (h : Canonical m) : Canonical (m.runLock r c) := h.onClient.reply
theorem Canonical.lock (h : Canonical m) : Canonical (lock t m) := .serve h (·.runLock)

theorem Canonical.runLockAll (h : Canonical m) : Canonical (m.runLockAll r c) :=
  .checked h fun h => .untargeted h fun h => .ack (.ite (.update h) h)

theorem Canonical.lockAll (h : Canonical m) : Canonical (lockAll t m) := .serve h (·.runLockAll)
theorem Canonical.maintainExpiry (h : Canonical m) : Canonical (maintainExpiry t m) := .update h.at
theorem Canonical.clientIdle (h : Canonical m) : Canonical (clientIdle t m) := .update h.at

theorem Canonical.runSubscribe (h : Canonical m) : Canonical (m.runSubscribe r c) := by
  unfold Module.runSubscribe
  split
  · exact h.refuse
  · exact h.onClient.reply

theorem Canonical.subscribe (h : Canonical m) : Canonical (subscribe t m) := .serve h (·.runSubscribe)
theorem Canonical.runUnsubscribe (h : Canonical m) : Canonical (m.runUnsubscribe r c) := h.onClient.reply
theorem Canonical.unsubscribe (h : Canonical m) : Canonical (unsubscribe t m) := .serve h (·.runUnsubscribe)
theorem Canonical.runPing (h : Canonical m) : Canonical (m.runPing r c) := h.reply
theorem Canonical.ping (h : Canonical m) : Canonical (ping t m) := .serve h (·.runPing)

theorem Canonical.notify (h : Canonical m) : Canonical (notify t client sub m) := by
  unfold Machine.notify
  dsimp only
  split
  · exact h.at
  · split
    · exact h.at
    · exact .when (.unless (.update h.at) (·.count)) (·.sendUdp)

theorem Canonical.runShape (h : Canonical m) : Canonical (m.runShape r c) :=
  .checked h fun h => .ite h.refuse (.shapeLead h (·.placeShape))

theorem Canonical.tickPeriodWrite (h : Canonical m) : Canonical (tickPeriodWrite t m) := .serve h (·.runShape)

theorem Canonical.runProfile (h : Canonical m) : Canonical (m.runProfile r c) :=
  .checked h fun h => .shapeLead h (·.placeShape)

theorem Canonical.profileWrite (h : Canonical m) : Canonical (profileWrite t m) := .serve h (·.runProfile)

theorem Canonical.runPowerCap (h : Canonical m) : Canonical (m.runPowerCap r c) :=
  .checked h fun h => .withLead h fun h => .ite h.refuse h.placeAt

theorem Canonical.powerCapWrite (h : Canonical m) : Canonical (powerCapWrite t m) := .serve h (·.runPowerCap)

/-! ## Cascade rows -/

theorem Canonical.cellCrcFail (h : Canonical m) : Canonical (cellCrcFail p t lane m) := h.at.cellBad

theorem Canonical.beaconMissing (h : Canonical m) : Canonical (beaconMissing t m) :=
  .ite h.at (.beaconLost (.update h.at))

theorem Canonical.stateOriginate (h : Canonical m) : Canonical (stateOriginate t m) := .ite h.at.originate h.at
theorem Canonical.delayInterval (h : Canonical m) : Canonical (delayInterval t m) := h.at.startDelays
theorem Canonical.remoteTimeout (h : Canonical m) : Canonical (remoteTimeout t m) := h.at.opTimeouts
theorem Canonical.schedTimeout (h : Canonical m) : Canonical (schedTimeout t m) := h.at.schedTimeouts
theorem Canonical.gapNak (h : Canonical m) : Canonical (gapNak p t m) := .ite h.at.sendNaks.onLink h.at
theorem Canonical.replayTimeout (h : Canonical m) : Canonical (replayTimeout p t m) := h.at.replayDue

theorem Canonical.laneLock (h : Canonical m) : Canonical (laneLock p t lane m) :=
  .ite h.at (.when h.at.onLink (·.linkTo.sendLink))

theorem Canonical.laneLoss (h : Canonical m) : Canonical (laneLoss p t lane m) :=
  .ite h.at (.when h.at.onLink.planLane (·.linkTo))

theorem Canonical.linkRetry (h : Canonical m) : Canonical (linkRetry p t m) := .ite h.at.linkTo.onLink h.at

theorem Canonical.laneCrcCheck (h : Canonical m) : Canonical (laneCrcCheck t m) :=
  .foldl h.at fun h => .onLink (.foldl h (·.planLane))

theorem Canonical.shardMap (h : Canonical m) : Canonical (shardMap t m) := .serve h (·.runWrite)

theorem Canonical.reorderHoldExpiry (h : Canonical m) : Canonical (reorderHoldExpiry t k m) := by
  unfold Machine.reorderHoldExpiry
  extract_lets m₁ x m₂ p cell packet
  have hc : Canonical cell := by
    dsimp only [cell]
    split
    · exact h.at.onInjector
    · exact .ite h.at.onInjector.send h.at.onInjector.rxWire
  have hp : Canonical packet := by
    dsimp only [packet]
    split
    · exact hc
    · exact hc.takePacket
  split
  · exact hp
  · exact hp.send

/-! ## Transfer and control commands -/

theorem Canonical.land {l : Loc} (h : Canonical m) : Canonical (m.land l bs poisoned) :=
  .ite h.freeBytes.writeLoc h.writeLoc

theorem Canonical.moveRun {s : StreamSet} (h : Canonical m) : Canonical (Module.moveRun waits m s t k w).m := by
  unfold Module.moveRun
  dsimp only
  split
  · exact h.remoteRead
  · exact h.remoteWrite
  · exact h.countPoison.land

theorem Canonical.gatherRow {r : CmdRun} {p : Nat × Nat} (h : Canonical r.m) :
    Canonical (Module.gatherRow t k w r p).m := by
  unfold Module.gatherRow
  refine .iteRun h.sliceWrite.count ?_
  split
  · exact h.remoteRead
  · exact h.countPoison.land

theorem Canonical.gatherRun {s : StreamSet} (h : Canonical m) : Canonical (Module.gatherRun waits m s t k w).m :=
  .foldlRun h (·.gatherRow)

theorem Canonical.scatterVat {r : CmdRun} {p : Nat × Nat} (h : Canonical r.m) :
    Canonical (Module.scatterVat t k w r p).m := by
  unfold Module.scatterVat
  dsimp only
  split
  · exact h.remoteVat
  · exact .onTile h fun h => .foldl h (·.vatAdd)
  · exact h

theorem Canonical.scatterJob {r : CmdRun} {p : Nat × Nat} (h : Canonical r.m) :
    Canonical (Module.scatterJob t k w r p).m := by
  unfold Module.scatterJob
  dsimp only
  split
  · exact h.jobKeyed
  · refine .foldl h fun h => ?_
    split
    · exact h.jobWrite
    · exact h

theorem Canonical.scatterRun {s : StreamSet} (h : Canonical m) : Canonical (m.scatterRun waits s t k w).m := by
  refine .foldlRun h fun h => ?_
  split
  · exact h.scatterVat
  · exact h.scatterJob

theorem Canonical.redRun {s : StreamSet} (h : Canonical m) : Canonical (Module.redRun waits m s t k w).m := by
  unfold Module.redRun
  refine .foldl h.countConv fun h => ?_
  split
  · exact h.jobWrite
  · exact h

theorem Canonical.poolRun {s : StreamSet} (h : Canonical m) : Canonical (m.poolRun s t k w).m := h.sliceWrite

theorem Canonical.signalRun {s : StreamSet} (h : Canonical m) : Canonical (Module.signalRun waits m s t k w).m := by
  unfold Module.signalRun
  dsimp only
  split <;> dsimp only
  · exact h.signal
  · exact h.remoteSend
  · exact h

theorem Canonical.eventCounterChange (h : Canonical m) : Canonical (eventCounterChange t e set v m) := h.signal
theorem Canonical.streamStalled (h : Canonical m) : Canonical (streamStalled t k m) := .ite h.streamFault h

/-! ## The issue of a command -/

theorem Canonical.issue_after {r : CmdRun} (h : Canonical r.m) : Canonical (Module.issue.after r t k) :=
  .ite h.spend.streamFault (.ite h.spend h.spend.finishCmd)

theorem Canonical.issue {check : Module → StreamSet → Nat → Nat → Nat → Nat}
    {run : Module → StreamSet → Nat → Nat → Nat → CmdRun} (h : Canonical m)
    (hrun : ∀ {m s t k w}, Canonical m → Canonical (run m s t k w).m) : Canonical (m.issue t op check run) := by
  unfold Module.issue
  split
  · exact h
  · exact .ite (.ite h h.streamFault) (.ite h.streamFault (.ite h.streamFault (.issue_after (hrun h))))

/-! ## Stream command rows -/

theorem Canonical.move (h : Canonical m) : Canonical (move t waits m) := .issue h (·.moveRun)
theorem Canonical.gather (h : Canonical m) : Canonical (gather t waits m) := .issue h (·.gatherRun)
theorem Canonical.scatterAcc (h : Canonical m) : Canonical (scatterAcc t waits m) := .issue h (·.scatterRun)
theorem Canonical.mma (h : Canonical m) : Canonical (mma t m) := .issue h (·.mmaRun)
theorem Canonical.epi (h : Canonical m) : Canonical (epi t m) := .issue h (·.epiRun)
theorem Canonical.skscan (h : Canonical m) : Canonical (skscan t m) := .issue h (·.skRun)
theorem Canonical.wins (h : Canonical m) : Canonical (wins t m) := .issue h (·.winsRun)
theorem Canonical.wdrain (h : Canonical m) : Canonical (wdrain t m) := .issue h (·.drainRun)
theorem Canonical.argmax (h : Canonical m) : Canonical (argmax t waits m) := .issue (.ite h.count h) (·.argRun)
theorem Canonical.reduce (h : Canonical m) : Canonical (reduce t waits m) := .issue h (·.redRun)
theorem Canonical.pool (h : Canonical m) : Canonical (pool t m) := .issue h (·.poolRun)
theorem Canonical.signalRow (h : Canonical m) : Canonical (Machine.signal t waits m) := .issue h (·.signalRun)
theorem Canonical.wait (h : Canonical m) : Canonical (wait t m) := .ite h.spend.onCtx (.issue h id)
theorem Canonical.leave (h : Canonical m) : Canonical (m.leave t k st) := h.onCtx
theorem Canonical.rearm (h : Canonical m) : Canonical (rearm t m) := .when (.issue h id) (·.leave)
theorem Canonical.halt (h : Canonical m) : Canonical (halt t m) := .when (.issue h id) (·.leave)

/-! ## Job configuration rows -/

theorem Canonical.runJobConfig {members : List Nat} (h : Canonical m) : Canonical (Module.runJobConfig members m r c) :=
  .checked h fun h => .untargeted h fun h => .ite h.refuse (.ite h.refuse (.ite h.refuse (.ite h.refuse (.ite h.refuse
    (.ite h.refuse (.ack (.onJob (.foldl (.ite h.unreserve.reserve h.unreserve) (·.sendConfig)))))))))

theorem Canonical.jobConfig {members : List Nat} (h : Canonical m) : Canonical (jobConfig t members m) :=
  .serve h (·.runJobConfig)

theorem Canonical.runJobStart (h : Canonical m) : Canonical (m.runJobStart r c) :=
  .checked h fun h => .ite h.refuse (.untargeted h fun h => .withLead h fun h => .ite h.refuse (.ite h.refuse (.ite
    h.refuse (.ite h.refuse (.ite h.refuse (.ite h.onJob.ack h.onJob.placeOnly))))))

theorem Canonical.jobStart (h : Canonical m) : Canonical (jobStart t m) := .serve h (·.runJobStart)

theorem Canonical.runJobStop (h : Canonical m) : Canonical (m.runJobStop r c) :=
  .checked h fun h => .untargeted h fun h => .ite h.onJob.ack (.ite h.onJob.ack h.ack)

theorem Canonical.jobStop (h : Canonical m) : Canonical (jobStop t m) := .serve h (·.runJobStop)
theorem Canonical.jobsEnable (h : Canonical m) : Canonical (jobsEnable t m) := .serve h (·.runWrite)

theorem Canonical.runDigestCheck {members : List (Nat × Bytes)} (h : Canonical m) :
    Canonical (Module.runDigestCheck members m r c) :=
  .checked h fun h => .untargeted h fun h => .ite h.refuse (.ite h.refuse (.ack (.update h)))

theorem Canonical.digestCheck {members : List (Nat × Bytes)} (h : Canonical m) : Canonical (digestCheck t members m) :=
  .serve h (·.runDigestCheck)

/-! ## Job rows -/

theorem Canonical.gfx64Add (h : Canonical m) : Canonical (gfx64Add j addr value m) := .ite h.msaAdd h

theorem Canonical.keyedAdd {owner : Bool} (h : Canonical m) : Canonical (keyedAdd j i owner row lane values m) :=
  .ite h.sparseAdd h

theorem Canonical.lsaCombine (h : Canonical m) : Canonical (lsaCombine port j device addr lane value m) :=
  .ite h.lsaTake h

theorem Canonical.reductionDeadline (h : Canonical m) : Canonical (reductionDeadline j m) := h.unplace.deadlineAct

theorem Canonical.lateVerdictRow {r : Bytes} (h : Canonical m) : Canonical (Machine.lateVerdict t j r m) :=
  h.at.lateVerdict

/-! ## Memory rows -/

theorem Canonical.runUserRegion (h : Canonical m) : Canonical (m.runUserRegion r c) :=
  .checked h fun h => .ite h.refuse (.untargeted h fun h => .ack (.update h.setNow))

theorem Canonical.userRegionBytes (h : Canonical m) : Canonical (userRegionBytes t m) := .serve h (·.runUserRegion)

theorem Canonical.runSliceReserve (h : Canonical m) : Canonical (m.runSliceReserve r c) :=
  .checked h fun h => .ite h.refuse (.untargeted h (·.setNow.ack))

theorem Canonical.sliceReserveBytes (h : Canonical m) : Canonical (sliceReserveBytes t m) := .serve h (·.runSliceReserve)

theorem Canonical.memoryError (h : Canonical m) : Canonical (memoryError t source cls addr syndrome m) :=
  .ite h.at.memoryFault h.at

theorem Canonical.patrolScrub (h : Canonical m) : Canonical (patrolScrub t _addr m) := h.at

theorem Canonical.refreshPoll (h : Canonical m) : Canonical (refreshPoll t pkg mult hot m) :=
  .thermal (.when (.updateMem h.at) (·.event))

theorem Canonical.lpddrInitDone (h : Canonical m) : Canonical (lpddrInitDone t m) := .ite h.at ⟨rfl, h.nand, h.tiles⟩

/-! ## Power rows -/

theorem Canonical.mainRises (h : Canonical m) : Canonical m.mainRises := .update h

theorem Canonical.mainPowerRise (h : Canonical m) : Canonical (mainPowerRise t mv m) :=
  .ite h.at (.when (.update h.at) (·.mainRises))

theorem Canonical.powerFailIndication (h : Canonical m) : Canonical (powerFailIndication t us torn m) :=
  .ite (.update h.at.powerFail) h.at

theorem Canonical.standbyRise (h : Canonical m) : Canonical (standbyRise t mv m) :=
  .unless (.update h.at) fun h0 => .ite (.update h.at) h0

theorem Canonical.standbyLost (h : Canonical m) : Canonical (standbyLost t m) :=
  .ite h.at (.when (.update h.at) (·.event))

theorem Canonical.rstL (h : Canonical m) : Canonical (rstL t low ns us m) :=
  .ite (.update h.at) (.ite h.at (.ite (.update (.ite h.at.powerFail h.at)) (.update h.at)))

theorem Canonical.limitStep (h : Canonical m) : Canonical m.limitStep := .count (.event (.update h.place))

theorem Canonical.emergencyStep {cause mv watts : Nat} (h : Canonical m) :
    Canonical (emergencyStep t cause mv watts m) := by
  unfold Machine.emergencyStep
  extract_lets m₁ _ measured calmed
  have hm : Canonical measured := .update h.at
  have hc : Canonical calmed := .ite hm hm.calm
  split
  · exact .ite hc.stepDown hc
  · exact .ite hc.stepDown hc
  · exact .ite hc.stepDown hc
  · exact .ite hc.limitStep hc

theorem Canonical.stepRestore (h : Canonical m) : Canonical (stepRestore t m) := .ite h.at (.event (.update h.at.place))
theorem Canonical.thermalAlert (h : Canonical m) : Canonical (thermalAlert t temps m) := h.at.readTemps.thermal
theorem Canonical.thermalAlertEnd (h : Canonical m) : Canonical (thermalAlertEnd t temps m) := h.at.readTemps.thermal

theorem Canonical.thermalTrip (h : Canonical m) : Canonical (thermalTrip t temps us m) := by
  unfold Machine.thermalTrip
  dsimp only
  split
  · exact h.at.readTemps
  · exact .unless h.at.readTemps fun h => .update h.event.powerFail

theorem Canonical.smbus {run : Module → Module} (h : Canonical m) (hrun : ∀ {m}, Canonical m → Canonical (run m)) :
    Canonical (m.smbus t run) :=
  .ite h.at (hrun h.at)

theorem Canonical.smbusNak (h : Canonical m) : Canonical m.smbusNak := h.send
theorem Canonical.status (h : Canonical m) : Canonical (status t m) := .smbus h (·.send)
theorem Canonical.inputPower (h : Canonical m) : Canonical (inputPower t m) := .smbus h (·.send)
theorem Canonical.hottest (h : Canonical m) : Canonical (hottest t m) := .smbus h (·.send)

theorem Canonical.setCapLimit (h : Canonical m) : Canonical (m.setCapLimit v) :=
  .ite h (.ite (.update (.event (.unplace (.update h)))) (.ite (.limitStep (.event (.unplace (.update h)))) (.place (.event
    (.unplace (.update h))))))

theorem Canonical.capLimit (h : Canonical m) : Canonical (capLimit t write m) := by
  unfold Machine.capLimit
  refine .smbus h fun h => ?_
  split
  · exact h.send
  · exact .ite h.setCapLimit h.smbusNak

/-! ## Host-port rows -/

theorem Canonical.rocePacket (h : Canonical m) : Canonical (rocePacket t s pkt m) := h.at.rxPacket

theorem Canonical.ackDelayExpiry (h : Canonical m) : Canonical (ackDelayExpiry t s m) := by
  unfold Machine.ackDelayExpiry
  dsimp only
  split
  · exact .ite h.at.sendAck h.at
  · exact h.at

theorem Canonical.localAckTimeout (h : Canonical m) : Canonical (localAckTimeout t s m) := h.at.retry

theorem Canonical.rnrRetry (h : Canonical m) : Canonical (rnrRetry t s m) := by
  unfold Machine.rnrRetry
  dsimp only
  split
  · exact .ite h.at (.ite h.at.sessionError h.at.resend)
  · exact h.at

theorem Canonical.cnp (h : Canonical m) : Canonical (cnp t s m) := by
  unfold Machine.cnp
  dsimp only
  split
  · exact .ite h.at h.at.portCount.onSession
  · exact h.at

theorem Canonical.rateRecover (h : Canonical m) : Canonical (rateRecover t s m) := h.at.onSession
theorem Canonical.pfcFrame (h : Canonical m) : Canonical (pfcFrame t port times m) := h.at.portCount.onHostPort

theorem Canonical.fcsError (h : Canonical m) : Canonical (fcsError t port bytes prio full corrected bad m) :=
  h.at.portCount.bufferLevel.onHostPort

theorem Canonical.hostRdmaWrite (h : Canonical m) : Canonical (hostRdmaWrite t s addr rkey data m) := by
  unfold Machine.hostRdmaWrite
  dsimp only
  split
  · exact h.at
  · exact .foldl h.at (·.rxPacket)

theorem Canonical.hostRdmaRead (h : Canonical m) : Canonical (hostRdmaRead t s addr rkey len psn m) := by
  unfold Machine.hostRdmaRead
  dsimp only
  split
  · exact h.at
  · exact h.at.rxPacket

theorem Canonical.req (h : Canonical m) : Canonical (req t port ip qpn rnr request m) :=
  .ite h.at.send h.at.setSession.send

theorem Canonical.rtu (h : Canonical m) : Canonical (rtu t s m) := h.at.onSession

theorem Canonical.dreq (h : Canonical m) : Canonical (dreq t s m) := by
  unfold Machine.dreq
  dsimp only
  split
  · exact h.at
  · exact .unless h.at.endSession (·.closeSession.send)

theorem Canonical.runSessionReset (h : Canonical m) : Canonical (m.runSessionReset r c) :=
  .checked h fun h => .untargeted h (·.closeSession.ack)

theorem Canonical.sessionReset (h : Canonical m) : Canonical (sessionReset t m) := by
  unfold Machine.sessionReset
  refine .ite ?_ ?_
  · split
    · exact h.at.endSession
    · exact h.at
  · refine .serve ?_ (·.runSessionReset)
    split
    · exact h.at.endSession
    · exact h.at

theorem Canonical.linkDownHold (h : Canonical m) : Canonical (linkDownHold t port m) :=
  .ite (.foldl h.at (·.sessionError)) h.at

theorem Canonical.hostLinkChange (h : Canonical m) : Canonical (hostLinkChange t port up m) := h.at.setHostLink

theorem Canonical.neighbourResolution (h : Canonical m) :
    Canonical (neighbourResolution t port kind target peer mac data m) := by
  unfold Machine.neighbourResolution
  dsimp only
  split
  · exact .ite h.at.send h.at
  · exact h.at.onHostPort
  · exact .ite h.at.send h.at

theorem Canonical.runWindow (h : Canonical m) : Canonical (m.runWindow r c) := by
  unfold Module.runWindow
  refine .checked h fun h => ?_
  refine .untargeted h fun h => ?_
  refine .ite h.refuse ?_
  split
  · exact .ack (.persist (.update h))
  · exact .ite h.refuse (.ack (.persist (.update h.drawn)))

theorem Canonical.window (h : Canonical m) : Canonical (window t m) := .serve h (·.runWindow)

/-! ## Stream sets at a tick -/

theorem Canonical.renewSet (h : Canonical m) : Canonical (m.renewSet ident n) := h.onSetCtxs.onSet

theorem Canonical.debtFault (h : Canonical m) : Canonical (m.debtFault f ident) := by
  unfold Module.debtFault
  dsimp only
  split
  · exact h.faultSet
  · exact h

theorem Canonical.boundFault (h : Canonical m) : Canonical (m.boundFault ident) := by
  unfold Module.boundFault
  dsimp only
  split
  · exact .ite h.faultSet h
  · exact h

theorem Canonical.countHeld (h : Canonical m) : Canonical (m.countHeld ident) := .foldl h (·.onCtx)

theorem Canonical.restartSet (h : Canonical m) : Canonical (m.restartSet ident regs) :=
  .foldl h fun h => .settle (.onCtx (.ite h (.onTile h (·.update))))

theorem Canonical.takeRearms (h : Canonical m) : Canonical (m.takeRearms ident n) := by
  unfold Module.takeRearms
  dsimp only
  split
  · exact h
  · exact h.onSetCtxs.onSet

theorem Canonical.persistentRestart (h : Canonical m) : Canonical (m.persistentRestart ident n) :=
  .ite h h.takeRearms.restartSet

theorem Canonical.streamsTick (h : Canonical m) : Canonical (m.streamsTick n) :=
  .foldl (.foldl (.foldl (.foldl (.foldl h (·.disarmSet)) (·.startSet)) (·.renewSet)) (·.countHeld)) (·.persistentRestart)

theorem Canonical.towerRestart (h : Canonical m) : Canonical (m.towerRestart ident) := by
  unfold Module.towerRestart
  refine .ite h ?_
  dsimp only
  split
  · exact h.renewSet
  · exact h.renewSet.onSet.restartSet

theorem Canonical.gate (h : Canonical m) : Canonical m.gate := .ite (.foldl h.runGate1 (·.towerRestart)) h.runGate1

/-! ## Search rows -/

theorem Canonical.changeListClose (h : Canonical m) : Canonical (changeListClose m) := .sendTowers (.update h.at)

theorem Canonical.costIntervalClose (h : Canonical m) : Canonical (costIntervalClose m) := by
  unfold Machine.costIntervalClose
  dsimp only
  split
  · exact h
  · exact .ite h.onLot h

theorem Canonical.query (h : Canonical m) : Canonical (query t s m) := by
  unfold Machine.query
  dsimp only
  split
  · next r _ taken => exact (h.at.takeMessage r taken).takeQuery
  · exact h.at

theorem Canonical.setDefaults (h : Canonical m) : Canonical (setDefaults t s m) := by
  unfold Machine.setDefaults
  dsimp only
  split
  · next r _ taken => exact (h.at.takeMessage r taken).takeDefaults
  · exact h.at

/-! ## Security rows -/

theorem Canonical.setOwner {key : Bytes} (h : Canonical m) : Canonical (m.setOwner key) := .event (.update h)

theorem Canonical.runOwnerReplace (h : Canonical m) : Canonical (m.runOwnerReplace r c) :=
  .checked h fun h => .untargeted h fun h => .ite h.refuse h.setOwner.ack

theorem Canonical.ownerKeyReplace (h : Canonical m) : Canonical (ownerKeyReplace t m) := .serve h (·.runOwnerReplace)

theorem Canonical.runOwnerClear (h : Canonical m) : Canonical (m.runOwnerClear r c) :=
  .checked h fun h => .untargeted h fun h => .ite h.refuse (.ack (.ite h.setOwner h))

theorem Canonical.ownerClear (h : Canonical m) : Canonical (ownerClear t m) := .serve h (·.runOwnerClear)
theorem Canonical.keyDone (h : Canonical m) : Canonical (m.keyDone n) := .update h

theorem Canonical.ownerKeyChunk (h : Canonical m) : Canonical (ownerKeyChunk t b m) :=
  .smbus h fun h => .ite h.smbusNak (.update h)

theorem Canonical.ownerKeyCommit (h : Canonical m) : Canonical (ownerKeyCommit t b m) :=
  .smbus h fun h => .ite h.smbusNak (.ite h.keyDone (.ite h.keyDone (.ite h.keyDone (.ite h.keyDone h.setOwner.keyDone))))

theorem Canonical.smbusOwnerClear (h : Canonical m) : Canonical (smbusOwnerClear t value m) :=
  .smbus h fun h => .ite h.smbusNak (.ite h.keyDone (.ite h.keyDone (.keyDone (.ite h h.setOwner))))

theorem Canonical.keyResult (h : Canonical m) : Canonical (keyResult t m) := .smbus h (·.send)

theorem Canonical.runAttest (h : Canonical m) : Canonical (m.runAttest r c) :=
  .checked h fun h => .untargeted h (·.onClient.ack)

theorem Canonical.attestRequest (h : Canonical m) : Canonical (attestRequest t m) := .serve h (·.runAttest)

theorem Canonical.runDebug (h : Canonical m) : Canonical (m.runDebug r c) :=
  .checked h fun h => .untargeted h fun h => .ack (.update h)

theorem Canonical.debugEnable (h : Canonical m) : Canonical (debugEnable t m) := .serve h (·.runDebug)

theorem Canonical.runFwUpdate (h : Canonical m) : Canonical (m.runFwUpdate r c) := by
  unfold Module.runFwUpdate
  refine .checked h fun h => ?_
  refine .ite h.refuse ?_
  refine .untargeted h fun h => ?_
  refine .ite h.refuse ?_
  split
  · exact h.reply
  · exact .ite h.refuse (.ite h.reply (.ack (.update h.onSlot)))

theorem Canonical.fwUpdate (h : Canonical m) : Canonical (fwUpdate t m) := .serve h (·.runFwUpdate)

theorem Canonical.fwUpdateDone (h : Canonical m) : Canonical (fwUpdateDone t readBackOk m) :=
  .ite h.at (.ite (.update h.at.onSlot) (.update h.at))

theorem Canonical.runFwCommit (h : Canonical m) : Canonical (m.runFwCommit r c) :=
  .checked h fun h => .untargeted h fun h => .ite h.refuse (.ack (.ite (.revokeSlots (.update h)) h))

theorem Canonical.fwCommit (h : Canonical m) : Canonical (fwCommit t m) := .serve h (·.runFwCommit)

/-! ## Start rows -/

theorem Canonical.start (h : Canonical m) : Canonical (start t mv torn rimOk m) := by
  unfold Machine.start
  dsimp only
  split
  · exact .at (.ite h h.mainRises)
  · exact .ite (.at (.ite h h.mainRises)) (.startWith (.update (.ite h h.mainRises)))

theorem Canonical.runReset (h : Canonical m) : Canonical (Module.runReset us m r c) :=
  .checked h fun h => .untargeted h fun h => .ite h.ack.resetTo h.ack.requestStop

theorem Canonical.orderlyReset (h : Canonical m) : Canonical (orderlyReset t m) := .serve h (·.runReset)
theorem Canonical.immediateReset (h : Canonical m) : Canonical (immediateReset t us m) := .serve h (·.runReset)

theorem Canonical.runFactory (h : Canonical m) : Canonical (m.runFactory r c) :=
  .checked h fun h => .untargeted h (·.ack.requestStop)

theorem Canonical.factoryReset (h : Canonical m) : Canonical (factoryReset t m) := .serve h (·.runFactory)
theorem Canonical.unsparable (h : Canonical m) : Canonical (unsparable t cause us m) := .ite h.at.unsparableReset h.at

theorem Canonical.codeCheck (h : Canonical m) : Canonical (codeCheck t digest corrected us m) :=
  .ite h.at (.ite h.at.count h.at.unsparableReset)

theorem Canonical.watchdog (h : Canonical m) : Canonical (watchdog t us m) := .ite h.at.resetTo h.at

theorem Canonical.startupLotLoad (h : Canonical m) : Canonical (startupLotLoad t m) := by
  refine .ite h.at (.ite (.update h.at) (.notePhase ?_))
  split
  · next x loading => exact Canonical.startupLoad (.update h.at) x loading
  · exact .startupFallback (.update h.at)

theorem Canonical.startupLotSwitch (h : Canonical m) : Canonical (startupLotSwitch t m) := by
  unfold Machine.startupLotSwitch
  refine .ite h.at ?_
  dsimp only
  split
  · exact .when (.update h.at) (·.ownSwitch)
  · exact .update h.at

theorem Canonical.switchMember {x : MemberLot} (h : Canonical m) : Canonical (m.switchMember x) := .sendSched (.update h)

theorem Canonical.masterStartupCheck (h : Canonical m) : Canonical (masterStartupCheck t members m) :=
  .ite h.at (.foldl (.ite h.at.place h.at) (·.switchMember))

theorem Canonical.restoreTable {x : Table} (h : Canonical m) : OptCanonical (m.restoreTable t x) := by
  unfold Module.restoreTable
  split
  · exact .none
  · exact .ite .none (.map h.stageTable fun h => .place (.foldl h (·.loadTable)))

theorem Canonical.tableRestore (h : Canonical m) : Canonical (tableRestore t m) := by
  refine .ite h.at (.foldl (.update h.at) fun {m p} h => ?_)
  have tried : OptCanonical (if m.cfgB 0x5100 0x07 then m.restoreTable p.1 p.2 else none) := .ite h.restoreTable .none
  dsimp only
  split
  · next x restored => exact .update (tried x restored)
  · exact .update h

/-! ## Store rows -/

theorem Canonical.storeArrives {write : Bool} {bad : List Nat} (h : Canonical m) :
    Canonical (m.storeArrives s write bad) := by
  unfold Module.storeArrives
  split
  · next r _ taken => exact (h.takeMessage r taken).takeStore
  · exact h

theorem Canonical.storeRead {bad : List Nat} (h : Canonical m) : Canonical (storeRead t s bad m) := h.at.storeArrives
theorem Canonical.storeWrite (h : Canonical m) : Canonical (storeWrite t s m) := h.at.storeArrives

theorem Canonical.storeDataFetched (h : Canonical m) : Canonical (storeDataFetched t ident data m) := by
  unfold Machine.storeDataFetched
  dsimp only
  split
  · exact h.at
  · exact .ite h.at.storeFetched.storeSettle h.at

theorem Canonical.rangeLockRelease (h : Canonical m) : Canonical (rangeLockRelease t ident m) := by
  unfold Machine.rangeLockRelease
  dsimp only
  split
  · exact h.at
  · exact h.at.releaseCmd

theorem Canonical.writeCacheDrain (h : Canonical m) : Canonical (writeCacheDrain t permille m) :=
  .ite h.at h.at.drainOldest.wear

theorem Canonical.runStoreArea (h : Canonical m) : Canonical (m.runStoreArea r c) :=
  h.checked fun h => .ite h.refuse (h.untargeted fun h => .ite h.refuse
    (.ack ⟨h.setNow.lpddr, memWf_cut h.nand, h.setNow.tiles⟩))

theorem Canonical.storeAreaBytes (h : Canonical m) : Canonical (storeAreaBytes t m) := .serve h (·.runStoreArea)
theorem Canonical.testGate (h : Canonical m) : Canonical m.testGate := .update h

theorem Canonical.journalLimitUpdate (h : Canonical m) : Canonical (journalLimitUpdate t mv cells m) :=
  .testGate (.storeSettle (.admitJournal (.evaluateBank (.update h.at))))

theorem Canonical.bankAtTarget (h : Canonical m) : Canonical (bankAtTarget t m) := .ite h.at (.testGate (.update h.at))
theorem Canonical.testInterval (h : Canonical m) : Canonical (testInterval t m) := .ite (.testGate (.update h.at)) h.at

theorem Canonical.runTestNow (h : Canonical m) : Canonical (m.runTestNow r c) :=
  .checked h fun h => .untargeted h fun h => .ack (.testGate (.update h))

theorem Canonical.testNow (h : Canonical m) : Canonical (testNow t m) := .serve h (·.runTestNow)

theorem Canonical.bankTemperatureChange (h : Canonical m) : Canonical (bankTemperatureChange t temp m) :=
  .testGate (.update h.at)

theorem Canonical.planCell (h : Canonical m) : Canonical (m.planCell cell) := by
  unfold Module.planCell
  refine .ite h ?_
  split
  · exact h.planned
  · exact .update h

theorem Canonical.capacitanceTest (h : Canonical m) : Canonical (capacitanceTest t before after esr m) :=
  .ite h.at (.foldl (.when (.update (.ite h.at.drawn h.at)) (·.event)) (·.planCell))

/-! ## Look-up rows -/

theorem Canonical.lookupOwnerPool (h : Canonical m) : Canonical (lookupOwnerPool t m) := .ite h h.ownerPool
theorem Canonical.lookupCombine (h : Canonical m) : Canonical (lookupCombine t m) := .ite h h.lkCombine

/-! ## The parts of a tick -/

theorem Canonical.endFrame (h : Canonical m) : Canonical m.endFrame :=
  .towerLate (.ite (.foldl h (·.deadlineAct)) (.gate (.foldl (.foldl h (·.deadlineAct)) (·.decideBatch))))

theorem Canonical.overrun (h : Canonical m) : Canonical (m.overrun f) := .ite h (.event (.count (.update h)))
theorem Canonical.applySteps (h : Canonical m) : Canonical (m.applySteps acts) := .update h

theorem Canonical.applyProfile (h : Canonical m) : Canonical (m.applyProfile p) := by
  unfold Module.applyProfile
  refine .foldl (.update h) fun h => ?_
  split
  · exact h.setCfg
  · exact h

theorem Canonical.applyShape (h : Canonical m) : Canonical (m.applyShape n acts) :=
  .foldl (.ite (.update h) h) fun h => .ite (.applyProfile (.update (.ite h.persistAction h))) (.when (.when (.ite
    h.persistAction h) (·.update)) (·.update))

theorem Canonical.applyCutovers (h : Canonical m) : Canonical (m.applyCutovers acts) :=
  .ite (.update (.foldl h.raiseEpoch (·.cutover))) (.foldl h.raiseEpoch (·.cutover))

theorem Canonical.applySwitch (h : Canonical m) : Canonical (m.applySwitch n a) := .ite (.update h.switchLot) h.switchLot

theorem Canonical.renumbered {old : Nat} (h : Canonical m) : Canonical (m.renumbered old) :=
  .originate (.foldl (.update h) fun h => .ite h.linkTo.sendLink (.ite (.sendLink (.ite h.linkTo h)) h))

theorem Canonical.applyValue (h : Canonical m) : Canonical (m.applyValue n a) := by
  unfold Module.applyValue
  dsimp only
  split
  · exact h
  · exact .ite (.ite h.armInjectors h.disarmInjectors) (.ite h (.ite h.setInjectors (.ite h.setInjectors (.ite
      (.setTimeState (.ite (.update h.setCfg) h.setCfg)) (.when (.ite (.update h.setCfg) h.setCfg) (·.renumbered))))))

theorem Canonical.jobsOff (h : Canonical m) : Canonical m.jobsOff := .ite h (.update h)

theorem Canonical.applyActions (h : Canonical m) : Canonical (m.applyActions n) :=
  .when (.jobsOff (.foldl (.foldl (.foldl (.foldl h.unplace.applySteps.applyShape.applyCutovers (·.applySwitch))
    (·.switchTable)) (·.hotFlip)) (·.applyValue))) (·.event)

theorem Canonical.trimHistory (h : Canonical m) : Canonical m.trimHistory := .update h

theorem Canonical.applyWord {w : PendWord} (h : Canonical m) : Canonical (m.applyWord n w) := by
  unfold Module.applyWord
  split
  · exact h
  · exact .update h.onLot

theorem Canonical.applyWords (h : Canonical m) : Canonical (m.applyWords n) := .foldl (.update h) (·.applyWord)
theorem Canonical.raiseAll (h : Canonical m) : Canonical m.raiseAll := .update h
theorem Canonical.governStates (h : Canonical m) : Canonical m.governStates := .ite (.count (.update h)) (.update h)

theorem Canonical.memberTick (h : Canonical m) : Canonical m.memberTick :=
  .when (.ite (.update h) (.event (.update h))) (·.originate)

theorem Canonical.beaconTick (h : Canonical m) : Canonical m.beaconTick := .update h
theorem Canonical.sendBeacons (h : Canonical m) : Canonical m.sendBeacons := .ite h (.foldl h (·.sendBeacon))
theorem Canonical.trimFrames (h : Canonical m) : Canonical m.trimFrames := .update h
theorem Canonical.postDefaults (h : Canonical m) : Canonical m.postDefaults := .foldl (.update h) (·.post)
theorem Canonical.searchTick (h : Canonical m) : Canonical m.searchTick := .gate (.update h.postDefaults)

theorem Canonical.buildTick (h : Canonical m) : Canonical (m.buildTick n) :=
  .ite h (.ite h.stopBuild (.ite h.beginBuild h))

theorem Canonical.noteService (h : Canonical m) : Canonical (m.noteService f) := .update h

theorem Canonical.bistTick (h : Canonical m) : Canonical (m.bistTick f tests) :=
  .update (.foldl (.foldl h (·.passTest)) (·.selfTest))

theorem Canonical.noteSpares (h : Canonical m) : Canonical m.noteSpares := .update (.ite h.event h)
theorem Canonical.bookTick (h : Canonical m) : Canonical m.bookTick := .ite (.update h) h

theorem Canonical.drainTickEnd (h : Canonical m) : Canonical m.drainTickEnd := by
  unfold Module.drainTickEnd
  split
  · exact h
  · refine .ite h ?_
    dsimp only
    split
    · exact .orderlyStop (.update h)
    · split
      · exact .update (.stepTime (.update h))
      · exact .update h

theorem Canonical.startTick (h : Canonical m) : Canonical (m.startTick first) :=
  .notePhase (.when (.ite (.update h.bootSucceeds) h) (·.update))

/-! ## The tick -/

theorem Canonical.tickWork {n : Nat} (h : Canonical m) : Canonical (m.tickWork n) := by
  have placed : Canonical (m.applyWords n).raiseAll.placeWaiting := h.applyWords.raiseAll.placeWaiting
  have framed := placed.governStates.memberTick.beaconTick.trimFrames
  have worked := (framed.streamsTick (n := n)).lkTick
  have searched := ((worked.jobsTick (n := n)).buildTick (n := n)).searchTick
  exact searched.sendBeacons.endBatches.openBatches

theorem Canonical.tick (h : Canonical m) : Canonical (tick tests m) :=
  .ite h (.drainTickEnd (.startTick (.bookTick (.noteSpares (.tickWork (.applyActions (.rewriteAll (.releaseTables
    (.freeLots (.trimHistory (.unless (.update (.ite h.at h.at.endFrame.noteService.bistTick)) fun h => .overrun (.foldl
    (.foldl h (·.debtFault)) (·.boundFault)))))))))))))

/-! ## The step -/

/-- Whatever next state an outcome gives is canonical. -/
def Answers (o : Host.Outcome State Fault Refusal) : Prop := ∀ s, o = .next s → Canonical s.m

theorem Canonical.next {s : State} (h : Canonical m) : Answers (.next { s with m := m }) := by
  rintro _ ⟨⟩
  exact h

/-- A command that only a well-formed operand completes. -/
theorem Canonical.guard {s : State} {c : Prop} [Decidable c] {r : Refusal} (h : Canonical m) :
    Answers (if c then .next { s with m := m } else .refused r) := by
  split
  · exact h.next
  · intro s h; cases h

/-- Each command keeps the module canonical. -/
theorem exec_answers (i : Instr) {s : State} (h : Canonical s.m) : Answers (exec i s) := by
  cases i with
  | tick => exact h.tick.next
  | changeListClose => exact h.changeListClose.next
  | deferLimitExpiry => exact h.deferExpiry.next
  | gate2 => exact h.runGate2.prepareDue.next
  | contribution => exact h.contribute.next
  | rerank => exact h.rerank.next
  | costIntervalClose => exact h.costIntervalClose.next
  | query => exact h.query.next
  | setDefaults => exact h.setDefaults.next
  | attrWrite => exact h.attrWrite.next
  | storeRead => exact h.storeRead.next
  | storeWrite => exact h.storeWrite.next
  | rangeLockRelease => exact h.rangeLockRelease.next
  | storeDataFetched => exact h.storeDataFetched.next
  | writeCacheDrain => exact h.writeCacheDrain.next
  | journalLimitUpdate => exact h.journalLimitUpdate.guard
  | powerFailIndication => exact h.powerFailIndication.next
  | start => exact h.start.next
  | mainPowerRise => exact h.mainPowerRise.next
  | standbyLost => exact h.standbyLost.next
  | rstL => exact h.rstL.next
  | lpddrInitDone => exact h.lpddrInitDone.next
  | startupLotLoad => exact h.startupLotLoad.next
  | startupLotSwitch => exact h.startupLotSwitch.next
  | masterStartupCheck => exact h.masterStartupCheck.next
  | tableRestore => exact h.tableRestore.next
  | lockFallback => exact h.lockFallback.next
  | moduleTimePersist => exact h.moduleTimePersist.next
  | ptpSync => exact h.ptpSync.next
  | syncLoss => exact h.syncLoss.next
  | holdoverLimitExceeded => exact h.holdoverLimitExceeded.next
  | timeStep => exact h.timeStep.next
  | ppsIn => exact h.ppsIn.next
  | beacon => exact h.at.rxCell.guard
  | beaconMissing => exact h.beaconMissing.next
  | emergencyStep => exact h.emergencyStep.next
  | stepRestore => exact h.stepRestore.next
  | thermalAlert => exact h.thermalAlert.guard
  | thermalTrip => exact h.thermalTrip.guard
  | move => exact h.move.next
  | gather => exact h.gather.next
  | scatterAcc => exact h.scatterAcc.next
  | mma => exact h.mma.next
  | epi => exact h.epi.next
  | skscan => exact h.skscan.next
  | wins => exact h.wins.next
  | wdrain => exact h.wdrain.next
  | argmax => exact h.argmax.next
  | reduce => exact h.reduce.next
  | pool => exact h.pool.next
  | signal => exact h.signalRow.next
  | wait => exact h.wait.next
  | rearm => exact h.rearm.next
  | halt => exact h.halt.next
  | streamStalled => exact h.streamStalled.next
  | eventCounterChange => exact h.eventCounterChange.next
  | vatAccumulateWrite => exact h.vatAccumulateWrite.guard
  | winnerWrite => exact h.winnerWrite.guard
  | gfx64Add => exact h.gfx64Add.next
  | keyedAdd => exact h.keyedAdd.next
  | lsaCombine => exact h.lsaCombine.next
  | lookupOwnerPool => exact h.lookupOwnerPool.next
  | lookupCombine => exact h.lookupCombine.next
  | lookupIncomplete => exact h.lkOverdue.next
  | hotRowRefresh => exact h.hotRefresh.next
  | reductionDeadline => exact h.reductionDeadline.next
  | tokenCell => exact h.at.rxCell.guard
  | ring => exact h.at.rxCell.guard
  | lateVerdict => exact h.lateVerdictRow.guard
  | abort => exact h.at.rxCell.guard
  | batchOpen => exact h.at.rxCell.guard
  | queryRecord => exact h.at.rxCell.guard
  | batchEnd => exact h.at.rxCell.guard
  | batchAccept => exact h.at.dropLateCells.acceptBatch.gate.next
  | towerOut => exact h.at.rxCell.guard
  | towerOutLate => exact h.at.dropLateCells.towerLate.next
  | answer => exact h.at.rxCell.guard
  | cascadeMerge => exact h.at.dropLateCells.cascadeMerge.next
  | sched => exact h.at.rxCell.guard
  | doneCell => exact h.at.rxCell.guard
  | stateCell => exact h.at.rxCell.guard
  | stateOriginate => exact h.stateOriginate.next
  | link => exact h.at.rxCell.guard
  | delay => exact h.at.rxCell.guard
  | delayInterval => exact h.delayInterval.next
  | readReq => exact h.at.rxCell.guard
  | readData => exact h.at.rxCell.guard
  | writeCell => exact h.at.rxCell.guard
  | acc => exact h.at.rxCell.guard
  | remoteSignal => exact h.at.rxCell.guard
  | lookup => exact h.at.rxCell.guard
  | remoteTimeout => exact h.remoteTimeout.next
  | gapNak => exact h.gapNak.next
  | replayTimeout => exact h.replayTimeout.next
  | reservedTypeCell => exact h.at.rxCell.guard
  | laneLock => exact h.laneLock.next
  | laneLoss => exact h.laneLoss.next
  | linkRetry => exact h.linkRetry.next
  | laneCrcCheck => exact h.laneCrcCheck.next
  | rocePacket => exact h.rocePacket.guard
  | ackDelayExpiry => exact h.ackDelayExpiry.next
  | localAckTimeout => exact h.localAckTimeout.next
  | cnp => exact h.cnp.next
  | rateRecover => exact h.rateRecover.next
  | pfcFrame => exact h.pfcFrame.next
  | hostRdmaWrite => exact h.hostRdmaWrite.next
  | hostRdmaRead => exact h.hostRdmaRead.next
  | req => exact h.req.next
  | rtu => exact h.rtu.next
  | dreq => exact h.dreq.next
  | linkDownHold => exact h.linkDownHold.next
  | neighbourResolution => exact h.neighbourResolution.next
  | reorderHoldExpiry => exact h.reorderHoldExpiry.next
  | injectLimit => exact h.injectLimit.next
  | vilurDatagram =>
    unfold exec execVilurDatagram
    exact h.vilurDatagram.guard
  | read => exact h.read.next
  | readPending => exact h.readPending.next
  | writeOd => exact h.writeOd.next
  | stage => exact h.stage.next
  | writeStaged => exact h.writeStaged.next
  | challenge => exact h.challenge.next
  | unlock => exact h.unlock.next
  | lock => exact h.lock.next
  | subscribe => exact h.subscribe.next
  | unsubscribe => exact h.unsubscribe.next
  | ping => exact h.ping.next
  | notify => exact h.notify.next
  | clientIdle => exact h.clientIdle.next
  | maintainExpiry => exact h.maintainExpiry.next
  | lockAll => exact h.lockAll.next
  | tickPeriodWrite => exact h.tickPeriodWrite.next
  | profileWrite => exact h.profileWrite.next
  | powerCapWrite => exact h.powerCapWrite.next
  | lotLoad => exact h.lotLoad.next
  | loadDone => exact h.loadDone.next
  | lotUnstage => exact h.lotUnstage.next
  | lotSwitch => exact h.lotSwitch.next
  | lotRollback => exact h.lotRollback.next
  | lotImport => exact h.lotImport.next
  | importDone => exact h.importDone.next
  | lotDelete => exact h.lotDelete.next
  | holdPreviousClear => exact h.holdPreviousClear.next
  | lotRepaired => exact h.lotRepaired.next
  | buildStart => exact h.buildStart.next
  | buildCancel => exact h.buildCancel.next
  | buildEnded => exact h.buildEnded.next
  | streamArm => exact h.streamArm.next
  | streamDisarm => exact h.streamDisarm.next
  | streamRearm => exact h.streamRearm.next
  | tableStage => exact h.tableStage.next
  | tableUnstage => exact h.tableUnstage.next
  | tableSwitch => exact h.tableSwitch.next
  | tableLoad => exact h.tableLoad.next
  | jobConfig => exact h.jobConfig.next
  | jobStart => exact h.jobStart.next
  | jobStop => exact h.jobStop.next
  | jobsEnable => exact h.jobsEnable.next
  | digestCheck => exact h.digestCheck.next
  | sessionReset => exact h.sessionReset.next
  | window => exact h.window.next
  | shardMap => exact h.shardMap.next
  | userRegionBytes => exact h.userRegionBytes.next
  | storeAreaBytes => exact h.storeAreaBytes.next
  | sliceReserveBytes => exact h.sliceReserveBytes.next
  | ownerKeyReplace => exact h.ownerKeyReplace.next
  | ownerClear => exact h.ownerClear.next
  | attestRequest => exact h.attestRequest.next
  | fwUpdate => exact h.fwUpdate.next
  | fwUpdateDone => exact h.fwUpdateDone.next
  | fwCommit => exact h.fwCommit.next
  | debugEnable => exact h.debugEnable.next
  | orderlyReset => exact h.orderlyReset.next
  | immediateReset => exact h.immediateReset.next
  | factoryReset => exact h.factoryReset.next
  | cutoverRequest => exact h.cutoverRequest.next
  | clearFailed => exact h.clearFailed.next
  | eventQuery => exact h.eventQuery.next
  | injectArm => exact h.injectArm.next
  | injectorWrite => exact h.injectorWrite.next
  | testNow => exact h.testNow.next
  | capacitanceTest => exact h.capacitanceTest.guard
  | bankAtTarget => exact h.bankAtTarget.next
  | testInterval => exact h.testInterval.next
  | hangLimit => exact h.hangLimit.next
  | unsparable => exact h.unsparable.next
  | memoryError => exact h.memoryError.next
  | patrolScrub => exact h.patrolScrub.next
  | refreshPoll => exact h.refreshPoll.next
  | healthWindow => exact h.healthWindow.next
  | codeCheck => exact h.codeCheck.next
  | watchdog => exact h.watchdog.next
  | status => exact h.status.next
  | inputPower => exact h.inputPower.next
  | hottest => exact h.hottest.next
  | capLimit => exact h.capLimit.next
  | ownerKeyChunk => exact h.ownerKeyChunk.guard
  | ownerKeyCommit => exact h.ownerKeyCommit.guard
  | smbusOwnerClear => exact h.smbusOwnerClear.next
  | keyResult => exact h.keyResult.next
  | hostLinkChange => exact h.hostLinkChange.next
  | standbyRise => exact h.standbyRise.next
  | thermalAlertEnd => exact h.thermalAlertEnd.guard
  | bankTemperatureChange => exact h.bankTemperatureChange.next
  | ppsOutPulse => exact h.ppsOutPulse.next
  | ptpMessage => exact h.ptpMessage.next
  | ptpInterval => exact h.ptpInterval.next
  | schedTimeout => exact h.schedTimeout.next
  | rnrRetry => exact h.rnrRetry.next
  | cellCrcFail => exact h.cellCrcFail.next
  | idle => exact h.at.rxCell.guard
  | fcsError => exact h.fcsError.next

theorem step_answers {s : State} (h : Canonical s.m) : Answers (Machine.step s) := by
  unfold Machine.step
  split
  · exact h.next
  · exact exec_answers _ h

/-- Settles O59, by the lemmas above: each command keeps the canonical form, and an idle step changes nothing. -/
theorem memoryStaysCanonical : Obligations.MemoryStaysCanonical := by
  unfold Obligations.MemoryStaysCanonical
  intro s t canonical next
  rw [← canonical_iff] at canonical ⊢
  exact step_answers canonical t next

/-- Settles O60: at reset no memory lists a byte. -/
theorem resetMemoryIsCanonical : Obligations.ResetMemoryIsCanonical := ⟨rfl, rfl⟩

end Sys2Proof.CanonicalMemory
end

section
/-! Memory errors (12 R362 to R364, 18 R500): what every error leaves behind, what a class and a source add to it, and
what an uncorrectable error of LPDDR5X does. -/

namespace Sys2Proof.MemoryErrors

open Sys2Proof.Machine Sys2Proof.Laws Sys2Proof.Operands

/-! ## What every error leaves behind -/

/-- The address of the burst or of the unit of an error. -/
def errorUnit (source addr : Nat) : Nat := if source = 0 ∨ source = 3 then addr / 64 * 64 else addr / 32 * 32

/-- The module once an error is counted. -/
def errorCounted (source cls : Nat) (m : Module) : Module := (errorCounter source cls).elim m fun c => m.count 0x4000 c 1

/-- The module once an error at a unit is counted and recorded. -/
def errorNoted (source cls a syndrome : Nat) (m : Module) : Module :=
  { errorCounted source cls m with
    mem := { (errorCounted source cls m).mem with lastError := (errorCounted source cls m).errorRecord source cls a syndrome } }

/-- From m to m' time has come to t, and an error of a source and a class is recorded at a unit and counted. -/
def Notes (m : Module) (t source cls a syndrome : Nat) (m' : Module) : Prop :=
  m'.clock.now = t ∧ m'.mem.lastError = m.errorRecord source cls a syndrome
    ∧ ∀ k, mGetD m'.od.cnt k 0 = (match errorCounter source cls with
        | some c => if k = odKey 0x4000 c 0 then (mGetD m.od.cnt k 0 + 1) % 2 ^ 64 else mGetD m.od.cnt k 0
        | none => mGetD m.od.cnt k 0)

section
variable (source cls a syndrome : Nat) (m : Module)

/-- Only the counters and the record of the error change. -/
theorem errorNoted_eq : ∃ n, errorNoted source cls a syndrome m =
    { m with od := { m.od with cnt := n }, mem := { m.mem with lastError := m.errorRecord source cls a syndrome } } := by
  unfold errorNoted errorCounted
  cases errorCounter source cls with
  | none => exact ⟨_, rfl⟩
  | some c => exact ⟨_, rfl⟩

@[simp] theorem errorNoted_clock : (errorNoted source cls a syndrome m).clock = m.clock := by
  obtain ⟨n, e⟩ := errorNoted_eq source cls a syndrome m
  rw [e]

@[simp] theorem errorNoted_health : (errorNoted source cls a syndrome m).health = m.health := by
  obtain ⟨n, e⟩ := errorNoted_eq source cls a syndrome m
  rw [e]

@[simp] theorem errorNoted_mem :
    (errorNoted source cls a syndrome m).mem = { m.mem with lastError := m.errorRecord source cls a syndrome } := by
  obtain ⟨n, e⟩ := errorNoted_eq source cls a syndrome m
  rw [e]

@[simp] theorem errorNoted_cfg (i k : Nat) : (errorNoted source cls a syndrome m).cfg i k = m.cfg i k := by
  obtain ⟨n, e⟩ := errorNoted_eq source cls a syndrome m
  rw [e]
  rfl

theorem only_errorNoted : Only [.cnt, .mem] m (errorNoted source cls a syndrome m) := by
  obtain ⟨n, e⟩ := errorNoted_eq source cls a syndrome m
  rw [e]
  intro g hg
  cases g <;> simp_all [Part.same]

theorem cnt_errorCounted (k : Nat) : mGetD (errorCounted source cls m).od.cnt k 0 = (match errorCounter source cls with
    | some c => if k = odKey 0x4000 c 0 then (mGetD m.od.cnt k 0 + 1) % 2 ^ 64 else mGetD m.od.cnt k 0
    | none => mGetD m.od.cnt k 0) := by
  unfold errorCounted
  cases errorCounter source cls with
  | none => rfl
  | some c => exact cnt_countI m 0x4000 c 0 1 k

/-- The error is noted at the time that it comes. -/
theorem errorNoted_notes {t : Nat} (le : m.clock.now ≤ t) :
    Notes m t source cls a syndrome (errorNoted source cls a syndrome (m.at t)) := by
  refine ⟨?_, ?_, cnt_errorCounted source cls (m.at t)⟩
  · rw [errorNoted_clock, Module.at_now, Nat.max_eq_right le]
  · rw [errorNoted_mem]
    rfl

end

/-- What is noted stays noted while time, the record and the counters stay. -/
theorem Notes.congr {m m' m'' : Module} {t source cls a syndrome : Nat} (h : Notes m t source cls a syndrome m')
    (now : m''.clock.now = m'.clock.now) (last : m''.mem.lastError = m'.mem.lastError) (cnt : m''.od.cnt = m'.od.cnt) :
    Notes m t source cls a syndrome m'' := by
  unfold Notes
  rw [now, last, cnt]
  exact h

/-! ## Corrected and transient errors -/

/-- One more corrected error of a tile. -/
def oneMore (h : TileHealth) : TileHealth := { h with corrected := satAdd 32 h.corrected 1 }

/-- One more corrected error of a page. -/
def countPage (page : Nat) (m : Module) : Module :=
  { m with mem := { m.mem with pageErrors := mAdd m.mem.pageErrors page 1 } }

/-- One more corrected error of a slice row. -/
def countRow (row : Nat) (m : Module) : Module :=
  { m with mem := { m.mem with rowErrors := mAdd m.mem.rowErrors row 1 } }

/-- The tile of an address of a slice or of a Vat file. -/
def errorTile (a : Nat) : Nat := (a - 0x040000000000) / 0x800000 % 512

/-- The slice row of an address, as the window counts it. -/
def errorRow (a : Nat) : Nat := errorTile a * 2 ^ 15 + (a - 0x040000000000) % 0x800000 / 256

theorem only_countPage {page : Nat} {m : Module} : Only [.mem] m (countPage page m) := by
  intro g hg
  cases g <;> simp_all [Part.same, countPage]

theorem only_countRow {row : Nat} {m : Module} : Only [.mem] m (countRow row m) := by
  intro g hg
  cases g <;> simp_all [Part.same, countRow]

theorem only_onTileHealth {m : Module} {t : Nat} {f : TileHealth → TileHealth} : Only [.health] m (m.onTileHealth t f) := by
  intro g hg
  cases g <;> simp_all [Part.same, Module.onTileHealth]

theorem tileHealth_onTileHealth (m : Module) (t u : Nat) (f : TileHealth → TileHealth) :
    (m.onTileHealth t f).tileHealth u = if u = t then f (m.tileHealth t) else m.tileHealth u := mGetD_mPut ..

/-- One tile has one more corrected error, and the others as many as they had. -/
theorem tileHealth_oneMore {m m' : Module} (t : Nat) (same : m'.health = m.health) :
    (m'.onTileHealth t oneMore).tileHealth t = oneMore (m.tileHealth t)
      ∧ ∀ k, k ≠ t → (m'.onTileHealth t oneMore).tileHealth k = m.tileHealth k := by
  have keep (k : Nat) : m'.tileHealth k = m.tileHealth k := by unfold Module.tileHealth; rw [same]
  constructor
  · rw [tileHealth_onTileHealth, if_pos rfl, keep]
  · intro k away
    rw [tileHealth_onTileHealth, if_neg away, keep]

/-- A window's count of a part stays below its limit. -/
theorem ceReaches_below {l : List (Nat × Nat)} {k limit : Nat} (below : mGetD l k 0 + 1 < limit) :
    (ceReaches l k limit).2 = false := by
  simp [ceReaches, mGetD_mAdd, below]

section
variable (addr syndrome : Nat) (m : Module)

/-- An error that no rule acts on is noted, and nothing more. -/
theorem memoryFault_quiet {source cls : Nat} (notLost : cls ≠ 2) (quiet : cls ≠ 0 ∨ source = 3) :
    m.memoryFault source cls addr syndrome = errorNoted source cls (errorUnit source addr) syndrome m := by
  unfold Module.memoryFault errorNoted errorCounted errorUnit
  rcases quiet with transient | rfl
  · cases errorCounter source cls <;> simp [*]
  · cases errorCounter 3 cls <;> simp [*]

/-- A corrected error of LPDDR5X: its page is retired where the window's count reaches the limit. -/
theorem memoryFault_page : m.memoryFault 0 0 addr syndrome =
    let n := errorNoted 0 0 (errorUnit 0 addr) syndrome m
    let page := pageOf (errorUnit 0 addr)
    if (ceReaches n.mem.pageErrors page (n.cfg 0x6000 0x0D)).2 then (countPage page n).retirePage page
    else countPage page n := rfl

/-- A corrected error of a slice: its row is retired where the window's count reaches the limit. -/
theorem memoryFault_row : m.memoryFault 1 0 addr syndrome =
    let n := errorNoted 1 0 (errorUnit 1 addr) syndrome m
    let row := (errorUnit 1 addr - 0x040000000000) % 0x800000 / 256
    let counted := (countRow (errorRow (errorUnit 1 addr)) n).onTileHealth (errorTile (errorUnit 1 addr)) oneMore
    if (ceReaches n.mem.rowErrors (errorRow (errorUnit 1 addr)) (n.cfg 0x6000 0x0C)).2 then
      counted.retireRow (errorTile (errorUnit 1 addr)) row else counted := rfl

theorem memoryFault_page_below (below : mGetD m.mem.pageErrors (pageOf (errorUnit 0 addr)) 0 + 1 < m.cfg 0x6000 0x0D) :
    m.memoryFault 0 0 addr syndrome = countPage (pageOf (errorUnit 0 addr)) (errorNoted 0 0 (errorUnit 0 addr) syndrome m) := by
  have within := ne_true_of_eq_false (ceReaches_below below)
  simp only [memoryFault_page, errorNoted_cfg, errorNoted_mem, if_neg within]

theorem memoryFault_row_below (below : mGetD m.mem.rowErrors (errorRow (errorUnit 1 addr)) 0 + 1 < m.cfg 0x6000 0x0C) :
    m.memoryFault 1 0 addr syndrome =
      (countRow (errorRow (errorUnit 1 addr)) (errorNoted 1 0 (errorUnit 1 addr) syndrome m)).onTileHealth
        (errorTile (errorUnit 1 addr)) oneMore := by
  have within := ne_true_of_eq_false (ceReaches_below below)
  simp only [memoryFault_row, errorNoted_cfg, errorNoted_mem, if_neg within]

/-- A corrected error of a Vat file. -/
theorem memoryFault_vat : m.memoryFault 2 0 addr syndrome =
    (errorNoted 2 0 (errorUnit 2 addr) syndrome m).onTileHealth (errorTile (errorUnit 2 addr)) oneMore := rfl

end

section
variable {s : State} {t addr syndrome : Nat}

theorem memoryError_eq {source cls : Nat} (placed : s.m.errorAddrOk source addr = true) :
    memoryError t source cls addr syndrome s.m = (s.m.at t).memoryFault source cls addr syndrome := if_pos placed

theorem only_noted {source cls a : Nat} : Only [.now, .cnt, .mem] s.m (errorNoted source cls a syndrome (s.m.at t)) :=
  ((only_at s.m t).mono (by simp)).trans ((only_errorNoted source cls a syndrome (s.m.at t)).mono (by simp))

variable (le : s.m.clock.now ≤ t)
include le

theorem memoryError_quiet {source cls : Fin 4} (placed : s.m.errorAddrOk source.val addr = true) (notLost : cls.val ≠ 2)
    (quiet : cls.val ≠ 0 ∨ source.val = 3) :
    Completes (.memoryError t source cls addr syndrome) s [.now, .cnt, .mem] (fun m' =>
      Notes s.m t source.val cls.val (errorUnit source.val addr) syndrome m'
        ∧ m'.mem = { s.m.mem with lastError := m'.mem.lastError }) := by
  refine completes_of_run rfl ((memoryError_eq placed).trans (memoryFault_quiet addr syndrome _ notLost quiet))
    only_noted ⟨errorNoted_notes _ _ _ _ _ le, ?_⟩
  simp

theorem memoryError_page (placed : s.m.errorAddrOk 0 addr = true)
    (below : mGetD s.m.mem.pageErrors (pageOf (errorUnit 0 addr)) 0 + 1 < s.m.cfg 0x6000 0x0D) :
    Completes (.memoryError t 0 0 addr syndrome) s [.now, .cnt, .mem] (fun m' => Notes s.m t 0 0 (errorUnit 0 addr) syndrome m'
      ∧ m'.mem = { s.m.mem with
          lastError := m'.mem.lastError, pageErrors := mAdd s.m.mem.pageErrors (pageOf (errorUnit 0 addr)) 1 }) := by
  refine completes_of_run rfl ((memoryError_eq placed).trans (memoryFault_page_below addr syndrome _ below))
    (only_noted.trans (only_countPage.mono (by simp))) ⟨(errorNoted_notes _ _ _ _ _ le).congr rfl rfl rfl, ?_⟩
  simp [countPage]

theorem memoryError_row (placed : s.m.errorAddrOk 1 addr = true)
    (below : mGetD s.m.mem.rowErrors (errorRow (errorUnit 1 addr)) 0 + 1 < s.m.cfg 0x6000 0x0C) :
    Completes (.memoryError t 1 0 addr syndrome) s [.now, .cnt, .mem, .health] (fun m' =>
      Notes s.m t 1 0 (errorUnit 1 addr) syndrome m'
        ∧ m'.mem = { s.m.mem with
            lastError := m'.mem.lastError, rowErrors := mAdd s.m.mem.rowErrors (errorRow (errorUnit 1 addr)) 1 }
        ∧ m'.tileHealth (errorTile (errorUnit 1 addr)) = oneMore (s.m.tileHealth (errorTile (errorUnit 1 addr)))
        ∧ ∀ k, k ≠ errorTile (errorUnit 1 addr) → m'.tileHealth k = s.m.tileHealth k) := by
  refine completes_of_run rfl ((memoryError_eq placed).trans (memoryFault_row_below addr syndrome _ below))
    ((only_noted.mono (by simp)).trans ((only_countRow.mono (by simp)).trans (only_onTileHealth.mono (by simp))))
    ⟨(errorNoted_notes _ _ _ _ _ le).congr rfl rfl rfl, ?_, tileHealth_oneMore _ (by simp [countRow])⟩
  simp [countRow, Module.onTileHealth]

theorem memoryError_vat (placed : s.m.errorAddrOk 2 addr = true) :
    Completes (.memoryError t 2 0 addr syndrome) s [.now, .cnt, .mem, .health] (fun m' =>
      Notes s.m t 2 0 (errorUnit 2 addr) syndrome m' ∧ m'.mem = { s.m.mem with lastError := m'.mem.lastError }
        ∧ m'.tileHealth (errorTile (errorUnit 2 addr)) = oneMore (s.m.tileHealth (errorTile (errorUnit 2 addr)))
        ∧ ∀ k, k ≠ errorTile (errorUnit 2 addr) → m'.tileHealth k = s.m.tileHealth k) := by
  refine completes_of_run rfl ((memoryError_eq placed).trans (memoryFault_vat addr syndrome _))
    ((only_noted.mono (by simp)).trans (only_onTileHealth.mono (by simp)))
    ⟨(errorNoted_notes _ _ _ _ _ le).congr rfl rfl rfl, ?_, tileHealth_oneMore _ (errorNoted_health ..)⟩
  simp [Module.onTileHealth]

end

/-- Settles O29, by the class and the source of the error. -/
theorem correctedErrorsOnlyCount : Obligations.CorrectedErrorsOnlyCount := by
  unfold Obligations.CorrectedErrorsOnlyCount
  intro s t addr syndrome source cls le placed notLost
  refine ⟨memoryError_quiet le placed notLost, fun corrected lpddr below => ?_, fun corrected slice below => ?_,
    fun corrected vat => ?_⟩
  all_goals obtain rfl : cls = 0 := Fin.ext corrected
  · obtain rfl : source = 0 := Fin.ext lpddr
    exact memoryError_page le placed below
  · obtain rfl : source = 1 := Fin.ext slice
    exact memoryError_row le placed below
  · obtain rfl : source = 2 := Fin.ext vat
    exact memoryError_vat le placed

/-! ## Uncorrectable errors of LPDDR5X -/

theorem mem_insertBy {α : Type} {le : α → α → Bool} {x y : α} {l : List α} : y ∈ insertBy le x l ↔ y = x ∨ y ∈ l := by
  induction l with
  | nil => exact List.mem_cons
  | cons z r ih =>
    unfold insertBy
    split
    · exact List.mem_cons
    · rw [List.mem_cons, ih, List.mem_cons, or_left_comm]

section
variable {m : Module} {a page : Nat}

/-- Outside the Lots' copies a burst becomes poisoned, and no other. -/
theorem poisonBurst_outside (outside : ∀ b ∈ m.lotBases, ¬ (b.2 ≤ a ∧ a < b.2 + b.1.space)) :
    ∃ p, m.poisonBurst a = { m with mem := { m.mem with poison := p } } ∧ ∀ k, k ∈ p ↔ k = a / 64 ∨ k ∈ m.mem.poison := by
  have none : m.lotBases.find? (fun b => decide (b.2 ≤ a ∧ a < b.2 + b.1.space)) = none := by
    simpa [List.find?_eq_none] using outside
  unfold Module.poisonBurst
  rw [none]
  dsimp only
  split
  · next stands => exact ⟨_, rfl, fun k => (or_iff_right_of_imp fun e => e ▸ List.contains_iff_mem.mp stands).symm⟩
  · exact ⟨_, rfl, fun k => mem_insertBy⟩

theorem only_planned {kind part spare : Nat} : Only [.schedule, .nextSeq, .health] m (m.planned kind part spare) := by
  refine Only.ite ?_ ((only_place m _).mono (by simp))
  intro g hg
  cases g <;> simp_all [Part.same]

theorem only_retirePage : Only [.schedule, .nextSeq, .health] m (m.retirePage page) :=
  Only.ite (Only.refl _ m) (Only.ite only_planned (Only.refl _ m))

theorem retirePage_pending (pending : m.cutPending 3 page = true) : m.retirePage page = m := if_pos pending

/-- The memory and the counters stay while a page's retirement is planned. -/
theorem retirePage_keeps (m : Module) (page : Nat) : (m.retirePage page).mem = m.mem ∧ (m.retirePage page).od = m.od := by
  unfold Module.retirePage
  split
  · exact ⟨rfl, rfl⟩
  split
  · unfold Module.planned
    dsimp only
    split <;> exact ⟨rfl, rfl⟩
  · exact ⟨rfl, rfl⟩

/-- With a spare page left and room in the schedule, the retirement is placed at F + D + 2. -/
theorem retirePage_plans (idle : m.cutPending 3 page = false) (room : m.scheduleFull = false)
    (spare : mGetD m.mem.sparePages (page % 32) 0 < m.packagePages) :
    ∃ x ∈ (m.retirePage page).schedule, x.kind = 4 ∧ x.part = partOf 3 page 0
      ∧ x.target = m.clock.firstFrame + m.clock.depth + 2 := by
  unfold Module.retirePage Module.planned
  rw [if_neg (ne_true_of_eq_false idle), if_pos spare, if_neg (ne_true_of_eq_false room)]
  exact ⟨_, mem_insertBy.mpr (.inl rfl), rfl, rfl, rfl⟩

end

/-- An event that a module logs in its own state of the log is the newest of its source. -/
theorem event_logged {m n : Module} {time source code data : Nat} (log : n.health.nextSeq = m.health.nextSeq)
    (now : n.clock.now = time) (frame : n.clock.sfc = m.clock.sfc) (small : data < 2 ^ 64) :
    Logged m (n.event source code data) time source code data := by
  subst now
  constructor
  · simp only [Module.event, mGetD_mPut, if_true, List.getLast?_concat, log, frame, Nat.mod_eq_of_lt small]
  · simp only [Module.event, mGetD_mPut, if_true, log]

/-- What is logged stays logged while the log stays. -/
theorem logged_congr {m m' m'' : Module} {time source code data : Nat} (h : Logged m m' time source code data)
    (log : Part.events.same m' m'') : Logged m m'' time source code data := by
  obtain ⟨events, seqs, -⟩ := log
  exact ⟨by rw [events]; exact h.newest, by rw [seqs]; exact h.next⟩

/-- The parts that an uncorrectable error of LPDDR5X may change, but for the plan to retire its page. -/
abbrev lostParts : List Part := [.now, .cnt, .mem, .lpddr, .events, .clients]

/-- An uncorrectable error of LPDDR5X, before its page's retirement is planned: it is noted and logged, and its burst is
poisoned. -/
structure Lost (m : Module) (t a syndrome : Nat) (m' : Module) : Prop where
  only : Only lostParts m m'
  notes : Notes m t 0 2 a syndrome m'
  bytes : m'.mem.lpddr = m.mem.lpddr
  lots : m'.mem.lotPoison = m.mem.lotPoison
  clock : m'.clock = (m.at t).clock
  spares : m'.mem.sparePages = m.mem.sparePages
  poison : ∀ k, k ∈ m'.mem.poison ↔ k = a / 64 ∨ k ∈ m.mem.poison
  logged : a < 2 ^ 64 → Logged m m' t 0x0008 1 a

/-- The error poisons its burst; its page's retirement follows. -/
theorem memoryFault_lost (m : Module) (addr syndrome : Nat) : m.memoryFault 0 2 addr syndrome =
    let a := errorUnit 0 addr
    (((errorNoted 0 2 a syndrome m).event 0x0008 1 a).poisonBurst a).retirePage (pageOf a) := rfl

theorem lost_poisonBurst {m : Module} {t a syndrome : Nat} (le : m.clock.now ≤ t)
    (outside : ∀ b ∈ m.lotBases, ¬ (b.2 ≤ a ∧ a < b.2 + b.1.space)) :
    Lost m t a syndrome (((errorNoted 0 2 a syndrome (m.at t)).event 0x0008 1 a).poisonBurst a) := by
  have noted := errorNoted_notes 0 2 a syndrome m le
  have same : ((errorNoted 0 2 a syndrome (m.at t)).event 0x0008 1 a).lotBases = m.lotBases := by
    obtain ⟨n, e⟩ := errorNoted_eq 0 2 a syndrome (m.at t)
    rw [e]
    rfl
  obtain ⟨p, e, mem⟩ := poisonBurst_outside (m := (errorNoted 0 2 a syndrome (m.at t)).event 0x0008 1 a) (by rwa [same])
  have logged (small : a < 2 ^ 64) : Logged m ((errorNoted 0 2 a syndrome (m.at t)).event 0x0008 1 a) t 0x0008 1 a :=
    event_logged (by simp) noted.1 (by simp) small
  rw [e]
  have only : Only lostParts m ((errorNoted 0 2 a syndrome (m.at t)).event 0x0008 1 a) :=
    (((only_at m t).mono (by simp)).trans ((only_errorNoted 0 2 a syndrome (m.at t)).mono (by simp))).trans
      ((only_event _ 0x0008 1 a).mono (by simp))
  exact {
    only := only.trans (only_lpddr.mono (by simp))
    notes := noted.congr rfl rfl rfl
    bytes := by simp
    lots := by simp
    clock := by simp
    spares := by simp
    poison := fun k => by simpa using mem k
    logged := fun small => logged_congr (logged small) ⟨rfl, rfl, rfl⟩ }

section
variable {m m' : Module} {t a syndrome : Nat} (h : Lost m t a syndrome m')
include h

theorem Lost.cutPending (kind part : Nat) : m'.cutPending kind part = m.cutPending kind part := by
  have placed : m'.schedule = m.schedule := h.only .schedule (by simp)
  have waiting : m'.health.waiting = m.health.waiting := by
    have rest : { m'.health with events := [], nextSeq := [], overwritten := [] } =
      { m.health with events := [], nextSeq := [], overwritten := [] } := h.only .health (by simp)
    exact (congrArg Health.waiting rest :)
  unfold Module.cutPending
  rw [placed, waiting]

theorem Lost.scheduleFull : m'.scheduleFull = m.scheduleFull := by
  have placed : m'.schedule = m.schedule := h.only .schedule (by simp)
  unfold Module.scheduleFull
  rw [placed]

theorem Lost.packagePages : m'.packagePages = m.packagePages := by
  have boot : m'.boot = m.boot := h.only .boot (by simp)
  unfold Module.packagePages
  rw [boot]

end

/-- Settles O30: the burst is poisoned and the error logged, and the plan to retire the page leaves both as they are. -/
theorem uncorrectableErrorsPoison : Obligations.UncorrectableErrorsPoison := by
  unfold Obligations.UncorrectableErrorsPoison
  intro s t addr syndrome le placed a outside
  have lost := lost_poisonBurst (syndrome := syndrome) le outside
  have run : memoryError t 0 2 addr syndrome s.m = _ := (memoryError_eq placed).trans (memoryFault_lost ..)
  dsimp only at run
  have unit : errorUnit 0 addr = a := rfl
  rw [unit] at run
  generalize ((errorNoted 0 2 a syndrome (s.m.at t)).event 0x0008 1 a).poisonBurst a = q at lost run
  obtain ⟨mem, od⟩ := retirePage_keeps q (pageOf a)
  obtain ⟨-, record, counters⟩ := lost.notes
  have plan : Only [.schedule, .nextSeq, .health] q (q.retirePage (pageOf a)) := only_retirePage
  refine completes_of_run rfl run (Only.trans (lost.only.mono (by simp)) (plan.mono (by simp)))
    ⟨?_, ?_, ?_, ?_, ?_, ?_, ?_, ?_⟩
  · rw [mem, lost.bytes]
  · rw [mem, lost.lots]
  · rw [mem]
    exact lost.poison
  · rw [ctr_congr (congrArg Od.cnt od)]
    exact counters (odKey 0x4000 0x0A 0)
  · rw [mem]
    exact record
  · exact fun small => logged_congr (lost.logged small) (plan .events (by simp))
  · intro pending
    rw [retirePage_pending (by rwa [lost.cutPending])]
    exact lost.only .schedule (by simp)
  · intro idle room spare
    rw [← lost.cutPending] at idle
    rw [← lost.scheduleFull] at room
    rw [← lost.packagePages, ← lost.spares] at spare
    have planned := retirePage_plans idle room spare
    rwa [lost.clock] at planned

end Sys2Proof.MemoryErrors
end
